-- ==== Sys2Proof/Word.lean ====
section
/-!
DEFINITION. Word.lean: the word types of the ZA7240 model and their plainest arithmetic.
A DWORD is what one register or one signal-board entry holds (R17, R460).
-/
namespace Sys2Proof

/-- One DWORD: a page register, a window word or a signal-board entry. -/
abbrev Word := BitVec 32

/-- One byte of a window, of record memory or of a byte-array register. -/
abbrev Byte := BitVec 8

/-- The word whose unsigned value is `n` modulo 2^32. -/
def Word.ofNat (n : Nat) : Word := BitVec.ofNat 32 n

/-- The word that holds the two's complement of `i`. -/
def Word.ofInt (i : Int) : Word := BitVec.ofInt 32 i

/-- The signed value of a word. -/
def Word.toInt (w : Word) : Int := BitVec.toInt w

end Sys2Proof
end

