-- ==== Sys2Proof/Machine/Bits.lean ====
section
/-!
DEFINITION. Machine/Bits.lean: bit fields, sign extension, rounding and saturation, and the sparse
tables in which the state holds its memories and its numbered units.
-/
namespace Sys2Proof.Machine

open Sys2Proof

/-- Bits [hi:lo] of a natural number. -/
def bitsOf (n hi lo : Nat) : Nat := (n >>> lo) % 2 ^ (hi + 1 - lo)

/-- Bit `i` of a natural number. -/
def bitOf (n i : Nat) : Bool := n.testBit i

/-- Field [hi:lo] of a word, in the notation of "Numbers and notation". -/
def fld (w : Word) (hi lo : Nat) : Nat := bitsOf w.toNat hi lo

/-- Bit `i` of a word. -/
def wbit (w : Word) (i : Nat) : Bool := w.getLsbD i

/-- The mask of bits [hi:lo]. -/
def fieldMask (hi lo : Nat) : Word := Word.ofNat ((2 ^ (hi + 1 - lo) - 1) <<< lo)

/-- The word with field [hi:lo] replaced by the low bits of `v`. -/
def setFld (w : Word) (hi lo v : Nat) : Word :=
  (w &&& ~~~ fieldMask hi lo) ||| (Word.ofNat (v <<< lo) &&& fieldMask hi lo)

/-- The word with bit `i` set or cleared. -/
def setBit (w : Word) (i : Nat) (b : Bool) : Word := setFld w i i b.toNat

/-- The two's complement value of the low `bits` bits of `n`. -/
def sx (bits n : Nat) : Int :=
  if (n % 2 ^ bits) < 2 ^ (bits - 1) then (n % 2 ^ bits : Nat) else (n % 2 ^ bits : Nat) - (2 ^ bits : Nat)

/-- The low `bits` bits of the two's complement of `i`. -/
def unsx (bits : Nat) (i : Int) : Nat := (i % (2 ^ bits : Nat)).toNat

/-- `i` brought into [lo, hi]. -/
def clampInt (lo hi i : Int) : Int := if i < lo then lo else if hi < i then hi else i

/-- The bits of `mask` taken from `v`, the others from `w`. -/
def merge (mask w v : Word) : Word := (w &&& ~~~ mask) ||| (v &&& mask)

/-- The set bits of a natural number below `n`, in ascending order. -/
def onesBelow (n m : Nat) : List Nat := (List.range n).filter (fun i => m.testBit i)

/-- A counter of `bits` bits that saturates. -/
def satInc (bits n : Nat) : Nat := if n + 1 < 2 ^ bits then n + 1 else 2 ^ bits - 1

/-! ### Rounding (R64)

The arithmetic of the lanes is exact; a value is rounded and saturated where it is stored. -/

/-- `acc / 2^s` rounded to nearest, ties to even: the first part of store32 (R64). -/
def roundShift (acc : Int) (s : Nat) : Int :=
  if s = 0 then acc else
  let q := acc / (2 ^ s : Nat)
  let rem := acc - q * (2 ^ s : Nat)
  let half : Int := (2 ^ (s - 1) : Nat)
  if rem > half ∨ (rem = half ∧ q % 2 = 1) then q + 1 else q

/-- `num / den` rounded to nearest, ties to even. -/
def roundDiv (num : Int) (den : Nat) : Int :=
  let q := num / (den : Int)
  let r := num - q * den
  if 2 * r > den ∨ (2 * r = den ∧ q % 2 = 1) then q + 1 else q

/-- The greatest signal word, 8 − 2^−28 in Q4.28 (R64). -/
def sigMax : Int := 0x7FFFFFFF

/-- Saturation to the signal-word range of R64; no store produces 0x8000_0000. -/
def satWord (q : Int) : Int := clampInt (-sigMax) sigMax q

/-- Whether saturation changes the value, which R67 counts. -/
def satHit (q : Int) : Bool := decide (satWord q ≠ q)

/-- A store to a 32-bit destination with store shift `s` (R64): the value and whether it saturated. -/
def store32 (acc : Int) (s : Nat) : Int × Bool :=
  (satWord (roundShift acc s), satHit (roundShift acc s))

/-- The greatest section state, 512 − 2^−54 in Q10.54 (R66). -/
def stateMax : Int := 0x7FFFFFFFFFFFFFFF

/-- A 64-bit section state as it is stored (R66): no rounding, symmetric saturation. -/
def store64 (acc : Int) : Int × Bool :=
  (clampInt (-stateMax) stateMax acc, decide (clampInt (-stateMax) stateMax acc ≠ acc))

/-! ### Sparse tables

A memory or a numbered group of units is a list of (number, content) pairs in one canonical form:
numbers strictly rising, and no entry equal to what an unlisted number holds. -/

/-- Sparse content by number. -/
abbrev Tab (α : Type) := List (Nat × α)

/-- The listed content of number `k`. -/
def tabFind {α : Type} : Tab α → Nat → Option α
  | [], _ => none
  | (a, v) :: t, k => if a = k then some v else tabFind t k

/-- The table without number `k`. -/
def tabDel {α : Type} (t : Tab α) (k : Nat) : Tab α := t.filter (fun e => e.1 ≠ k)

/-- The table with `v` listed at number `k`. -/
def tabIns {α : Type} (k : Nat) (v : α) : Tab α → Tab α
  | [] => [(k, v)]
  | (a, x) :: t =>
    if a < k then (a, x) :: tabIns k v t
    else if a = k then (k, v) :: t
    else (k, v) :: (a, x) :: t

/-- The content of number `k` where an unlisted number `j` holds `d j`. -/
def tabGet {α : Type} (d : Nat → α) (t : Tab α) (k : Nat) : α := (tabFind t k).getD (d k)

/-- The table with content `v` at number `k`, kept in canonical form. -/
def tabPut {α : Type} [DecidableEq α] (d : Nat → α) (t : Tab α) (k : Nat) (v : α) : Tab α :=
  if v = d k then tabDel t k else tabIns k v t

/-- The listed numbers of a table. -/
def tabKeys {α : Type} (t : Tab α) : List Nat := t.map (fun e => e.1)

/-- The listed numbers whose content is true. -/
def tabTrue (t : Tab Bool) : List Nat := tabKeys (t.filter (fun e => e.2))

/-- The numbers of a table rise strictly. -/
def tabRising {α : Type} : Tab α → Bool
  | [] => true
  | [_] => true
  | (a, _) :: (b, y) :: t => decide (a < b) && tabRising ((b, y) :: t)

/-- The canonical form of a table whose unlisted numbers hold `d`. -/
def tabWf {α : Type} [DecidableEq α] (d : Nat → α) (t : Tab α) : Bool :=
  tabRising t && t.all (fun e => decide (e.2 ≠ d e.1))

/-- Replace the `i`-th element of a list. -/
def listSet {α : Type} (l : List α) (i : Nat) (v : α) : List α := l.set i v

/-- Little-endian value of a byte list. -/
def leVal : List Byte → Nat
  | [] => 0
  | b :: t => b.toNat + 256 * leVal t

/-- The first `n` little-endian bytes of a number. -/
def leBytes : Nat → Nat → List Byte
  | 0, _ => []
  | n + 1, v => BitVec.ofNat 8 v :: leBytes n (v / 256)

/-! ### CRC-32 (R301)

IEEE 802.3: polynomial 0x04C1_1DB7, reflected, initial value and final XOR 0xFFFF_FFFF. -/

/-- `n` bit steps of the reflected CRC register. -/
def crcBits : Nat → Nat → Nat
  | 0, r => r
  | n + 1, r => crcBits n (if r % 2 = 1 then (r / 2) ^^^ 0xEDB88320 else r / 2)

/-- The CRC register after one byte. -/
def crcByte (r : Nat) (b : Byte) : Nat := crcBits 8 (r ^^^ b.toNat)

/-- The CRC-32 of a byte string (R301). -/
def crc32 (l : List Byte) : Nat := l.foldl crcByte 0xFFFFFFFF ^^^ 0xFFFFFFFF

end Sys2Proof.Machine
end

