-- ==== Sys2Proof/Units.lean ====
section
/-!
DEFINITION. Units.lean: what each numbered unit of the part holds: loops, sections, echo controllers, tasks, step engines, generators,
axes, inputs, Wirid ports, loop ports and modems.
-/
namespace Sys2Proof.Machine

open Sys2Proof

/-! ### Loops and sections (R85–R126) -/

/-- The loop modes of R101 and R114. -/
inductive Mode where
  | off | manual | auto | cascade | track | hold | fallback
  deriving DecidableEq, Repr

/-- A frozen-feedback detector (R119). -/
structure Frozen where
  pv  : Int := 0
  n   : Nat := 0
  out : Int := 0
  deriving DecidableEq, Repr

/-- What a completed run leaves for the STATUS block until the rim (R102). -/
structure LoopSnap where
  pvOk     : Bool
  iAtLimit : Bool
  spLim    : Bool
  slewing  : Bool
  destLim  : Bool
  pv       : Int
  err      : Int
  i        : Int
  d        : Int
  pre      : Int
  satHi    : Bool
  satLo    : Bool
  tick     : Nat
  deriving DecidableEq, Repr

/-- The working state `st` of a loop (R85–R99), its mode in effect (R114) and its supervision episode (R119–R126).
Signal words and 64-bit states are held as their exact integer values: `sp`, `d`, `out` and the like in Q4.28, `v`
with 28 fractional bits, `i` in Q10.54. -/
structure LoopSt where
  sp       : Int := 0
  v        : Int := 0
  i        : Int := 0
  d        : Int := 0
  dsrc     : Int := 0
  first    : Bool := true
  satHi    : Bool := false
  satLo    : Bool := false
  pre      : Int := 0
  out      : Int := 0
  ho       : Int := 0
  hstp     : Int := 0
  ramping  : Bool := false     -- a RAMP hand-over is in progress (R117)
  slewInit : Bool := false     -- the next run starts the slew limiter at its target (R107)
  spLim    : Bool := false
  fz       : Frozen := {}
  fzAlt    : Frozen := {}
  mode     : Mode := .off
  changed  : Bool := false     -- a mode change applies to the next run (R117)
  atSafe   : Bool := false     -- the last output was OUT_SAFE by OFF, SAFE, a guard or SAFE_IDLE (R118)
  episode  : Bool := false     -- a supervised FALLBACK episode is open (R121)
  lostFlag : Bool := false     -- FEEDBACK_LOST raised in the present episode (R121)
  altHold  : Bool := false     -- ALT replaced by HOLD for the episode (R123)
  fbRuns   : Nat := 0          -- runs spent in FALLBACK (R124)
  okRuns   : Nat := 0          -- consecutive runs with a zero cause mask (R124)
  recReq   : Bool := false     -- a write of AUTO or CASCADE allows recovery at the next run (R124, R126)
  toFall   : Bool := false     -- a loss run: the mode becomes FALLBACK at the rim (R120)
  toRec    : Bool := false     -- recovery is due at the rim (R124, R126)
  fbFirst  : Bool := false     -- the next FALLBACK run is its first (R122, R126)
  snap     : Option LoopSnap := none
  deriving DecidableEq, Repr

/-- The states of a section (R66, R91). -/
structure SosSt where
  s1 : Int := 0
  s2 : Int := 0
  deriving DecidableEq, Repr

/-! ### Echo controllers (R139–R162) -/

/-- The states of Table 1 of R145. -/
inductive EchoState where
  | idle | learn | freeze | fade | clearing
  deriving DecidableEq, Repr

/-- An echo controller. Run coordinates and periods carry 8 fractional bits. -/
structure EchoSt where
  state    : EchoState := .idle
  h        : Nat := 0
  t        : Int := 0          -- revolution start T
  p        : Nat := 0          -- period P in effect
  len      : Nat := 0          -- length in effect (R152)
  resize   : Bool := false     -- a LEN or PER change awaits a wrap
  qn       : Nat := 0
  v1       : Int := 0
  v2       : Int := 0
  j1       : Nat := 0
  pos      : Nat := 0          -- a at the last run
  ran      : Bool := false     -- the strand ran in this tick
  aborted  : Bool := false     -- the ECHO strand or the loop strand of this tick was abandoned
  gated    : Bool := false
  gatedCnt : Nat := 0
  locked   : Bool := false
  accepted : Nat := 0          -- consecutive accepted edges, up to 2
  base     : Int := 0          -- the coordinate of the first of two accepted edges (R148, R149)
  lost     : Bool := false     -- INDEX_LOST raised since lock was last established
  revs     : Nat := 0
  rejects  : Nat := 0
  losses   : Nat := 0
  retired  : Bool := false
  retPend  : Bool := false     -- retires at the next rim (R153)
  zeroed   : Option Nat := none -- entries zeroed so far while clearing
  crc      : Nat := 0          -- running CRC-32 of written entries (R157)
  sample   : Option (Int × Int) := none   -- the run before: its coordinate and the index signal there (R147)
  crossed  : Option Int := none   -- the coordinate of a crossing that waits to be judged (R147)
  deriving DecidableEq, Repr

/-! ### Tasks and step engines (R163–R199) -/

/-- The task states of Table 4 of R178. -/
inductive TaskState where
  | dormant | ready | running | waiting | blocked | suspended | cancelled | done | faulted
  deriving DecidableEq, Repr

/-- The wait condition of a WAITING task (R169, R171, R173). -/
inductive Wait where
  | delay (wake : Nat)
  | sig (sig : Nat) (lo hi : Int) (need : Nat) (dwell : Nat)
  | event (flag : Nat) (consume : Bool)
  | move (mp : Nat) (seq : Option Nat) (ended : Option Nat)   -- MOVE_SEQ once its rim has formed it; its end cause
  deriving DecidableEq, Repr

/-- A task context (R178). -/
structure TaskCtx where
  state     : TaskState := .dormant
  pc        : Nat := 0
  prio      : Nat := 0
  stack     : List Nat := []
  stamp     : Nat := 0
  wait      : Option Wait := none
  deadline  : Option Nat := none   -- timeout deadline in ticks
  ranTick   : Nat := 0             -- tick in which the wait step ran
  realignOk : Bool := false
  quiet     : Bool := false
  prev      : TaskState := .dormant
  suspSafe  : Bool := false
  held      : Bool := false        -- entry hold: not dispatched again in this tick (R187)
  cause     : Nat := 0
  faultPc   : Nat := 0
  lostReady : Nat := 0
  steps     : Nat := 0
  blockG    : Nat := 0
  deriving DecidableEq, Repr

/-- A step engine: the task it holds (0 none), its non-blocking steps since dispatch, its entries in this tick, and the CK_SEQ cycle of the
tick from which it may start its next step or ask for work (R185–R187). -/
structure EngineSt where
  task    : Nat := 0
  count   : Nat := 0
  entries : Nat := 0
  free    : Nat := 0
  deriving DecidableEq, Repr

/-! ### The device -/

/-- The device states of R469. -/
inductive DevState where
  | safeIdle | run | heldRestart
  deriving DecidableEq, Repr

/-! ### Motion (R200–R224) -/

/-- The modes of a profile generator; QUICK_STOP is entered by its causes only (R206). -/
inductive MpMode where
  | hold | position | velocity | homing | quickStop
  deriving DecidableEq, Repr

/-- A qualified switch edge that awaits its pass (R210): 0 HOME, 1 LIMP, 2 LIMN; the level after it; its timestamp; and
the latched position. -/
structure SwEdge where
  which  : Nat
  active : Bool
  stamp  : Nat                 -- the raw edge's instant in CK_TIME cycles
  pos    : Int
  deriving DecidableEq, Repr

/-- An open chatter window (R213): the switch, the tick at which it closes and the edges counted in it. -/
structure ChatWin where
  which : Nat
  close : Nat
  count : Nat
  deriving DecidableEq, Repr

/-- A profile generator. Position and velocity have 24 fractional bits; targets and latches are 48.16 (R200). -/
structure MpSt where
  pos      : Int := 0
  vel      : Int := 0
  pubVel   : Int := 0          -- the velocity published at the last pass
  mode     : MpMode := .hold
  target   : Int := 0          -- the target in effect, after the soft limits
  soft     : Bool := false     -- that target was clamped
  running  : Bool := false     -- a move runs
  runSeq   : Nat := 0          -- its number
  seq      : Nat := 0          -- MOVE_SEQ
  cause    : Nat := 0          -- END_CAUSE of the last move
  endAs    : Option Nat := none   -- the cause with which the move ends when the generator comes to rest
  homed    : Bool := false
  forced   : Bool := false     -- quick-stopped by a guard
  phase    : Nat := 0          -- homing phase
  hStart   : Bool := false     -- the phase starts in the next pass
  hEnding  : Bool := false     -- its ending edge has come
  hBacking : Bool := false     -- decelerating under BACK_OFF
  hBacked  : Bool := false     -- BACK_OFF used in this phase
  hNeg     : Bool := false     -- SPEED negated
  hEdge    : Option Int := none   -- latched position of the ending edge
  hFail    : Option Nat := none   -- homing has failed with this cause
  qHome    : Bool := false
  limP     : Bool := false
  limN     : Bool := false
  edges    : List SwEdge := []
  latchPos  : Int := 0
  latchTick : Nat := 0
  latchLvl  : Bool := false
  chatter  : Nat := 0
  chatWins : List ChatWin := []
  lastSeq  : Option Nat := none   -- SEQ of the last remote latch word (R214)
  hist     : List (Nat × Int) := []   -- commands of the last eight ticks, with the instants at which the head applies them (R214)
  deriving DecidableEq, Repr

/-! ### The weave banks (R43, R44) -/

/-- The state of a weave bank, coded as CHECK_STAT codes it. -/
inductive BankState where
  | unchecked | running | pass | fail
  deriving DecidableEq, Repr

/-! ### Stepper drive (R225–R254) -/

/-- The chopper states of a phase (R238–R240): not driven, on time, off time, and FAST decay to the zero crossing after a
direction change. -/
inductive ChopState where
  | idle | on | off | crossing
  deriving DecidableEq, Repr

/-- How far the chopper test of a phase has come (R245): it waits for a new on time, its one cycle runs with the thresholds moved, or the
cycle is over, with its times right or not. -/
inductive ChopTest where
  | none | wait | cycle | over (ok : Bool)
  deriving DecidableEq, Repr

/-- A phase of an axis: its chopper, its direction, and the sums over the learning window (R241, R245). -/
structure PhaseSt where
  chop    : ChopState := .idle
  onAt    : Nat := 0           -- instants in CK_TIME cycles
  offAt   : Nat := 0
  neg     : Bool := false
  last    : Bool := false      -- the direction of the last on time, which the current keeps in decay
  onLen   : Nat := 0           -- the last complete on and off times, and the on time of a test's cycle
  offLen  : Nat := 0
  testOn  : Nat := 0
  test    : ChopTest := .none
  ref     : Nat := 0
  n       : Nat := 0           -- samples of the window, counted or not
  sum     : Int := 0           -- their sum, in converter counts
  absSum  : Nat := 0           -- sum of their magnitudes
  refSum  : Nat := 0           -- sum of their references
  satNow  : Bool := false      -- SENSE_SAT raised in this window
  openCnt : Nat := 0           -- consecutive open ticks
  mean    : Int := 0           -- the last window's mean, in counts
  deriving DecidableEq, Repr

/-- A stepper axis. Positions are 48.16. -/
structure AxSt where
  f       : Int := 0
  pPrev   : Int := 0
  pCur    : Int := 0
  band    : Nat := 0
  target  : Nat := 0
  addr    : Nat := 0
  en      : Bool := false
  amp     : Nat := 0
  still   : Nat := 0
  moved   : Bool := false      -- the fine position has changed since the last P_OUT
  reduced : Bool := false
  rampN   : Nat := 0           -- ticks of the ramp so far
  retired : Bool := false
  tripped : Bool := false      -- retired by OVERCURRENT: AXn_EN stays low
  ocDue   : Option Nat := none -- the phase of an overcurrent in a restart, which the logic die has yet to hear of
  retDue  : Option Nat := none -- the event code that retires it at the next rim
  safeOff : Bool := false      -- disabled by SAFE_DIS
  homedOff : Bool := false     -- HOMED clears at the next rim (R247)
  phA     : PhaseSt := {}
  phB     : PhaseSt := {}
  offs    : Tab Int := []      -- learned offsets in 1/16 LSB, by 5 × phase + band
  offsOld : Tab Int := []      -- the offsets that govern until the instant offsAt (R242)
  offsAt  : Nat := 0
  errSum  : Tab Int := []      -- E_b in half LSB
  errCnt  : Tab Nat := []      -- K_b
  offsEp  : Tab Bool := []     -- OFFSET_LIMIT raised since the offset left its clamp
  blindWin : Bool := false     -- learning waits for a whole window (R248)
  skip    : Nat := 0
  skipNow : Bool := false      -- STEP_SKIP raised in this tick
  fHist   : List (Nat × Int) := []   -- instants of recent changes of f, each with the value before it, latest first (R212)
  -- external source (R232–R234)
  extSrc  : Nat := 0           -- the external source that governs; 0 none
  extHeld : Bool := false      -- coarse inputs are ignored (R234)
  cPos    : Int := 0
  extLast : Int := 0           -- the pair's value last taken (EXT_SIG)
  tLast   : Option Nat := none -- instant of the latest coarse input
  spd     : Nat := 0           -- the speed estimate of R233
  segFrom : Int := 0
  segTo   : Int := 0
  segSpan : Nat := 0           -- Δ of the segment, 0 for none
  segN    : Nat := 0           -- updates made in it
  ignored : Nat := 0
  deriving DecidableEq, Repr

/-! ### Local inputs (R289–R317) -/

/-- An analogue input: the window in progress and its episodes. -/
structure AiSt where
  sum    : Int := 0
  cnt    : Nat := 0
  ovr    : Bool := false       -- an over-range conversion in the window
  last   : Int := 0            -- the latest code of its own converter
  skip   : Bool := false       -- the next conversion is excluded (R293)
  orEp   : Bool := false       -- AI_OVERRANGE raised in the present episode
  ow     : Option Int := none  -- the tested code of this window (R294)
  judge  : Option (Int × Int × Nat) := none   -- a tested code with its window's sum and count, to be judged
  owDue  : Bool := false       -- the next conversion is the test's
  fails  : Nat := 0
  passes : Nat := 0
  isOpen : Bool := false
  retired : Bool := false
  retDue : Bool := false
  deriving DecidableEq, Repr

/-- A switch or DIO input (R296, R297): its raw level, since when (in CK_TIME cycles), its debounced level, and the edges of
the window. -/
structure PinSt where
  raw    : Bool := false
  since  : Nat := 0
  deb    : Bool := false
  edges  : Nat := 0
  stamps : List (Nat × Nat) := []
  driven : Option Bool := none -- the level at which the device drives the pin; none for an input (R298)
  count  : Nat := 0            -- what the field die delivered at the last P_IN: the 16-bit count of raw edges
  recs   : List (Nat × Nat) := []   -- and the stamps of the first four
  dirAt  : Bool := false       -- at a STEP pin: the direction of the step edge under way (R299)
  stepDue : Bool := false      -- a step edge waits for its MIN_PULSE
  deriving DecidableEq, Repr

/-! ### The Wirid field link (R300–R319) -/

/-- A head of a port, as measured at the last link start and as its last status word reports. -/
structure HeadSt where
  id0   : Word := 0
  id1   : Word := 0
  id2   : Word := 0
  id3   : Word := 0
  dk    : Nat := 0
  ta    : Nat := 0
  inOff : Nat := 0             -- IN_MAP as link start wrote it to the head (R318)
  inLen : Nat := 0
  hstat : Word := 0
  stale : Nat := 0             -- consecutive returns with FRESH = 0
  lost  : Bool := false
  safe  : Bool := false        -- HEAD_SAFE raised in the present episode
  deriving DecidableEq, Repr

/-- A Wirid port: its heads, its protocol version and its return in this tick. -/
structure WlSt where
  heads   : List HeadSt := []
  version : Nat := 3
  restart : Bool := false      -- the link start under way follows a held-output restart (R313)
  judged  : Bool := false      -- the return of this tick has come, or is counted as lost
  retEp   : Bool := false      -- RETURN_LOST raised in the present episode
  failPos : Nat := 0
  sent    : List Word := []    -- the payload of the last tick frame (R49)
  partner : Nat := 0           -- the partner's lead (R307)
  deriving DecidableEq, Repr

/-- A MARK step of the tick (R170): its engine, task, number and step, and the phase of its boundary. -/
structure MarkReq where
  engine : Nat
  task   : Nat
  num    : Word
  step   : Nat
  phase  : Nat
  deriving DecidableEq, Repr

/-! ### Loop ports and their modems (R255–R288) -/

/-- The states of a port as PSTAT codes them. -/
inductive PortState where
  | off | run | shut | retired | standby
  deriving DecidableEq, Repr

/-- A loop port. Currents are in codes of 24 mA / 65,536, voltages in mV. -/
structure PortSt where
  state   : PortState := .off
  mode    : Nat := 0           -- PORT_CTL.MODE in effect since the last P_OUT
  d       : Nat := 0           -- the command's code before the thermal limit and sharing
  code    : Nat := 0           -- the code in effect
  limit   : Nat := 0xFFFF      -- thermal current limit
  cut     : Nat := 0           -- headroom steps of 0.1 V taken (R265)
  fault   : Bool := false      -- the NE 43 fault level is driven
  short   : Bool := false      -- COMPLIANCE
  low     : Bool := false      -- COMP_DIR
  shortN  : Nat := 0           -- consecutive windows in shortfall
  shortEp : Bool := false      -- the COMPLIANCE event was raised in this episode
  openN   : Nat := 0
  okN     : Nat := 0
  isOpen  : Bool := false
  meas    : Nat := 0
  own     : Nat := 0           -- the mean own current
  vt      : Nat := 0
  rail    : Nat := 0
  target  : Nat := 0           -- the rail target (R261); 0 with the buck stopped
  vpk     : Nat := 0           -- the terminal peak and the windows for which it still holds
  vhold   : Nat := 0
  temp    : Int := 0
  shuts   : List Nat := []     -- OP_SEC of the shutdowns within 600 s (R269)
  shutAt  : Nat := 0           -- instant of the last shutdown, in CK_TIME cycles
  shutDue : Bool := false      -- a shutdown in a restart, which the logic die has yet to hear of
  pfOff   : Bool := false      -- turned off by a power failure (R284)
  retired : Bool := false
  retDue  : Option Nat := none
  full    : Bool := false      -- shares with w = 1
  trim    : Int := 0
  shareN  : Nat := 0           -- windows with the total below 75 % (R280)
  overN   : Nat := 0           -- windows with the total above 125 % (R281)
  dropped : Bool := false      -- twin B's own target is zero (R281)
  deriving DecidableEq, Repr

/-- A message on the line (R274): preamble characters and FIFO characters still to come, the character being sent, and the
next bit of it. -/
structure FskMsg where
  pre     : Nat
  left    : Nat
  char    : Nat
  bit     : Nat
  clipped : Bool
  phase   : Nat                -- the phase at which the next bit starts, in sixths of a cycle
  deriving DecidableEq, Repr

/-- The tone of a bit on the line (R273, R279): a mark (true) or a space, the phase at its start in sixths of a cycle, half the amplitude of
1 mA peak to peak in shared current, and the constant added to it, in units of 3/(22π) of the sine's amplitude. -/
structure Tone where
  mark  : Bool
  phase : Nat
  half  : Bool
  const : Int
  deriving DecidableEq, Repr

/-- A port's modem (R273–R277). -/
structure FskSt where
  tx      : List Nat := []
  rx      : List Word := []    -- received characters as RX_DATA returns them, oldest first
  goDue   : Option Nat := none -- a TX_GO applied at the rim takes effect at the next P_OUT
  held    : Option Nat := none -- a message that waits for the line, with its LEN
  msg     : Option FskMsg := none
  abort   : Bool := false
  out     : Option Tone := none   -- the tone on the line
  cutDue  : Bool := false      -- a message ended in a restart, which the logic die has yet to report (R283)
  cd      : Bool := false
  blank   : Nat := 0           -- the receiver is blanked until this instant
  first   : Bool := false      -- the next character is the first since carrier detect
  ovr     : Bool := false      -- characters were lost before the next one stored
  errP    : Bool := false      -- FSK_ERR 0, 1 and 2 raised in this received message
  errF    : Bool := false
  errO    : Bool := false
  rxErr   : Nat := 0
  rxOvr   : Nat := 0
  txDrop  : Nat := 0
  deriving DecidableEq, Repr

end Sys2Proof.Machine
end

