-- ==== Sys2Proof/Wire.lean ====
section
/-!
DEFINITION. Wire.lean: what comes from outside the part with a command: pages and views, measured quantities, received frames and what a
twin partner sends.
-/
namespace Sys2Proof

/-- The pages of R466. -/
inductive Page where
  | sys | tick | weave | engine | loopctl | guard | echo | task | motion | stepdrv | lport
  | input | wlink | capture | time | net | twin | health | ist | sec | host | clkpwr
  deriving DecidableEq, Repr

/-- The BARs of R459. BAR0 is the U-view, BAR2 the P-view. -/
inductive Bar where
  | bar0 | bar2 | bar4
  deriving DecidableEq, Repr

/-- An operand together with the phase of the tick, in CK_TIME cycles (R26), at which its command takes place. -/
structure Timed (α : Type) where
  val : α
  ph  : Nat
  deriving DecidableEq, Repr

/-- The two register views (R459, R451). -/
inductive View where
  | u | p
  deriving DecidableEq, Repr

/-- A recipe step without its opcode, which the command's row names: the header fields of R166 and the words W1–W3. -/
structure StepWord where
  tag       : Nat
  tagEn     : Bool
  realignOk : Bool
  quiet     : Bool
  rsv15     : Bool
  a         : Nat
  w1        : Word
  w2        : Word
  w3        : Word
  deriving DecidableEq, Repr

/-- Why a held-output restart starts (Table 2 of R475). -/
inductive RestartCause where
  | command | lresetPin | coreSupply | sramSupply | lossOfLock | watchdog
  deriving DecidableEq, Repr

/-- The causes of a held-output restart that come to the part from outside: the pin and the supplies (Table 2 of R475). -/
inductive RestartPin where
  | lreset | core | sram
  deriving DecidableEq, Repr

/-- What built-in self-test finds at power-on (R80, R250, R282): the physical lanes, axes and loop ports that fail. -/
structure BistResult where
  lanes : List Nat
  axes  : List Nat
  ports : List Nat
  deriving DecidableEq, Repr

/-- What the host's PCIe configuration writes set (R457, R464, R471): MSI-X Enable, Function Mask, Bus Master Enable, and the codes of the
max payload and max read request sizes. -/
structure HostCfg where
  msix     : Bool
  funcMask : Bool
  bme      : Bool
  mps      : Nat
  mrrs     : Nat
  deriving DecidableEq, Repr

/-- What the field die finds in the tick's output set (R11). -/
inductive LinkFinding where
  | good | late | incomplete | crc
  deriving DecidableEq, Repr

/-- What a loop port's converters give for a window (R260, R261, R265): the mean own current and the mean total in Q4.28 with
24 mA = 1.0, the terminal voltage without the FSK tone and its peak with it in Q4.28 with 36 V = 1.0, whether the regulator stood at maximum drive or fully off, the
rail in mV and the stage's temperature in °C. -/
structure PortMeas where
  own   : Int
  total : Int
  vt    : Int
  peak  : Int
  maxed : Bool
  off   : Bool
  rail  : Nat
  temp  : Int
  deriving DecidableEq, Repr

/-- What the supply, power and temperature sensors read at a tick (R472): VHOLD in mV, the package power in mW, and the two dies' temperatures
in °C + 40. -/
structure Sense where
  vhold : Nat
  power : Nat
  logic : Nat
  field : Nat
  deriving DecidableEq, Repr

/-- A head as link start finds it (R305): its identity words, and its sixteen DELAY exchanges, each the round trip as the device times it and
the turnaround that the head writes, in units of 2 ns. -/
structure HeadFound where
  id0 : Word
  id1 : Word
  id2 : Word
  id3 : Word
  exchanges : List (Nat × Nat)
  deriving DecidableEq, Repr

/-- What link start gives (R305–R308): lock, the heads in order, and the first refused CONFIG pair's position. -/
structure LinkResult where
  locked      : Bool
  heads       : List HeadFound
  nak         : Option Nat
  deriving DecidableEq, Repr

/-- A return frame as it arrives (R303), with the CRC that closes it. -/
structure ReturnFrame where
  seq       : Nat
  epochSeen : Nat
  turnPos   : Nat
  hstat     : List Word
  payload   : List Word
  crc       : Word
  deriving DecidableEq, Repr

/-- An Announce message (R370, R378): its data set, its sender's identity and what it says of UTC. -/
structure Announce where
  priority1 : Nat
  clockClass : Nat
  accuracy : Nat
  variance : Nat
  priority2 : Nat
  gmId : Nat
  steps : Nat
  sender : Nat
  domain : Nat
  utcOffset : Nat
  utcValid : Bool
  deriving DecidableEq, Repr

/-- The PTP event messages of R371. -/
inductive PtpKind where
  | sync | delayReq | pdelayReq | pdelayResp
  deriving DecidableEq, Repr

/-- A signal frame as it is received (Table 2 of R384). -/
structure SignalFrame where
  ver    : Nat
  src    : Nat
  stream : Nat
  seq    : Nat
  epoch  : Nat
  period : Nat
  valids : List Bool
  words  : List Word
  deriving DecidableEq, Repr

/-- A witness frame (Table 6 of R408). -/
structure WitnessMsg where
  ver      : Nat
  role     : Nat
  strapB   : Bool
  glintIn  : Bool
  linkUp   : Bool
  safe     : Bool
  owner    : Bool
  pairId   : Nat
  seq      : Nat
  epoch    : Nat
  lastEdge : Nat
  deriving DecidableEq, Repr

/-- What a joining unit and its partner find of each other (R415, R429): the partner's role, the measured delays (2 ns and 0.5 ns), whether
the configuration digests are equal, and where they are not, whether the partner allows MIGRATION, whether both packages verified against one
anchor slot, whether the TICK, INPUT and WLINK configurations are equal, and how R430 divides the units. -/
structure JoinInfo where
  role       : Nat
  linkDelay  : Nat
  glintTrip  : Nat         -- the round trip of a marker pulse, in 0.5 ns (R398)
  leads      : List Nat    -- the partner's lead by Wirid port; 0 for none (R307)
  equal      : Bool
  allow      : Bool
  oneSlot    : Bool
  basics     : Bool
  shared     : Nat
  divergent  : Nat
  divGuards  : List Nat
  divTasks   : List Nat
  divRecs    : List (Nat × Nat)   -- the divergent units' records and registers, as BAR offsets [from, to)
  deriving DecidableEq, Repr

/-- What the start-up search of R416 finds of the partner. -/
inductive SearchResult where
  | owner (info : JoinInfo)
  | joining (info : JoinInfo)
  | nothing
  | witnessOnly
  deriving DecidableEq, Repr

/-- The state copy of R415: table windows by BAR offset, the signal board with the ages of its words, X memory and task contexts by unit with
the stamp that orders ready tasks, the guards with their terms, and the weave banks' states with the active one. -/
structure StateCopy where
  mem    : List (Nat × Byte)
  board  : List (Nat × Word × Bool)
  loops  : List (Nat × Machine.LoopSt)
  sos    : List (Nat × Machine.SosSt)
  echoes : List (Nat × Machine.EchoSt)
  tasks  : List (Nat × Machine.TaskCtx)
  mps    : List (Nat × Machine.MpSt)
  axes   : List (Nat × Machine.AxSt)
  flags  : List (Nat × Bool)
  guards : List (Nat × Bool)
  terms  : List (Nat × Bool)
  conds  : List (Nat × Bool)
  ages   : List (Nat × Nat)
  stamp  : Nat
  epoch  : Nat   -- the owner epoch (R411)
  active : Nat
  bank0  : Machine.BankState
  bank1  : Machine.BankState
  deriving DecidableEq, Repr

/-- An entry of part W (R400, R402, R455): a host write that the owner accepts, the CRC comparison of a subscribe group's frame, the owner's
kept words, or a supplement that the owner has loaded. -/
inductive MirrorEntry where
  | write (bar : Bar) (addr : Nat) (val : Word) (be : Nat)
  | frameCrc (group : Nat) (same : Bool)
  | frameWords (group epoch : Nat) (words : List (Word × Bool))
  | package (bytes : List Byte)
  deriving DecidableEq, Repr

/-- A part of the mirror image (Table 4 of R400), or a pass of the state copy (R415). Part I carries the words that the owner's local inputs
put on the board, its device state and its servo state, both coded as their status fields code them, and by axis the learned offsets (R249). -/
inductive MirrorPart where
  | inputs (words : List (Nat × Word × Bool)) (run : Bool) (tstate : Nat) (offs : List (Nat × Machine.Tab Int))
  | returns (ports : List (Nat × Bool × List Bool))   -- port, accepted, FRESH by position
  | edges (l : List (Nat × Bool × Nat))               -- input, level, phase
  | entry (e : MirrorEntry)
  | tasks (l : List (Nat × Nat × Machine.TaskState))  -- task, step pointer, state
  | digest (d : Nat)
  | copy (img : StateCopy)
  deriving DecidableEq, Repr

end Sys2Proof
end

