-- ==== Sys2Proof/Syntax.lean ====
section
/-!
DEFINITION. Syntax.lean: the commands of the ZA7240, one constructor for each row of the table of operations and
events. A command's operands are what comes from outside the part with it: the address, data and byte enables of a
host access, the view (BAR) it came through, the unit it names, a measured quantity, a received frame, or the phase
of the tick (in CK_TIME cycles, R26) at which it takes place.
-/
namespace Sys2Proof

/-- The commands, in the order of the table; each line's comment is the row's mnemonic and its rule. -/
inductive Instr where
  | powerOnReset (bist : BistResult) (strapB : Bool)   -- POWER_ON_RESET (R477)
  | autoRun   -- AUTO_RUN (R477)
  | heldOutputRestart (pin : RestartPin)   -- HELD_OUTPUT_RESTART (R480)
  | restartComplete (sealA sealB : Bool) (elapsed : Nat)   -- RESTART_COMPLETE (R480)
  | fieldDieHoldExpiry   -- FIELD_DIE_HOLD_EXPIRY (R481)
  | logicWatchdog   -- LOGIC_WATCHDOG (R480)
  | powerFail (mv : Nat) (shared : Bool) (ph : Nat)   -- POWER_FAIL (R484)
  | powerFailClear (mv : Nat) (ph : Nat)   -- POWER_FAIL_CLEAR (R485)
  | pllUnlock (domain : Fin 8) (ph : Nat)   -- PLL_UNLOCK (R486)
  | tempWarn (field : Bool) (celsius : Nat) (ph : Nat)   -- TEMP_WARN (R488)
  | tickStart (skew : Int) (glint : Int)   -- TICK_START (R34)
  | pIn (ports : List PortMeas) (vloop : Nat) (sense : Sense)   -- P_IN (R290)
  | wakePass   -- WAKE_PASS (R183)
  | delayExpiry (task : Fin 256)   -- DELAY_EXPIRY (R173)
  | waitTimeout (task : Fin 256)   -- WAIT_TIMEOUT (R171)
  | taskDispatch (e : Fin 16) (ph : Nat)   -- TASK_DISPATCH (R185)
  | stepSet (e : Fin 16) (w : StepWord)   -- SET (R167)
  | stepRamp (e : Fin 16) (w : StepWord)   -- RAMP (R167)
  | stepValve (e : Fin 16) (w : StepWord)   -- VALVE (R168)
  | stepMove (e : Fin 16) (w : StepWord)   -- MOVE (R169)
  | stepMode (e : Fin 16) (w : StepWord)   -- MODE (R115)
  | stepDelay (e : Fin 16) (w : StepWord)   -- DELAY (R173)
  | stepWaitUntil (e : Fin 16) (w : StepWord)   -- WAIT_UNTIL (R171)
  | stepWaitEvent (e : Fin 16) (w : StepWord)   -- WAIT_EVENT (R174)
  | stepSignal (e : Fin 16) (w : StepWord)   -- SIGNAL (R174)
  | stepFork (e : Fin 16) (w : StepWord)   -- FORK (R177)
  | stepCall (e : Fin 16) (w : StepWord)   -- CALL (R176)
  | stepReturn (e : Fin 16) (w : StepWord)   -- RETURN (R176)
  | stepJump (e : Fin 16) (w : StepWord)   -- JUMP (R176)
  | stepBranch (e : Fin 16) (w : StepWord)   -- BRANCH (R175)
  | stepMark (e : Fin 16) (w : StepWord)   -- MARK (R170)
  | stepCapture (e : Fin 16) (w : StepWord)   -- CAPTURE (R170)
  | stepEnd (e : Fin 16) (w : StepWord)   -- END (R176)
  | recipeMemErr (e : Fin 16)   -- RECIPE_MEM_ERR (R192)
  | strandDispatch (late : Bool)   -- STRAND_DISPATCH (R41)
  | strandComplete (index : Fin 8192)   -- STRAND_COMPLETE (R70)
  | laneStop (pl : Fin 20) (parity : Bool) (ph : Nat)   -- LANE_STOP (R73)
  | earlyCompletionCheck   -- EARLY_COMPLETION_CHECK (R48)
  | guardEvaluation   -- GUARD_EVALUATION (R130)
  | profilePass   -- PROFILE_PASS (R202)
  | pOut (finding : LinkFinding)   -- P_OUT (R11)
  | echoUpdate (bad : List Nat)   -- ECHO_UPDATE (R143)
  | rim (shared : Bool)   -- RIM (R19)
  | commit (page : Page) (view : View) (ph : Nat)   -- COMMIT (R9)
  | discard (page : Page) (view : View) (ph : Nat)   -- DISCARD (R462)
  | evtForce (page : Page) (view : View) (bits : Word) (ph : Nat)   -- EVT_FORCE (R462)
  | lock (page : Page) (view : View) (ph : Nat)   -- LOCK (R463)
  | hostRegisterWrite (bar : Bar) (addr : Nat) (val : Option Word) (be : Fin 16) (ph : Nat)   -- HOST_REGISTER_WRITE (R5): a write of a value, or the read that an RC field acts on
  | tickCountLo (view : View) (ph : Nat)   -- TICK_COUNT_LO (R56)
  | nsNow (view : View) (ph : Nat)   -- NS_NOW (R381)
  | opSecLo (view : View) (ph : Nat)   -- OP_SEC_LO (R362)
  | wrCount (view : View) (ch : Fin 8) (ph : Nat)   -- WR_COUNT (R471)
  | rxData (view : View) (port : Fin 32) (ph : Nat)   -- RX_DATA (R286)
  | swapReq (view : View) (ph : Nat)   -- SWAP_REQ (R46)
  | checkCmd (view : View) (bank : Fin 2) (ph : Nat)   -- CHECK_CMD (R43)
  | checkDone (bank : Fin 2) (ph : Nat)   -- CHECK_DONE (R43)
  | retireReq (view : View) (bits : Word) (ph : Nat)   -- RETIRE_REQ (R74)
  | engineUnretire (view : View) (bits : Word) (ph : Nat)   -- ENGINE_UNRETIRE (R79)
  | loopClrState (view : View) (loop : Fin 2048) (ph : Nat)   -- LOOP_CLR_STATE (R107)
  | sosClrState (view : View) (sect : Fin 8192) (ph : Nat)   -- SOS_CLR_STATE (R103)
  | guardResetRequest (view : View) (w : Fin 8) (bits : Word) (ph : Nat)   -- GUARD_RESET_REQUEST (R133)
  | firstClr (view : View) (ph : Nat)   -- FIRST_CLR (R137)
  | learn (view : View) (w : Fin 4) (bits : Word) (ph : Nat)   -- LEARN (R146)
  | freeze (view : View) (w : Fin 4) (bits : Word) (ph : Nat)   -- FREEZE (R146)
  | fade (view : View) (w : Fin 4) (bits : Word) (ph : Nat)   -- FADE (R146)
  | clear (view : View) (w : Fin 4) (bits : Word) (ph : Nat)   -- CLEAR (R146)
  | clearDone (echo : Timed (Fin 128))   -- CLEAR_DONE (R146)
  | echoUnretire (view : View) (w : Fin 4) (bits : Word) (ph : Nat)   -- ECHO_UNRETIRE (R153)
  | indexEdge (echo : Fin 128) (tick phase : Nat)   -- INDEX_EDGE (R148)
  | indexLost (echo : Fin 128) (tick phase : Nat)   -- INDEX_LOST (R149)
  | start (view : View) (task : Fin 256) (ph : Nat)   -- START (R179)
  | cancel (view : View) (task : Fin 256) (ph : Nat)   -- CANCEL (R179)
  | suspend (view : View) (task : Fin 256) (ph : Nat)   -- SUSPEND (R179)
  | resume (view : View) (task : Fin 256) (ph : Nat)   -- RESUME (R179)
  | flagSet (view : View) (w : Fin 8) (bits : Word) (ph : Nat)   -- FLAG_SET (R174)
  | flagClr (view : View) (w : Fin 8) (bits : Word) (ph : Nat)   -- FLAG_CLR (R174)
  | qstop (view : View) (w : Fin 4) (bits : Word) (ph : Nat)   -- QSTOP (R206)
  | home (view : View) (bits : Word) (ph : Nat)   -- HOME (R215)
  | setPosCmd (view : View) (mp : Fin 128) (ph : Nat)   -- SET_POS_CMD (R223)
  | edgeQualified (axis : Fin 32) (which : Fin 3) (level : Bool) (tick phase : Nat)   -- EDGE_QUALIFIED (R209)
  | chatter (axis : Fin 32) (which : Fin 3)   -- CHATTER (R213)
  | tableUpdate (axis : Fin 32) (i : Nat) (sampA sampB : Int)   -- TABLE_UPDATE (R226)
  | standstillReduction (axis : Fin 32)   -- STANDSTILL_REDUCTION (R237)
  | overcurrent (axis : Fin 32) (winding : Fin 2) (ph : Nat)   -- OVERCURRENT (R244)
  | openCoil (axis : Fin 32) (winding : Fin 2)   -- OPEN_COIL (R245)
  | chopTest (axis : Fin 32) (ph : Nat)   -- CHOP_TEST (R245)
  | stepEdge (ch : Fin 24) (tick phase : Nat)   -- STEP_EDGE (R299)
  | stepdrvUnretire (view : View) (bits : Word) (ph : Nat)   -- STEPDRV_UNRETIRE (R246)
  | clrOffs (view : View) (bits : Word) (ph : Nat)   -- CLR_OFFS (R243)
  | compliance (port : Fin 32)   -- COMPLIANCE (R263)
  | openLoop (port : Fin 32)   -- OPEN_LOOP (R264)
  | thermalShut (port : Fin 32) (celsius : Int) (ph : Nat)   -- THERMAL_SHUT (R268)
  | portThermalRestart (port : Fin 32) (celsius : Int)   -- PORT_THERMAL_RESTART (R268)
  | vloopLow (mv : Nat) (ph : Nat)   -- VLOOP_LOW (R272)
  | vloopResume (mv : Nat)   -- VLOOP_RESUME (R272)
  | portReadback (port : Fin 32) (ret : Nat) (share : Timed Nat)   -- PORT_READBACK (R270)
  | shareLost (port : Fin 32) (cause : Timed (Fin 3))   -- SHARE_LOST (R280)
  | overshare (port : Fin 32)   -- OVERSHARE (R281)
  | lportUnretire (view : View) (bits : Word) (ph : Nat)   -- LPORT_UNRETIRE (R271)
  | txData (view : View) (port : Fin 32) (char : Byte) (ph : Nat)   -- TX_DATA (R275)
  | txGo (view : View) (port : Fin 32) (len : Fin 512) (ph : Nat)   -- TX_GO (R275)
  | fskMessageStart (port : Fin 32) (ph : Nat)   -- FSK_MESSAGE_START (R275)
  | txAbort (view : View) (port : Fin 32) (ph : Nat)   -- TX_ABORT (R275)
  | rxFlush (view : View) (port : Fin 32) (ph : Nat)   -- RX_FLUSH (R286)
  | fskBit (port : Fin 32) (tick phase : Nat)   -- FSK_BIT (R274)
  | fskCd (port : Fin 32) (on : Bool) (tick phase : Nat)   -- FSK_CD (R277)
  | fskRxCharacter (port : Fin 32) (char : Byte) (parity framing : Bool) (tick phase : Nat)   -- FSK_RX_CHARACTER (R277)
  | aiConversion (codes : List Int) (ph : Nat)   -- AI_CONVERSION (R289)
  | openWireTest (input : Fin 64)   -- OPEN_WIRE_TEST (R294)
  | checkAdc (input : Fin 64) (code : Timed Int)   -- CHECK_ADC (R295)
  | aiUnretire (view : View) (w : Fin 2) (bits : Word) (ph : Nat)   -- AI_UNRETIRE (R295)
  | rawEdge (pin : Fin 144) (level : Bool) (phase : Nat)   -- RAW_EDGE (R296)
  | linkStart (view : View) (port : Fin 8) (ph : Nat)   -- LINK_START (R305)
  | linkStartDone (port : Fin 8) (result : LinkResult) (ph : Nat)   -- LINK_START_DONE (R308)
  | linkStop (view : View) (port : Fin 8) (ph : Nat)   -- LINK_STOP (R318)
  | returnFrame (port : Fin 8) (frame : ReturnFrame) (ph : Nat)   -- RETURN_FRAME (R304)
  | returnLost (port : Fin 8)   -- RETURN_LOST (R310)
  | wlDown (port : Fin 8) (ph : Nat)   -- WL_DOWN (R311)
  | boardSweep   -- BOARD_SWEEP (R320)
  | triggerJudgement (edges : List (Nat × Nat))   -- TRIGGER_JUDGEMENT (R328)
  | rearmEnd (cset : Fin 16)   -- REARM_END (R331)
  | capOverflow (cset : Timed (Fin 16))   -- CAP_OVERFLOW (R334)
  | arm (view : View) (bits : BitVec 16) (ph : Nat)   -- ARM (R335)
  | disarm (view : View) (bits : BitVec 16) (ph : Nat)   -- DISARM (R335)
  | streamDrained (cset : Fin 16)   -- STREAM_DRAINED (R333)
  | swTrig (view : View) (bits : BitVec 16) (ph : Nat)   -- SW_TRIG (R326)
  | tbBurst (line : Fin 8) (unit : Nat) (ok : Bool) (ns : Nat)   -- TB_BURST (R339)
  | syncLost (ph : Nat)   -- SYNC_LOST (R338)
  | ping (view : View) (ph : Nat)   -- PING (R340)
  | pingRound (answers : Timed (List (Nat × Nat)))   -- PING_ROUND (R340)
  | rdCount (view : View) (ch : Fin 8) (value : BitVec 64) (ph : Nat)   -- RD_COUNT (R465)
  | dmaTransfer (ch : Fin 8) (items : Nat)   -- DMA_TRANSFER (R465)
  | msixMessage (vector : Fin 64) (ph : Nat)   -- MSIX_MESSAGE (R464)
  | irqHoldoff (vector : Fin 64) (ph : Nat)   -- IRQ_HOLDOFF (R464)
  | hostReset (ph : Nat)   -- HOST_RESET (R458)
  | wdKick (view : View) (ph : Nat)   -- WD_KICK (R509)
  | hostLost (ph : Nat)   -- HOST_LOST (R509)
  | run (view : View) (ph : Nat)   -- RUN (R470)
  | safe (view : View) (ph : Nat)   -- SAFE (R470)
  | restart (view : View) (ph : Nat)   -- RESTART (R480)
  | eventTake   -- EVENT_TAKE (R348)
  | flush (view : View) (ph : Nat)   -- FLUSH (R352)
  | flushInterval   -- FLUSH_INTERVAL (R352)
  | healthFlush (ok : Bool) (ph : Nat)   -- HEALTH_FLUSH (R352)
  | flushRetry (ph : Nat)   -- FLUSH_RETRY (R354)
  | opSec   -- OP_SEC (R346)
  | healthSample   -- HEALTH_SAMPLE (R350)
  | codeCfg (view : View) (val : Word) (ph : Nat)   -- CODE_CFG (R362)
  | rdIndex (view : View) (index : BitVec 18) (ph : Nat)   -- RD_INDEX (R362)
  | laneCheck (pl : Fin 20) (kernels : Nat) (ok : Timed Bool)   -- LANE_CHECK (R355)
  | recompute (spare : Fin 20) (ok : Bool) (ph : Nat)   -- RECOMPUTE (R355)
  | scrub (words : Nat) (ph : Nat)   -- SCRUB (R355)
  | sramError (mem addr unit sub : Nat) (corrected : Bool) (ph : Nat)   -- SRAM_ERROR (R357)
  | linkCheck (counts : Timed (List Nat))   -- LINK_CHECK (R355)
  | offsetMeasurement (port : Fin 2) (offset : Int) (ph : Nat)   -- OFFSET_MEASUREMENT (R376)
  | pathDelayMeasurement (port : Fin 2) (delay : Int) (ph : Nat)   -- PATH_DELAY_MEASUREMENT (R379)
  | announce (port : Fin 2) (msg : Announce) (ph : Nat)   -- ANNOUNCE (R378)
  | masterLost (ph : Nat)   -- MASTER_LOST (R372)
  | ptpTransmit (port : Fin 2) (kind : PtpKind) (corr turn : Nat) (ph : Nat)   -- PTP_TRANSMIT (R371)
  | restep (view : View) (ph : Nat)   -- RESTEP (R380)
  | timeCmdSet (view : View) (ph : Nat)   -- TIME_CMD_SET (R380)
  | timeCmdCancel (view : View) (ph : Nat)   -- TIME_CMD_CANCEL (R380)
  | prpReceive (port : Fin 2) (src : Nat) (bad : Bool) (rct : Option (Nat × Nat)) (ph : Nat)   -- PRP_RECEIVE (R367): its trailer, if any, as LAN and sequence number
  | prpSupervision (ph : Nat)   -- PRP_SUPERVISION (R367)
  | netLinkDown (port : Fin 2) (ph : Nat)   -- NET_LINK_DOWN (R368)
  | netLinkUp (port : Fin 2) (ph : Nat)   -- NET_LINK_UP (R368)
  | htxGo (view : View) (word : Word) (ph : Nat)   -- HTX_GO (R382)
  | hostFrameRx (port : Fin 2) (bytes : List Byte) (ph : Nat)   -- HOST_FRAME_RX (R382)
  | hrxPop (view : View) (ph : Nat)   -- HRX_POP (R382)
  | signalFrameRx (frame : SignalFrame) (ph : Nat)   -- SIGNAL_FRAME_RX (R387)
  | subLost (group : Timed (Fin 16))   -- SUB_LOST (R389)
  | glintPulse (ph : Nat)   -- GLINT_PULSE (R397)
  | glintLost (tick phase : Nat) (ph : Nat)   -- GLINT_LOST (R397)
  | twinLinkLost (ph : Nat)   -- TWIN_LINK_LOST (R397)
  | twinLinkLock (info : JoinInfo) (ph : Nat)   -- TWIN_LINK_LOCK (R396)
  | mirrorPart (part : MirrorPart) (ph : Nat)   -- MIRROR_PART (R400)
  | twinAck (ph : Nat)   -- TWIN_ACK (R401)
  | takeover (ph : Nat)   -- TAKEOVER (R406)
  | degradedTakeover (outs : List (Nat × Int)) (ph : Nat)   -- DEGRADED_TAKEOVER (R410)
  | witnessSend   -- WITNESS_SEND (R408)
  | witnessFrame (frame : WitnessMsg) (ph : Nat)   -- WITNESS_FRAME (R409)
  | witnessLost (ph : Nat)   -- WITNESS_LOST (R397)
  | handoff (sent : Nat)   -- HANDOFF (R412)
  | handoffSwitch   -- HANDOFF_SWITCH (R412)
  | swap (view : View) (ph : Nat)   -- SWAP (R414)
  | failbackRequest   -- FAILBACK_REQUEST (R414)
  | failback   -- FAILBACK (R414)
  | rejoin (view : View) (ph : Nat)   -- REJOIN (R396)
  | retire (view : View) (ph : Nat)   -- RETIRE (R396)
  | solo (view : View) (ph : Nat)   -- SOLO (R416)
  | joinComplete (digest : Nat)   -- JOIN_COMPLETE (R415)
  | joinSlow (ph : Nat)   -- JOIN_SLOW (R415)
  | joinWait (result : SearchResult) (ph : Nat)   -- JOIN_WAIT (R416)
  | xcheckDiff (sig : Nat)   -- XCHECK_DIFF (R405)
  | migHandover (view : View) (ph : Nat)   -- MIG_HANDOVER (R432)
  | migDone   -- MIG_DONE (R432)
  | migAbort (view : View) (ph : Nat)   -- MIG_ABORT (R433)
  | chalCmdNew (view : View) (ph : Nat)   -- CHAL_CMD_NEW (R452)
  | chalCmdClose (view : View) (ph : Nat)   -- CHAL_CMD_CLOSE (R453)
  | sessionEnd (ph : Nat)   -- SESSION_END (R453)
  | pkgLoad (bytes : List Byte) (partnerOk : Bool) (ph : Nat)   -- PKG_LOAD (R446)
  | pkgLoaded (ph : Nat)   -- PKG_LOADED (R446)
  | supplementApply (ph : Nat)   -- SUPPLEMENT_APPLY (R448)
  | pkgApply (ph : Nat)   -- PKG_APPLY (R448)
  | anchor (ph : Nat)   -- ANCHOR (R441)
  | grant (ph : Nat)   -- GRANT (R452)
  | claim (ph : Nat)   -- CLAIM (R445)
  | returnPackage (ph : Nat)   -- RETURN_PACKAGE (R436)
  | provision (ph : Nat)   -- PROVISION (R439)
  | cert (ph : Nat)   -- CERT (R438)
  | debug (ph : Nat)   -- DEBUG (R437)
  | refurb (ph : Nat)   -- REFURB (R436)
  | scrap (ph : Nat)   -- SCRAP (R436)
  | quoteGo (view : View) (ph : Nat)   -- QUOTE_GO (R454)
  | quoteDone (ph : Nat)   -- QUOTE_DONE (R454)
  | pllRelock (domain : Fin 8) (ph : Nat)   -- PLL_RELOCK (R486)
  | refLocked (ph : Nat)   -- REF_LOCKED (R338)
  | syncReceiptTimeout (port : Fin 2) (ph : Nat)   -- SYNC_RECEIPT_TIMEOUT (R372)
  | flushSpacing (ph : Nat)   -- FLUSH_SPACING (R352)
  | onTimeEnd (axis : Fin 32) (winding : Fin 2) (current : Int) (tick phase : Nat)   -- ON_TIME_END (R239)
  | offTimeEnd (axis : Fin 32) (winding : Fin 2) (current : Int) (tick phase : Nat)   -- OFF_TIME_END (R239)
  | linkTraining (gen : Fin 4) (lanes : Fin 3) (ph : Nat)   -- LINK_TRAINING (R457)
  | msixUnmask (vector : Option (Fin 64)) (cfg : Option HostCfg) (ph : Nat)   -- MSIX_UNMASK (R464)
  | glintPresent (tick phase : Nat)   -- GLINT_PRESENT (R398)
  deriving DecidableEq, Repr

end Sys2Proof
end

