-- ==== Sys2Proof/Config.lean ====
section
/-!
DEFINITION. Config.lean: what the specification leaves to an implementation, as constants without a body: no proof can see
their values, so a claim that is proved holds for every one of them. Each is named in the assumption log.
-/
namespace Sys2Proof.Config

open Sys2Proof

/-- The running CRC-32 of an echo controller's written entries (R157) after one more: the sum before, the entry and the value. -/
opaque echoCrc : Nat → Nat → Int → Nat

/-- The rotation exp(−2πj · th / 2^32) by which a watch bin multiplies its sample (R337), real and imaginary parts as coefficient words in
Q6.26, where the angle is no whole number of quarter turns: the specification does not say how they are rounded. -/
opaque watchRotor : Nat → Word × Word

/-- arg(X) / π of a watch bin (R337) in Q4.28, where X lies on neither axis. -/
opaque watchArg : Int → Int → Int

/-- Whether the on and off times of a chopper test's cycle have changed in the expected direction from those of the cycle before (R245), which
the specification does not name. -/
opaque chopAsExpected : Nat × Nat → Nat × Nat → Bool

/-- The phase of the FSK tone at the start of a message, in sixths of a cycle (R273): the specification names none. -/
opaque toneStart : Nat

/-- The phase of the tick at which a second of OP_SEC, by its number, ends: OP_SEC counts CK_AFE time in the field die (R346), and no rule places
its seconds in a tick. -/
opaque secondPhase : Nat → Nat

/-- CODE and INST of a health record of a kind for which R349 does not name them (REPEAT's INST, and both for START and LOSS, and CODE
for SNAPSHOT), by the kind. -/
opaque recCode : Nat → Nat
opaque recInst : Nat → Nat

/-- The RATE, in ppb, by which a unit in SHADOW, SHADOW_BLIND or JOINING follows its partner's glint (R398), from the RATE before and the phase
error in 0.25 ns: the specification gives the result it holds to and not the rule. -/
opaque glintRate : Int → Int → Int

/-! ### Cryptography (R438–R445, R452, R454)

SHA-512, Ed25519 and ML-DSA-65 are defined by other documents; the specification says what each must accept or produce and not how it is
computed. Keys are drawn from an entropy source. -/

/-- Byte `i` of the SHA-512 digest of a byte string. -/
opaque sha512 : List Byte → Nat → Byte

/-- Whether an Ed25519, or ML-DSA-65, signature over a message verifies under a public key. -/
opaque edVerify : List Byte → List Byte → List Byte → Bool
opaque mlVerify : List Byte → List Byte → List Byte → Bool

/-- Whether both maker signatures of a CLAIM verify against the maker anchor (R445), from the anchor, the message and the two signatures:
the payload has no room for the maker's public keys, and the specification does not say where the block finds them. -/
opaque makerVerify : List Byte → List Byte → List Byte → List Byte → Bool

/-- Byte `i` of draw `n` of the entropy source. -/
opaque entropy : Nat → Nat → Byte

/-- Byte `i` of the public keys of the key pairs generated from a draw, Ed25519 and ML-DSA-65. -/
opaque edPublic : Nat → Nat → Byte
opaque mlPublic : Nat → Nat → Byte

/-- Byte `i` of the signatures of a message with those keys. -/
opaque edSign : Nat → List Byte → Nat → Byte
opaque mlSign : Nat → List Byte → Nat → Byte

/-- The length of the first certificate in the payload of a CERT operation (R439): the payload gives no lengths. -/
opaque certSplit : List Byte → Nat

end Sys2Proof.Config
end

