-- ==== Sys2Proof/Machine/Map.lean ====
section
/-!
DEFINITION. Machine/Map.lean: the address map of R466 and R467. Every address is an offset in BAR0 and BAR2; a
register's name is its page and the name the owning chapter's table gives it.
-/
namespace Sys2Proof.Machine

open Sys2Proof

/-! ### Registers by page (the register tables of the owning chapters) -/
namespace Reg

/-! TICK (R56) -/
def TICK_TICK_PERIOD : Nat := 0x01040
def TICK_P_OUT_PHASE : Nat := 0x01044
def TICK_D_APPLY : Nat := 0x01048
def TICK_TICK_COUNT_LO : Nat := 0x0104C
def TICK_TICK_COUNT_HI : Nat := 0x01050
def TICK_TICK_PHASE : Nat := 0x01054
def TICK_TICKS_PER_SEC : Nat := 0x01058
def TICK_TICK_LEN_LAST : Nat := 0x0105C
def TICK_REALIGN_STAT : Nat := 0x01060
/-! WEAVE (R57) -/
def WEAVE_BANK_CTL : Nat := 0x02040
def WEAVE_BANK0_LEN : Nat := 0x02044
def WEAVE_BANK1_LEN : Nat := 0x02048
def WEAVE_CHECK_CMD : Nat := 0x0204C
def WEAVE_CHECK_STAT : Nat := 0x02050
def WEAVE_CHECK_FAIL : Nat := 0x02054
def WEAVE_CHECK_EARLY : Nat := 0x02058
def WEAVE_CHECK_LATE : Nat := 0x0205C
def WEAVE_CHECK_CLASS : Nat := 0x02060
def WEAVE_CAP_EARLY : Nat := 0x02064
def WEAVE_CAP_LATE : Nat := 0x02068
def WEAVE_OVERRUN_COUNT : Nat := 0x0206C
def WEAVE_OVERRUN_STAT : Nat := 0x02070
def WEAVE_AVG_B0 : Nat := 0x02200
def WEAVE_AVG_B1 : Nat := 0x02400
/-! ENGINE (R83) -/
def ENGINE_LANE_MAP0 : Nat := 0x03040
def ENGINE_LANE_MAP1 : Nat := 0x03044
def ENGINE_LANE_MAP2 : Nat := 0x03048
def ENGINE_LANE_MAP3 : Nat := 0x0304C
def ENGINE_LANE_RETIRED : Nat := 0x03050
def ENGINE_LANE_SPARE : Nat := 0x03054
def ENGINE_LANE_COUNT : Nat := 0x03058
def ENGINE_RETIRE_REQ : Nat := 0x0305C
def ENGINE_UNRETIRE : Nat := 0x03060
def ENGINE_SAT_COUNT : Nat := 0x03064
def ENGINE_SAT_LAST : Nat := 0x03068
def ENGINE_LANE_ERR_COUNT : Nat := 0x0306C
def ENGINE_REDISPATCH_COUNT : Nat := 0x03070
def ENGINE_STOP_STAT : Nat := 0x03074
/-! LOOPCTL (R112) -/
def LOOPCTL_LOOP_COUNT : Nat := 0x04040
def LOOPCTL_SOS_COUNT : Nat := 0x04044
def LOOPCTL_REFUSE_STAT : Nat := 0x04048
def LOOPCTL_DENIED_STAT : Nat := 0x0404C
def LOOPCTL_DENIED_COUNT : Nat := 0x04050
def LOOPCTL_SP_CLAMP_COUNT : Nat := 0x04054
def LOOPCTL_LIMIT_COUNT : Nat := 0x04058
def LOOPCTL_LIMIT_MAP : Nat := 0x04400
def LOOPCTL_PVBAD_MAP : Nat := 0x04500
/-! GUARD (R137) -/
def GUARD_GUARD_COUNT : Nat := 0x05040
def GUARD_FIRST_TRIP : Nat := 0x05044
def GUARD_FIRST_TICK : Nat := 0x05048
def GUARD_FIRST_CLR : Nat := 0x0504C
def GUARD_TRIP_COUNT : Nat := 0x05050
def GUARD_RESET_DENIED_COUNT : Nat := 0x05054
def GUARD_REFUSE_STAT : Nat := 0x05058
def GUARD_TRIPPED : Nat := 0x05060
def GUARD_RESET : Nat := 0x05080
def GUARD_ENABLED : Nat := 0x050A0
def GUARD_TERM_STATE : Nat := 0x05200
def GUARD_FORCED_MAP : Nat := 0x05400
def GUARD_QSTOP_MAP : Nat := 0x05500
/-! ECHO (R158) -/
def ECHO_ECHO_COUNT : Nat := 0x06040
def ECHO_POOL_USED : Nat := 0x06044
def ECHO_REFUSE_STAT : Nat := 0x06048
def ECHO_STAT_SEL : Nat := 0x0604C
def ECHO_SEL_STATE : Nat := 0x06050
def ECHO_SEL_POS : Nat := 0x06054
def ECHO_SEL_MEAS : Nat := 0x06058
def ECHO_SEL_REVS : Nat := 0x0605C
def ECHO_SEL_GATED : Nat := 0x06060
def ECHO_SEL_INDEX : Nat := 0x06064
def ECHO_LEARN : Nat := 0x06080
def ECHO_FREEZE : Nat := 0x06090
def ECHO_FADE : Nat := 0x060A0
def ECHO_CLEAR : Nat := 0x060B0
def ECHO_LEARN_MAP : Nat := 0x060C0
def ECHO_RETIRED : Nat := 0x060D0
def ECHO_UNRETIRE : Nat := 0x060E0
def ECHO_FADE_RUNS : Nat := 0x06200
def ECHO_Descriptors : Nat := 0x06400
/-! TASK (R197) -/
def TASK_TASK_COUNT : Nat := 0x07040
def TASK_ENGINE_TASK : Nat := 0x07044
def TASK_CMD : Nat := 0x07054
def TASK_CMD_STAT : Nat := 0x07058
def TASK_REFUSE_STAT : Nat := 0x0705C
def TASK_FLAG : Nat := 0x07060
def TASK_FLAG_SET : Nat := 0x07080
def TASK_FLAG_CLR : Nat := 0x070A0
def TASK_VALVE_STATE_LO : Nat := 0x070C0
def TASK_VALVE_STATE_HI : Nat := 0x070C4
def TASK_VALVE_CMD_LO : Nat := 0x070C8
def TASK_VALVE_CMD_HI : Nat := 0x070CC
def TASK_VALVE_SAFE_LO : Nat := 0x070D0
def TASK_VALVE_SAFE_HI : Nat := 0x070D4
def TASK_SEG_SEALED_LO : Nat := 0x070D8
def TASK_SEG_SEALED_HI : Nat := 0x070DC
def TASK_SEG_LOCK_LO : Nat := 0x070E0
def TASK_SEG_LOCK_HI : Nat := 0x070E4
def TASK_TASK_SEL : Nat := 0x070E8
def TASK_SEL_STATE : Nat := 0x070EC
def TASK_SEL_PC : Nat := 0x070F0
def TASK_SEL_WAKE_LO : Nat := 0x070F4
def TASK_SEL_WAKE_HI : Nat := 0x070F8
def TASK_SEL_FAULT : Nat := 0x070FC
def TASK_SEL_LOST_READY : Nat := 0x07100
def TASK_SEL_STEPS : Nat := 0x07104
def TASK_SEL_DWELL : Nat := 0x07108
def TASK_SEL_BLOCK : Nat := 0x0710C
def TASK_SEL_STACK : Nat := 0x07110
def TASK_HOLD_COUNT : Nat := 0x07130
def TASK_YIELD_COUNT : Nat := 0x07134
def TASK_DISPATCH_COUNT : Nat := 0x07138
def TASK_STATE_MAP : Nat := 0x07200
def TASK_VALVE_ROUTE : Nat := 0x07300
def TASK_TASK_CFG : Nat := 0x07400
/-! MOTION (R223) -/
def MOTION_MP_COUNT : Nat := 0x08040
def MOTION_STAT_SEL : Nat := 0x08044
def MOTION_SEL_STATE : Nat := 0x08048
def MOTION_SEL_POS : Nat := 0x0804C
def MOTION_SEL_VEL : Nat := 0x08054
def MOTION_SEL_LATCH : Nat := 0x08058
def MOTION_SEL_LATCH_TICK : Nat := 0x08060
def MOTION_SEL_CHATTER : Nat := 0x08064
def MOTION_REFUSE_STAT : Nat := 0x08068
def MOTION_SET_POS : Nat := 0x08070
def MOTION_SET_POS_CMD : Nat := 0x08078
def MOTION_QSTOP : Nat := 0x08080
def MOTION_HOME0 : Nat := 0x08090
def MOTION_MOVING_MAP : Nat := 0x080A0
def MOTION_HOMED_MAP : Nat := 0x080B0
def MOTION_LIMP_MAP : Nat := 0x080B4
def MOTION_LIMN_MAP : Nat := 0x080B8
def MOTION_AXIS_CFG : Nat := 0x08200
def MOTION_HOME_PROG : Nat := 0x08400
def MOTION_SOFT_LIM : Nat := 0x08800
/-! STEPDRV (R251) -/
def STEPDRV_AX_COUNT : Nat := 0x09040
def STEPDRV_STAT_SEL : Nat := 0x09044
def STEPDRV_SEL_STATE : Nat := 0x09048
def STEPDRV_SEL_FINE : Nat := 0x0904C
def STEPDRV_SEL_AMP : Nat := 0x09054
def STEPDRV_SEL_SENSE : Nat := 0x09058
def STEPDRV_SEL_EXT_IGNORED : Nat := 0x0905C
def STEPDRV_SEL_OFFS : Nat := 0x09060
def STEPDRV_SEL_SKIP : Nat := 0x09074
def STEPDRV_EN_MAP : Nat := 0x09080
def STEPDRV_RETIRED_MAP : Nat := 0x09084
def STEPDRV_UNRETIRE : Nat := 0x09088
def STEPDRV_CLR_OFFS : Nat := 0x0908C
def STEPDRV_STILL_MAP : Nat := 0x09090
def STEPDRV_REFUSE_STAT : Nat := 0x09094
def STEPDRV_AXIS_DRV : Nat := 0x09800
/-! LPORT (R286) -/
def LPORT_PORT_COUNT : Nat := 0x0A040
def LPORT_VLOOP : Nat := 0x0A044
def LPORT_COMP_MAP : Nat := 0x0A048
def LPORT_OPEN_MAP : Nat := 0x0A04C
def LPORT_THERM_MAP : Nat := 0x0A050
def LPORT_RETIRED_MAP : Nat := 0x0A054
def LPORT_UNRETIRE : Nat := 0x0A058
def LPORT_FAULT_FORCE : Nat := 0x0A05C
def LPORT_SHARE_MAP : Nat := 0x0A060
def LPORT_CD_MAP : Nat := 0x0A064
def LPORT_REFUSE_STAT : Nat := 0x0A068
/-! INPUT (R315) -/
def INPUT_AI_OPEN : Nat := 0x0B040
def INPUT_AI_RETIRED : Nat := 0x0B048
def INPUT_AI_OR : Nat := 0x0B050
def INPUT_AI_UNRETIRE : Nat := 0x0B058
def INPUT_SW_RAW : Nat := 0x0B060
def INPUT_EDGE_LOST_COUNT : Nat := 0x0B06C
def INPUT_DIO_RAW : Nat := 0x0B070
def INPUT_REFUSE_STAT : Nat := 0x0B078
def INPUT_AI_CFG : Nat := 0x0B100
def INPUT_SW_DEB : Nat := 0x0B200
def INPUT_DIO_CFG : Nat := 0x0B280
def INPUT_SD_CFG : Nat := 0x0B340
def INPUT_SD_COUNT : Nat := 0x0B3A0
/-! WLINK (R318) -/
def WLINK_LINK_STAT : Nat := 0x0C040
def WLINK_DAPPLY_MIN : Nat := 0x0C044
def WLINK_SEL : Nat := 0x0C048
def WLINK_SEL_ID : Nat := 0x0C04C
def WLINK_SEL_DELAY : Nat := 0x0C05C
def WLINK_SEL_HSTAT : Nat := 0x0C060
def WLINK_OUT_RUNS : Nat := 0x0C200
def WLINK_HEAD_MAP : Nat := 0x0C400
def WLINK_HEAD_CFG : Nat := 0x0C800
/-! CAPTURE (R344) -/
def CAPTURE_CAP_STATE : Nat := 0x0D040
def CAPTURE_ARM : Nat := 0x0D048
def CAPTURE_DISARM : Nat := 0x0D04C
def CAPTURE_SW_TRIG : Nat := 0x0D050
def CAPTURE_BW_DEMAND : Nat := 0x0D054
def CAPTURE_SYNC_CTL : Nat := 0x0D058
def CAPTURE_SYNC_STAT : Nat := 0x0D05C
def CAPTURE_REFUSE_STAT : Nat := 0x0D060
def CAPTURE_TB_COLL_COUNT : Nat := 0x0D064
def CAPTURE_STAT_SEL : Nat := 0x0D068
def CAPTURE_SEL_WPTR : Nat := 0x0D06C
def CAPTURE_SEL_LAST : Nat := 0x0D074
def CAPTURE_SEL_RECS : Nat := 0x0D07C
def CAPTURE_SEL_MISSED : Nat := 0x0D080
def CAPTURE_SEL_OVF_TICK : Nat := 0x0D084
def CAPTURE_TB_DELAY : Nat := 0x0D100
def CAPTURE_RUNS : Nat := 0x0D200
def CAPTURE_SET_CFG : Nat := 0x0D400
def CAPTURE_COND : Nat := 0x0D600
def CAPTURE_WATCH : Nat := 0x0D800
/-! HEALTH (R362) -/
def HEALTH_OP_SEC_LO : Nat := 0x11040
def HEALTH_OP_SEC_HI : Nat := 0x11044
def HEALTH_REC_SEQ : Nat := 0x11048
def HEALTH_BUF_STAT : Nat := 0x1104C
def HEALTH_FLUSH_CMD : Nat := 0x11050
def HEALTH_LAST_FLUSH : Nat := 0x11054
def HEALTH_FLUSH_COUNT : Nat := 0x11058
def HEALTH_DROP_COUNT : Nat := 0x1105C
def HEALTH_AREA_HEAD : Nat := 0x11060
def HEALTH_AREA_WRAPS : Nat := 0x11064
def HEALTH_RESTARTS : Nat := 0x11068
def HEALTH_CODE_SEL : Nat := 0x11070
def HEALTH_CODE_TOTAL : Nat := 0x11074
def HEALTH_CODE_FIRST : Nat := 0x11078
def HEALTH_CODE_LAST : Nat := 0x11080
def HEALTH_CODE_CFG : Nat := 0x11088
def HEALTH_GROUP_CFG : Nat := 0x11100
def HEALTH_HIST_CFG : Nat := 0x11200
def HEALTH_HIST_SEL : Nat := 0x11600
def HEALTH_HIST_INVALID : Nat := 0x11604
def HEALTH_HIST_BIN : Nat := 0x11680
def HEALTH_EXT_CFG : Nat := 0x11800
def HEALTH_EXT_SEL : Nat := 0x11C00
def HEALTH_EXT_MIN : Nat := 0x11C04
def HEALTH_EXT_MAX : Nat := 0x11C08
def HEALTH_EXT_MIN_OP : Nat := 0x11C0C
def HEALTH_EXT_MAX_OP : Nat := 0x11C10
def HEALTH_RD_INDEX : Nat := 0x11D00
def HEALTH_RD_REC : Nat := 0x11D40
/-! IST (R364) -/
def IST_IST_EN : Nat := 0x12040
def IST_SCRUB_PASS : Nat := 0x12044
def IST_SCRUB_COUNT : Nat := 0x12048
def IST_CE_COUNT : Nat := 0x1204C
def IST_UE_COUNT : Nat := 0x12050
def IST_UE_ADDR : Nat := 0x12054
def IST_TRANS_COUNT : Nat := 0x12058
def IST_PERM_COUNT : Nat := 0x1205C
def IST_OUTCOME : Nat := 0x12060
def IST_OUTCOME_TICK : Nat := 0x12064
def IST_RECOMP_COUNT : Nat := 0x12068
def IST_LANE_CHECKS : Nat := 0x1206C
def IST_LINK_ERR_MAX : Nat := 0x12070
def IST_RETIRE_SUM : Nat := 0x12074
def IST_RETIRE_ECHO : Nat := 0x12078
/-! TIME (R393) -/
def TIME_TIME_STAT : Nat := 0x0E040
def TIME_NS_NOW : Nat := 0x0E044
def TIME_SEC_LO : Nat := 0x0E048
def TIME_SEC_HI : Nat := 0x0E04C
def TIME_OFFSET : Nat := 0x0E050
def TIME_MPD : Nat := 0x0E054
def TIME_RATE : Nat := 0x0E058
def TIME_GM_ID : Nat := 0x0E05C
def TIME_UTC : Nat := 0x0E064
def TIME_REFUSED_COUNT : Nat := 0x0E068
def TIME_SERVO_CFG : Nat := 0x0E06C
def TIME_PATH_CFG : Nat := 0x0E070
def TIME_PTP_CFG : Nat := 0x0E074
def TIME_PTP_CFG2 : Nat := 0x0E078
def TIME_TIME_CMD : Nat := 0x0E07C
def TIME_SET_SEC : Nat := 0x0E080
def TIME_SET_NS : Nat := 0x0E088
/-! NET (R394) -/
def NET_LINK_STAT : Nat := 0x0F040
def NET_MAC_LO : Nat := 0x0F044
def NET_MAC_HI : Nat := 0x0F048
def NET_NET_CFG : Nat := 0x0F04C
def NET_PRP_CFG : Nat := 0x0F050
def NET_TX_END : Nat := 0x0F054
def NET_DUP_COUNT : Nat := 0x0F058
def NET_SOLO_COUNT : Nat := 0x0F05C
def NET_WRONG_LAN_COUNT : Nat := 0x0F060
def NET_LATE_COUNT : Nat := 0x0F064
def NET_NETp_ERR : Nat := 0x0F068
def NET_SUB_LOST_MAP : Nat := 0x0F070
def NET_REFUSE_STAT : Nat := 0x0F074
def NET_HTX_CTL : Nat := 0x0F080
def NET_HTX_STAT : Nat := 0x0F084
def NET_HTX_TS : Nat := 0x0F088
def NET_HRX_STAT : Nat := 0x0F08C
def NET_HRX_TS : Nat := 0x0F090
def NET_HRX_POP : Nat := 0x0F094
def NET_HTX_BUF : Nat := 0x0F400
def NET_HRX_BUF : Nat := 0x0FA00
/-! TWIN (R418) -/
def TWIN_TWIN_STAT : Nat := 0x10040
def TWIN_TWIN_CFG : Nat := 0x10044
def TWIN_FB_HOLD : Nat := 0x10048
def TWIN_XCHK_TOL : Nat := 0x1004C
def TWIN_PARTNER_MAC : Nat := 0x10050
def TWIN_CMD : Nat := 0x10058
def TWIN_SYNC_TIME : Nat := 0x1005C
def TWIN_GLINT_STAT : Nat := 0x10060
def TWIN_DELAYS : Nat := 0x10064
def TWIN_MISMATCH_COUNT : Nat := 0x10068
def TWIN_RESYNC_COUNT : Nat := 0x1006C
def TWIN_TAKEOVER_COUNT : Nat := 0x10070
def TWIN_LAST_TAKEOVER : Nat := 0x10074
def TWIN_TAKEOVER_STAT : Nat := 0x10078
def TWIN_WIT_LOST_COUNT : Nat := 0x1007C
def TWIN_DIGEST : Nat := 0x10080
def TWIN_MIRROR_STAT : Nat := 0x10090
def TWIN_MIG_CTL : Nat := 0x100A0
def TWIN_MIG_STAT : Nat := 0x100A4
def TWIN_MIG_UNITS : Nat := 0x100A8
def TWIN_MIG_LEFT : Nat := 0x100AC
/-! SEC (R456) -/
def SEC_LC_STAT : Nat := 0x13040
def SEC_SERIAL : Nat := 0x13044
def SEC_ANCHOR_STAT : Nat := 0x1304C
def SEC_ANCHOR_SEL : Nat := 0x13050
def SEC_SESSION : Nat := 0x13054
def SEC_CHAL_CMD : Nat := 0x13058
def SEC_PKG_ADDR : Nat := 0x1305C
def SEC_PKG_LEN : Nat := 0x13064
def SEC_PKG_CMD : Nat := 0x13068
def SEC_PKG_STAT : Nat := 0x1306C
def SEC_SLOT_A_STAT : Nat := 0x13070
def SEC_SLOT_B_STAT : Nat := 0x13074
def SEC_SLOT_A_VER : Nat := 0x13078
def SEC_SLOT_B_VER : Nat := 0x1307C
def SEC_QUOTE_CMD : Nat := 0x13080
def SEC_DATA_SEL : Nat := 0x13084
def SEC_DATA_LEN : Nat := 0x13088
def SEC_CHALLENGE : Nat := 0x13100
def SEC_QUOTE_NONCE : Nat := 0x13120
def SEC_CFG_DIGEST : Nat := 0x13140
def SEC_ANCHOR_DIGEST : Nat := 0x13180
def SEC_DATA : Nat := 0x13800
/-! The page header, offsets from the page base (R462) -/
def HDR_PAGE_ID : Nat := 0x00000
def HDR_PAGE_CAP : Nat := 0x00004
def HDR_PAGE_CTL : Nat := 0x00008
def HDR_PAGE_STAT : Nat := 0x0000C
def HDR_EVT_STAT : Nat := 0x00010
def HDR_EVT_EN : Nat := 0x00014
def HDR_EVT_FORCE : Nat := 0x00018
def HDR_FAULT_STAT : Nat := 0x0001C
def HDR_COMMIT : Nat := 0x00020
def HDR_COMMIT_STAT : Nat := 0x00024
def HDR_LOCK : Nat := 0x00028
/-! SYS (R468) -/
def SYS_DEV_STAT : Nat := 0x00040
def SYS_DEV_CMD : Nat := 0x00044
def SYS_DEV_CFG : Nat := 0x00048
def SYS_RUN_REFUSE : Nat := 0x0004C
def SYS_BOARD_TICK : Nat := 0x00050
def SYS_RING_LOSS_DATA : Nat := 0x00054
def SYS_RING_LOSS_MGMT : Nat := 0x00058
def SYS_REVISION : Nat := 0x0005C
def SYS_STATE_TICK : Nat := 0x00060
def SYS_BAD_ADDR : Nat := 0x00064
def SYS_BAD_INFO : Nat := 0x00068
/-! HOST (R471) -/
def HOST_LINK_STAT : Nat := 0x14040
def HOST_CFG_STAT : Nat := 0x14044
def HOST_CE_COUNT : Nat := 0x14048
def HOST_UE_COUNT : Nat := 0x1404C
def HOST_WD_CFG : Nat := 0x14050
def HOST_WD_KICK : Nat := 0x14054
def HOST_IRQ_HOLDOFF : Nat := 0x14058
/-! CLKPWR (R472) -/
def CLKPWR_CLK_STAT : Nat := 0x15040
def CLKPWR_CLK_CFG : Nat := 0x15044
def CLKPWR_SKEW : Nat := 0x15048
def CLKPWR_SKEW_COUNT : Nat := 0x1504C
def CLKPWR_TEMP : Nat := 0x15050
def CLKPWR_VHOLD : Nat := 0x15054
def CLKPWR_POWER : Nat := 0x15058
def CLKPWR_PF_COUNT : Nat := 0x1505C

end Reg

/-! ### Pages and windows -/

/-- The page bases of Table 4 of R466. -/
def pageBase : Page → Nat
  | .sys => 0x00000 | .tick => 0x01000 | .weave => 0x02000 | .engine => 0x03000 | .loopctl => 0x04000
  | .guard => 0x05000 | .echo => 0x06000 | .task => 0x07000 | .motion => 0x08000 | .stepdrv => 0x09000
  | .lport => 0x0A000 | .input => 0x0B000 | .wlink => 0x0C000 | .capture => 0x0D000 | .time => 0x0E000
  | .net => 0x0F000 | .twin => 0x10000 | .health => 0x11000 | .ist => 0x12000 | .sec => 0x13000
  | .host => 0x14000 | .clkpwr => 0x15000

/-- The page number, which is its base divided by 0x1000. -/
def pageIndex (p : Page) : Nat := pageBase p / 0x1000

/-- All pages in address order. -/
def allPages : List Page :=
  [.sys, .tick, .weave, .engine, .loopctl, .guard, .echo, .task, .motion, .stepdrv, .lport,
   .input, .wlink, .capture, .time, .net, .twin, .health, .ist, .sec, .host, .clkpwr]

/-- The page that an offset below 0x0001_6000 lies in. -/
def pageOfAddr (a : Nat) : Option Page :=
  if a < 0x16000 then allPages[a / 0x1000]? else none

/-- The TYPE field of a page's PAGE_ID (Table 4 of R466). -/
def pageType (p : Page) : Nat := pageIndex p + 1

/-- The table windows of Table 5 of R467. -/
inductive Window where
  | weave | loops | sos | terms | guards | echo | recipe | profiles | microstep | board
  deriving DecidableEq, Repr

/-- Base and size of a window (R467). -/
def windowSpan : Window → Nat × Nat
  | .weave => (0x00100000, 0x20000)
  | .loops => (0x00200000, 0x80000)
  | .sos => (0x00280000, 0x40000)
  | .terms => (0x00300000, 0x4000)
  | .guards => (0x00304000, 0x4000)
  | .echo => (0x00400000, 0x400000)
  | .recipe => (0x00800000, 0x200000)
  | .profiles => (0x00A00000, 0x2000)
  | .microstep => (0x00A02000, 0x4000)
  | .board => (0x00C00000, 0x10000)

/-- All windows in address order. -/
def allWindows : List Window :=
  [.weave, .loops, .sos, .terms, .guards, .echo, .recipe, .profiles, .microstep, .board]

/-- The window that an offset lies in. -/
def windowOfAddr (a : Nat) : Option Window :=
  allWindows.find? (fun w => decide ((windowSpan w).1 ≤ a ∧ a < (windowSpan w).1 + (windowSpan w).2))

/-- The page that governs a window (R467). -/
def windowPage : Window → Page
  | .weave => .weave
  | .loops | .sos => .loopctl
  | .terms | .guards => .guard
  | .echo => .echo
  | .recipe => .task
  | .profiles => .motion
  | .microstep => .stepdrv
  | .board => .sys

/-! ### Records in windows -/

/-- Loop record n (R101). -/
def loopRec (n : Nat) : Nat := 0x00200000 + 256 * n
/-- SOS record j (R103). -/
def sosRec (j : Nat) : Nat := 0x00280000 + 32 * j
/-- Term t (R127). -/
def termRec (t : Nat) : Nat := 0x00300000 + 16 * t
/-- Guard record g (R128). -/
def guardRec (g : Nat) : Nat := 0x00304000 + 64 * g
/-- Strand i of bank b (R37). -/
def strandAddr (b i : Nat) : Nat := 0x00100000 + b * 0x10000 + 8 * i
/-- Averaging descriptor j of bank b (R58). -/
def avgDesc (b j : Nat) : Nat := Reg.WEAVE_AVG_B0 + 0x200 * b + 8 * j
/-- Echo descriptor n (R158). -/
def echoDesc (n : Nat) : Nat := Reg.ECHO_Descriptors + 24 * n
/-- Echo-memory entry e (R151). -/
def echoEntry (e : Nat) : Nat := 0x00400000 + 4 * e
/-- Recipe step n (R163). -/
def stepAddr (n : Nat) : Nat := 0x00800000 + 16 * n
/-- Task configuration word t (R197). -/
def taskCfg (t : Nat) : Nat := Reg.TASK_TASK_CFG + 4 * t

/-! ### Signals (R17) -/

namespace Sig

def ai (n : Nat) : Nat := n
def sw (n : Nat) : Nat := 0x0040 + n
def dio (n : Nat) : Nat := 0x00A0 + n
def lpCurrent (n : Nat) : Nat := 0x00D0 + n
def lpVoltage (n : Nat) : Nat := 0x00F0 + n
def coil (axis phase : Nat) : Nat := 0x0110 + 2 * axis + phase
def tickLo : Nat := 0x0150
def tickHi : Nat := 0x0151
def ptpNs : Nat := 0x0152
def devState : Nat := 0x0153
def guards (w : Nat) : Nat := 0x0158 + w
def loopOut (n : Nat) : Nat := 0x0200 + n
def loopSp (n : Nat) : Nat := 0x0A00 + n
def mpPosLo (n : Nat) : Nat := 0x1200 + 2 * n
def mpPosHi (n : Nat) : Nat := 0x1201 + 2 * n
def mpVel (n : Nat) : Nat := 0x1300 + n
def echo (n : Nat) : Nat := 0x1380 + n
def binMag (k : Nat) : Nat := 0x1400 + 2 * k
def binPhase (k : Nat) : Nat := 0x1401 + 2 * k

end Sig

/-- The reserved signal indices of R17. -/
def sigReserved (i : Nat) : Bool :=
  (decide (0x0154 ≤ i) && decide (i ≤ 0x0157)) || (decide (0x0160 ≤ i) && decide (i ≤ 0x01FF))
    || (decide (0x1600 ≤ i) && decide (i ≤ 0x1FFF)) || decide (0x3FFF < i)

/-- The assignable region of R17. -/
def sigAssignable (i : Nat) : Bool := decide (0x2000 ≤ i) && decide (i ≤ 0x3FFF)

end Sys2Proof.Machine
end

