-- ==== Sys2Proof/Machine/Events.lean ====
section
/-!
DEFINITION. Machine/Events.lean: every event of the owning chapters' event tables: its page, its EVT_STAT bit, its
code and, for a fault event, its FAULT_STAT bit.
-/
namespace Sys2Proof.Machine

open Sys2Proof

/-- One row of an event table. -/
structure EvDef where
  page  : Page
  bit   : Nat
  code  : Nat
  fault : Option Nat
  deriving DecidableEq, Repr

namespace Event

/-! TICK -/
def TICK_TICK_REALIGN : EvDef := ⟨.tick, 0, 0x100, none⟩
def TICK_REALIGN_DEFERRED : EvDef := ⟨.tick, 1, 0x101, none⟩
/-! WEAVE -/
def WEAVE_CHECK_DONE : EvDef := ⟨.weave, 0, 0x110, none⟩
def WEAVE_BANK_SWAP : EvDef := ⟨.weave, 1, 0x111, none⟩
def WEAVE_SWAP_REFUSED : EvDef := ⟨.weave, 2, 0x112, none⟩
def WEAVE_STRUCT_REFUSED : EvDef := ⟨.weave, 3, 0x113, none⟩
def WEAVE_UNSCHEDULED : EvDef := ⟨.weave, 4, 0x114, none⟩
def WEAVE_ACTIVE_BANK_WRITE : EvDef := ⟨.weave, 5, 0x115, none⟩
def WEAVE_OVERRUN : EvDef := ⟨.weave, 6, 0x116, some 0⟩
def WEAVE_OVERRUN_SAFE : EvDef := ⟨.weave, 7, 0x117, some 1⟩
/-! ENGINE -/
def ENGINE_LANE_STOP : EvDef := ⟨.engine, 0, 0x120, some 0⟩
def ENGINE_LANE_RETIRED : EvDef := ⟨.engine, 1, 0x121, some 1⟩
def ENGINE_SPARE_IN : EvDef := ⟨.engine, 2, 0x122, none⟩
def ENGINE_LANE_DEFICIT : EvDef := ⟨.engine, 3, 0x123, some 2⟩
def ENGINE_ENGINE_LOST : EvDef := ⟨.engine, 4, 0x124, some 3⟩
def ENGINE_SAT_STORE : EvDef := ⟨.engine, 5, 0x125, none⟩
def ENGINE_LANE_UNRETIRED : EvDef := ⟨.engine, 6, 0x126, none⟩
/-! LOOPCTL -/
def LOOPCTL_LOOP_REFUSED : EvDef := ⟨.loopctl, 0, 0x130, none⟩
def LOOPCTL_WRITE_DENIED : EvDef := ⟨.loopctl, 1, 0x131, none⟩
def LOOPCTL_SP_CLAMPED : EvDef := ⟨.loopctl, 2, 0x132, none⟩
def LOOPCTL_OUT_LIMITED : EvDef := ⟨.loopctl, 3, 0x133, none⟩
def LOOPCTL_FEEDBACK_LOST : EvDef := ⟨.loopctl, 4, 0x134, some 0⟩
def LOOPCTL_FEEDBACK_RECOVERED : EvDef := ⟨.loopctl, 5, 0x135, none⟩
def LOOPCTL_MODE_CHANGED : EvDef := ⟨.loopctl, 6, 0x136, none⟩
/-! GUARD -/
def GUARD_GUARD_TRIP : EvDef := ⟨.guard, 0, 0x140, some 0⟩
def GUARD_GUARD_RESET : EvDef := ⟨.guard, 1, 0x141, none⟩
def GUARD_RESET_REFUSED : EvDef := ⟨.guard, 2, 0x142, none⟩
def GUARD_GUARD_REFUSED : EvDef := ⟨.guard, 3, 0x143, none⟩
def GUARD_TERM_INVALID : EvDef := ⟨.guard, 4, 0x144, none⟩
def GUARD_WRITE_DENIED : EvDef := ⟨.guard, 5, 0x145, none⟩
/-! ECHO -/
def ECHO_ECHO_RESIZE : EvDef := ⟨.echo, 0, 0x150, none⟩
def ECHO_INDEX_LOST : EvDef := ⟨.echo, 1, 0x151, none⟩
def ECHO_INDEX_REGAINED : EvDef := ⟨.echo, 2, 0x152, none⟩
def ECHO_INDEX_REJECT : EvDef := ⟨.echo, 3, 0x153, none⟩
def ECHO_FADE_DONE : EvDef := ⟨.echo, 4, 0x154, none⟩
def ECHO_CLEAR_DONE : EvDef := ⟨.echo, 5, 0x155, none⟩
def ECHO_ECHO_REFUSED : EvDef := ⟨.echo, 6, 0x156, none⟩
def ECHO_CMD_REFUSED : EvDef := ⟨.echo, 7, 0x157, none⟩
def ECHO_ECHO_MEM_ERR : EvDef := ⟨.echo, 8, 0x158, some 0⟩
def ECHO_ECHO_RETIRED : EvDef := ⟨.echo, 9, 0x159, some 1⟩
def ECHO_WRITE_DENIED : EvDef := ⟨.echo, 10, 0x15A, none⟩
/-! TASK -/
def TASK_TASK_START : EvDef := ⟨.task, 0, 0x160, none⟩
def TASK_TASK_DONE : EvDef := ⟨.task, 1, 0x161, none⟩
def TASK_TASK_FAULT : EvDef := ⟨.task, 2, 0x162, some 0⟩
def TASK_TASK_CANCELLED : EvDef := ⟨.task, 3, 0x163, none⟩
def TASK_LOST_READY : EvDef := ⟨.task, 4, 0x164, none⟩
def TASK_FORK_REFUSED : EvDef := ⟨.task, 5, 0x165, none⟩
def TASK_STEP_BLOCKED : EvDef := ⟨.task, 6, 0x166, none⟩
def TASK_WAIT_TIMEOUT : EvDef := ⟨.task, 7, 0x167, none⟩
def TASK_MARK : EvDef := ⟨.task, 8, 0x168, none⟩
def TASK_CMD_REFUSED : EvDef := ⟨.task, 9, 0x169, none⟩
def TASK_TASK_REFUSED : EvDef := ⟨.task, 10, 0x16A, none⟩
def TASK_WRITE_DENIED : EvDef := ⟨.task, 11, 0x16B, none⟩
def TASK_ENTRY_HOLD : EvDef := ⟨.task, 12, 0x16C, none⟩
def TASK_RECIPE_MEM_ERR : EvDef := ⟨.task, 13, 0x16D, some 1⟩
/-! MOTION -/
def MOTION_MOVE_DONE : EvDef := ⟨.motion, 0, 0x170, none⟩
def MOTION_MOVE_ABORTED : EvDef := ⟨.motion, 1, 0x171, none⟩
def MOTION_LIMIT_STOP : EvDef := ⟨.motion, 2, 0x172, some 0⟩
def MOTION_SOFT_CLAMP : EvDef := ⟨.motion, 3, 0x173, none⟩
def MOTION_POS_LATCH : EvDef := ⟨.motion, 4, 0x174, none⟩
def MOTION_LATCH_LOST : EvDef := ⟨.motion, 5, 0x175, none⟩
def MOTION_CHATTER : EvDef := ⟨.motion, 6, 0x176, none⟩
def MOTION_HOME_DONE : EvDef := ⟨.motion, 7, 0x177, none⟩
def MOTION_HOME_FAIL : EvDef := ⟨.motion, 8, 0x178, some 1⟩
def MOTION_MOTION_REFUSED : EvDef := ⟨.motion, 9, 0x179, none⟩
def MOTION_CMD_REFUSED : EvDef := ⟨.motion, 10, 0x17A, none⟩
def MOTION_WRITE_DENIED : EvDef := ⟨.motion, 11, 0x17B, none⟩
def MOTION_RESTART_STOP : EvDef := ⟨.motion, 12, 0x17C, some 2⟩
/-! STEPDRV -/
def STEPDRV_BAND_CHANGE : EvDef := ⟨.stepdrv, 0, 0x180, none⟩
def STEPDRV_STEP_SKIP : EvDef := ⟨.stepdrv, 1, 0x181, none⟩
def STEPDRV_OFFSET_LIMIT : EvDef := ⟨.stepdrv, 2, 0x182, none⟩
def STEPDRV_SENSE_SAT : EvDef := ⟨.stepdrv, 3, 0x183, none⟩
def STEPDRV_OPEN_COIL : EvDef := ⟨.stepdrv, 4, 0x184, some 0⟩
def STEPDRV_OVERCURRENT : EvDef := ⟨.stepdrv, 5, 0x185, some 1⟩
def STEPDRV_CHOP_TEST_FAIL : EvDef := ⟨.stepdrv, 6, 0x186, some 2⟩
def STEPDRV_AXIS_RETIRED : EvDef := ⟨.stepdrv, 7, 0x187, some 3⟩
def STEPDRV_AXIS_UNRETIRED : EvDef := ⟨.stepdrv, 8, 0x188, none⟩
def STEPDRV_DRV_REFUSED : EvDef := ⟨.stepdrv, 9, 0x189, none⟩
def STEPDRV_WRITE_DENIED : EvDef := ⟨.stepdrv, 10, 0x18A, none⟩
/-! LPORT -/
def LPORT_COMPLIANCE : EvDef := ⟨.lport, 0, 0x190, none⟩
def LPORT_OPEN_LOOP : EvDef := ⟨.lport, 1, 0x191, some 0⟩
def LPORT_THERMAL_LIMIT : EvDef := ⟨.lport, 2, 0x192, none⟩
def LPORT_THERMAL_SHUT : EvDef := ⟨.lport, 3, 0x193, some 1⟩
def LPORT_PORT_RETIRED : EvDef := ⟨.lport, 4, 0x194, some 2⟩
def LPORT_PORT_UNRETIRED : EvDef := ⟨.lport, 5, 0x195, none⟩
def LPORT_READBACK_FAIL : EvDef := ⟨.lport, 6, 0x196, some 3⟩
def LPORT_VLOOP_LOW : EvDef := ⟨.lport, 7, 0x197, some 4⟩
def LPORT_SHARE_LOST : EvDef := ⟨.lport, 8, 0x198, none⟩
def LPORT_OVERSHARE : EvDef := ⟨.lport, 9, 0x199, some 5⟩
def LPORT_FSK_TX_DONE : EvDef := ⟨.lport, 10, 0x19A, none⟩
def LPORT_FSK_RX : EvDef := ⟨.lport, 11, 0x19B, none⟩
def LPORT_FSK_CD : EvDef := ⟨.lport, 12, 0x19C, none⟩
def LPORT_FSK_ERR : EvDef := ⟨.lport, 13, 0x19D, none⟩
def LPORT_PORT_REFUSED : EvDef := ⟨.lport, 14, 0x19E, none⟩
def LPORT_WRITE_DENIED : EvDef := ⟨.lport, 15, 0x19F, none⟩
/-! INPUT -/
def INPUT_AI_OPEN : EvDef := ⟨.input, 0, 0x1A0, some 0⟩
def INPUT_AI_OVERRANGE : EvDef := ⟨.input, 1, 0x1A1, none⟩
def INPUT_AI_RETIRED : EvDef := ⟨.input, 2, 0x1A2, some 1⟩
def INPUT_AI_UNRETIRED : EvDef := ⟨.input, 3, 0x1A3, none⟩
def INPUT_EDGE_LOST : EvDef := ⟨.input, 4, 0x1A4, none⟩
def INPUT_INPUT_REFUSED : EvDef := ⟨.input, 5, 0x1A5, none⟩
def INPUT_WRITE_DENIED : EvDef := ⟨.input, 6, 0x1A6, none⟩
/-! WLINK -/
def WLINK_WL_UP : EvDef := ⟨.wlink, 0, 0x1B0, none⟩
def WLINK_WL_DOWN : EvDef := ⟨.wlink, 1, 0x1B1, some 0⟩
def WLINK_WL_START_FAIL : EvDef := ⟨.wlink, 2, 0x1B2, some 1⟩
def WLINK_HEAD_LOST : EvDef := ⟨.wlink, 3, 0x1B3, some 2⟩
def WLINK_HEAD_REGAINED : EvDef := ⟨.wlink, 4, 0x1B4, none⟩
def WLINK_HEAD_SAFE : EvDef := ⟨.wlink, 5, 0x1B5, none⟩
def WLINK_RETURN_LOST : EvDef := ⟨.wlink, 6, 0x1B6, none⟩
def WLINK_WLINK_REFUSED : EvDef := ⟨.wlink, 7, 0x1B7, none⟩
def WLINK_WRITE_DENIED : EvDef := ⟨.wlink, 8, 0x1B8, none⟩
/-! CAPTURE -/
def CAPTURE_CAP_TRIGGER : EvDef := ⟨.capture, 0, 0x1C0, none⟩
def CAPTURE_CAP_DONE : EvDef := ⟨.capture, 1, 0x1C1, none⟩
def CAPTURE_CAP_MISSED : EvDef := ⟨.capture, 2, 0x1C2, none⟩
def CAPTURE_CAP_OVERFLOW : EvDef := ⟨.capture, 3, 0x1C3, none⟩
def CAPTURE_CAP_REFUSED : EvDef := ⟨.capture, 4, 0x1C4, none⟩
def CAPTURE_TB_COLLISION : EvDef := ⟨.capture, 5, 0x1C5, none⟩
def CAPTURE_SYNC_LOST : EvDef := ⟨.capture, 6, 0x1C6, some 0⟩
def CAPTURE_PING_FAIL : EvDef := ⟨.capture, 7, 0x1C7, some 1⟩
def CAPTURE_PING_DONE : EvDef := ⟨.capture, 8, 0x1C8, none⟩
def CAPTURE_WRITE_DENIED : EvDef := ⟨.capture, 9, 0x1C9, none⟩
/-! HEALTH -/
def HEALTH_HEALTH_FLUSH : EvDef := ⟨.health, 0, 0x1D0, none⟩
def HEALTH_FLUSH_FAIL : EvDef := ⟨.health, 1, 0x1D1, some 0⟩
def HEALTH_REC_DROP : EvDef := ⟨.health, 2, 0x1D2, none⟩
def HEALTH_HEALTH_AREA_ERR : EvDef := ⟨.health, 3, 0x1D3, some 1⟩
def HEALTH_WRITE_DENIED : EvDef := ⟨.health, 4, 0x1D4, none⟩
/-! IST -/
def IST_IST_TRANSIENT : EvDef := ⟨.ist, 0, 0x1E0, none⟩
def IST_IST_PERMANENT : EvDef := ⟨.ist, 1, 0x1E1, some 0⟩
def IST_MEM_CORRECTED : EvDef := ⟨.ist, 2, 0x1E2, none⟩
def IST_MEM_UE : EvDef := ⟨.ist, 3, 0x1E3, some 1⟩
def IST_LINK_DEGRADED : EvDef := ⟨.ist, 4, 0x1E4, none⟩
def IST_SCRUB_LATE : EvDef := ⟨.ist, 5, 0x1E5, none⟩
/-! TIME -/
def TIME_LOCKED : EvDef := ⟨.time, 0, 0x1F0, none⟩
def TIME_OFFSET_JUMP : EvDef := ⟨.time, 1, 0x1F1, none⟩
def TIME_MASTER_DISAGREE : EvDef := ⟨.time, 2, 0x1F2, some 0⟩
def TIME_GM_CHANGE : EvDef := ⟨.time, 3, 0x1F3, none⟩
def TIME_PATH_CHANGE : EvDef := ⟨.time, 4, 0x1F4, none⟩
def TIME_LOCK_REGAINED : EvDef := ⟨.time, 5, 0x1F5, none⟩
def TIME_PORT_SWITCH : EvDef := ⟨.time, 6, 0x1F6, none⟩
def TIME_RESTEP_DONE : EvDef := ⟨.time, 7, 0x1F7, none⟩
def TIME_MASTER_LOST : EvDef := ⟨.time, 8, 0x1F8, some 1⟩
def TIME_WRITE_DENIED : EvDef := ⟨.time, 9, 0x1F9, none⟩
/-! NET -/
def NET_NET_LINK_DOWN : EvDef := ⟨.net, 0, 0x200, some 0⟩
def NET_NET_LINK_UP : EvDef := ⟨.net, 1, 0x201, none⟩
def NET_PRP_WRONG_LAN : EvDef := ⟨.net, 2, 0x202, none⟩
def NET_SUB_LOST : EvDef := ⟨.net, 3, 0x203, none⟩
def NET_SUB_REGAINED : EvDef := ⟨.net, 4, 0x204, none⟩
def NET_SUB_MISMATCH : EvDef := ⟨.net, 5, 0x205, none⟩
def NET_PUB_BUDGET : EvDef := ⟨.net, 6, 0x206, some 1⟩
def NET_NET_REFUSED : EvDef := ⟨.net, 7, 0x207, none⟩
def NET_HRX_OVERFLOW : EvDef := ⟨.net, 8, 0x208, none⟩
def NET_WRITE_DENIED : EvDef := ⟨.net, 9, 0x209, none⟩
/-! TWIN -/
def TWIN_ROLE_CHANGE : EvDef := ⟨.twin, 0, 0x210, none⟩
def TWIN_TAKEOVER : EvDef := ⟨.twin, 1, 0x211, some 0⟩
def TWIN_PARTNER_LOST : EvDef := ⟨.twin, 2, 0x212, some 1⟩
def TWIN_DIGEST_MISMATCH : EvDef := ⟨.twin, 3, 0x213, none⟩
def TWIN_SHADOW_RETIRED : EvDef := ⟨.twin, 4, 0x214, some 2⟩
def TWIN_TWIN_LINK_DOWN : EvDef := ⟨.twin, 5, 0x215, some 3⟩
def TWIN_GLINT_FAULT : EvDef := ⟨.twin, 6, 0x216, some 4⟩
def TWIN_WITNESS_LOST : EvDef := ⟨.twin, 7, 0x217, none⟩
def TWIN_WITNESS_VETO : EvDef := ⟨.twin, 8, 0x218, none⟩
def TWIN_DUAL_OWNER : EvDef := ⟨.twin, 9, 0x219, some 5⟩
def TWIN_FAILBACK : EvDef := ⟨.twin, 10, 0x21A, none⟩
def TWIN_XCHECK_DIFF : EvDef := ⟨.twin, 11, 0x21B, none⟩
def TWIN_JOIN_SLOW : EvDef := ⟨.twin, 12, 0x21C, none⟩
def TWIN_PAIR_WAIT : EvDef := ⟨.twin, 13, 0x21D, some 6⟩
def TWIN_WRITE_DENIED : EvDef := ⟨.twin, 14, 0x21E, none⟩
def TWIN_MIG_START : EvDef := ⟨.twin, 15, 0x21F, none⟩
def TWIN_MIG_FALLBACK : EvDef := ⟨.twin, 16, 0x220, some 7⟩
def TWIN_MIG_DONE : EvDef := ⟨.twin, 17, 0x221, none⟩
/-! SEC -/
def SEC_PKG_LOADED : EvDef := ⟨.sec, 0, 0x230, none⟩
def SEC_PKG_REFUSED : EvDef := ⟨.sec, 1, 0x231, none⟩
def SEC_PKG_LOAD_FAIL : EvDef := ⟨.sec, 2, 0x232, some 0⟩
def SEC_SLOT_INVALID : EvDef := ⟨.sec, 3, 0x233, some 1⟩
def SEC_ANCHOR_ROTATED : EvDef := ⟨.sec, 4, 0x234, none⟩
def SEC_SESSION_OPEN : EvDef := ⟨.sec, 5, 0x235, none⟩
def SEC_SESSION_END : EvDef := ⟨.sec, 6, 0x236, none⟩
def SEC_GRANT_REFUSED : EvDef := ⟨.sec, 7, 0x237, none⟩
def SEC_QUOTE_DONE : EvDef := ⟨.sec, 8, 0x238, none⟩
def SEC_LC_CHANGE : EvDef := ⟨.sec, 9, 0x239, none⟩
def SEC_DEBUG_OPEN : EvDef := ⟨.sec, 10, 0x23A, none⟩
def SEC_WRITE_DENIED : EvDef := ⟨.sec, 11, 0x23B, none⟩
/-! SYS -/
def SYS_STAGE_CONFLICT : EvDef := ⟨.sys, 0, 0x001, none⟩
def SYS_DIE_LINK : EvDef := ⟨.sys, 1, 0x002, some 0⟩
def SYS_COMMIT_DEFERRED : EvDef := ⟨.sys, 2, 0x003, none⟩
def SYS_BOARD_WRITE_IGNORED : EvDef := ⟨.sys, 3, 0x004, none⟩
def SYS_STATE_CHANGE : EvDef := ⟨.sys, 4, 0x005, none⟩
def SYS_RUN_REFUSED : EvDef := ⟨.sys, 5, 0x006, none⟩
def SYS_BAD_ACCESS : EvDef := ⟨.sys, 6, 0x007, none⟩
/-! HOST -/
def HOST_HOST_LOST : EvDef := ⟨.host, 0, 0x240, some 0⟩
def HOST_PCIE_DEGRADED : EvDef := ⟨.host, 1, 0x241, none⟩
def HOST_DMA_ERR : EvDef := ⟨.host, 2, 0x242, none⟩
def HOST_PCIE_ERR : EvDef := ⟨.host, 3, 0x243, none⟩
def HOST_HOST_RESET : EvDef := ⟨.host, 4, 0x244, none⟩
/-! CLKPWR -/
def CLKPWR_DIE_SKEW : EvDef := ⟨.clkpwr, 0, 0x250, none⟩
def CLKPWR_PLL_UNLOCK : EvDef := ⟨.clkpwr, 1, 0x251, some 0⟩
def CLKPWR_POWER_FAIL : EvDef := ⟨.clkpwr, 2, 0x252, some 1⟩
def CLKPWR_TEMP_WARN : EvDef := ⟨.clkpwr, 3, 0x253, none⟩


/-- The events of a page, in the order of their EVT_STAT bits. -/
def ofPage : Page → List EvDef
  | .tick => [TICK_TICK_REALIGN, TICK_REALIGN_DEFERRED]
  | .weave => [WEAVE_CHECK_DONE, WEAVE_BANK_SWAP, WEAVE_SWAP_REFUSED, WEAVE_STRUCT_REFUSED, WEAVE_UNSCHEDULED, WEAVE_ACTIVE_BANK_WRITE,
    WEAVE_OVERRUN, WEAVE_OVERRUN_SAFE]
  | .engine => [ENGINE_LANE_STOP, ENGINE_LANE_RETIRED, ENGINE_SPARE_IN, ENGINE_LANE_DEFICIT, ENGINE_ENGINE_LOST, ENGINE_SAT_STORE,
    ENGINE_LANE_UNRETIRED]
  | .loopctl => [LOOPCTL_LOOP_REFUSED, LOOPCTL_WRITE_DENIED, LOOPCTL_SP_CLAMPED, LOOPCTL_OUT_LIMITED, LOOPCTL_FEEDBACK_LOST,
    LOOPCTL_FEEDBACK_RECOVERED, LOOPCTL_MODE_CHANGED]
  | .guard => [GUARD_GUARD_TRIP, GUARD_GUARD_RESET, GUARD_RESET_REFUSED, GUARD_GUARD_REFUSED, GUARD_TERM_INVALID, GUARD_WRITE_DENIED]
  | .echo => [ECHO_ECHO_RESIZE, ECHO_INDEX_LOST, ECHO_INDEX_REGAINED, ECHO_INDEX_REJECT, ECHO_FADE_DONE, ECHO_CLEAR_DONE,
    ECHO_ECHO_REFUSED, ECHO_CMD_REFUSED, ECHO_ECHO_MEM_ERR, ECHO_ECHO_RETIRED, ECHO_WRITE_DENIED]
  | .task => [TASK_TASK_START, TASK_TASK_DONE, TASK_TASK_FAULT, TASK_TASK_CANCELLED, TASK_LOST_READY, TASK_FORK_REFUSED,
    TASK_STEP_BLOCKED, TASK_WAIT_TIMEOUT, TASK_MARK, TASK_CMD_REFUSED, TASK_TASK_REFUSED, TASK_WRITE_DENIED, TASK_ENTRY_HOLD,
    TASK_RECIPE_MEM_ERR]
  | .motion => [MOTION_MOVE_DONE, MOTION_MOVE_ABORTED, MOTION_LIMIT_STOP, MOTION_SOFT_CLAMP, MOTION_POS_LATCH, MOTION_LATCH_LOST,
    MOTION_CHATTER, MOTION_HOME_DONE, MOTION_HOME_FAIL, MOTION_MOTION_REFUSED, MOTION_CMD_REFUSED, MOTION_WRITE_DENIED,
    MOTION_RESTART_STOP]
  | .stepdrv => [STEPDRV_BAND_CHANGE, STEPDRV_STEP_SKIP, STEPDRV_OFFSET_LIMIT, STEPDRV_SENSE_SAT, STEPDRV_OPEN_COIL,
    STEPDRV_OVERCURRENT, STEPDRV_CHOP_TEST_FAIL, STEPDRV_AXIS_RETIRED, STEPDRV_AXIS_UNRETIRED, STEPDRV_DRV_REFUSED,
    STEPDRV_WRITE_DENIED]
  | .lport => [LPORT_COMPLIANCE, LPORT_OPEN_LOOP, LPORT_THERMAL_LIMIT, LPORT_THERMAL_SHUT, LPORT_PORT_RETIRED, LPORT_PORT_UNRETIRED,
    LPORT_READBACK_FAIL, LPORT_VLOOP_LOW, LPORT_SHARE_LOST, LPORT_OVERSHARE, LPORT_FSK_TX_DONE, LPORT_FSK_RX, LPORT_FSK_CD,
    LPORT_FSK_ERR, LPORT_PORT_REFUSED, LPORT_WRITE_DENIED]
  | .input => [INPUT_AI_OPEN, INPUT_AI_OVERRANGE, INPUT_AI_RETIRED, INPUT_AI_UNRETIRED, INPUT_EDGE_LOST, INPUT_INPUT_REFUSED,
    INPUT_WRITE_DENIED]
  | .wlink => [WLINK_WL_UP, WLINK_WL_DOWN, WLINK_WL_START_FAIL, WLINK_HEAD_LOST, WLINK_HEAD_REGAINED, WLINK_HEAD_SAFE,
    WLINK_RETURN_LOST, WLINK_WLINK_REFUSED, WLINK_WRITE_DENIED]
  | .capture => [CAPTURE_CAP_TRIGGER, CAPTURE_CAP_DONE, CAPTURE_CAP_MISSED, CAPTURE_CAP_OVERFLOW, CAPTURE_CAP_REFUSED,
    CAPTURE_TB_COLLISION, CAPTURE_SYNC_LOST, CAPTURE_PING_FAIL, CAPTURE_PING_DONE, CAPTURE_WRITE_DENIED]
  | .health => [HEALTH_HEALTH_FLUSH, HEALTH_FLUSH_FAIL, HEALTH_REC_DROP, HEALTH_HEALTH_AREA_ERR, HEALTH_WRITE_DENIED]
  | .ist => [IST_IST_TRANSIENT, IST_IST_PERMANENT, IST_MEM_CORRECTED, IST_MEM_UE, IST_LINK_DEGRADED, IST_SCRUB_LATE]
  | .time => [TIME_LOCKED, TIME_OFFSET_JUMP, TIME_MASTER_DISAGREE, TIME_GM_CHANGE, TIME_PATH_CHANGE, TIME_LOCK_REGAINED,
    TIME_PORT_SWITCH, TIME_RESTEP_DONE, TIME_MASTER_LOST, TIME_WRITE_DENIED]
  | .net => [NET_NET_LINK_DOWN, NET_NET_LINK_UP, NET_PRP_WRONG_LAN, NET_SUB_LOST, NET_SUB_REGAINED, NET_SUB_MISMATCH, NET_PUB_BUDGET,
    NET_NET_REFUSED, NET_HRX_OVERFLOW, NET_WRITE_DENIED]
  | .twin => [TWIN_ROLE_CHANGE, TWIN_TAKEOVER, TWIN_PARTNER_LOST, TWIN_DIGEST_MISMATCH, TWIN_SHADOW_RETIRED, TWIN_TWIN_LINK_DOWN,
    TWIN_GLINT_FAULT, TWIN_WITNESS_LOST, TWIN_WITNESS_VETO, TWIN_DUAL_OWNER, TWIN_FAILBACK, TWIN_XCHECK_DIFF, TWIN_JOIN_SLOW,
    TWIN_PAIR_WAIT, TWIN_WRITE_DENIED, TWIN_MIG_START, TWIN_MIG_FALLBACK, TWIN_MIG_DONE]
  | .sec => [SEC_PKG_LOADED, SEC_PKG_REFUSED, SEC_PKG_LOAD_FAIL, SEC_SLOT_INVALID, SEC_ANCHOR_ROTATED, SEC_SESSION_OPEN,
    SEC_SESSION_END, SEC_GRANT_REFUSED, SEC_QUOTE_DONE, SEC_LC_CHANGE, SEC_DEBUG_OPEN, SEC_WRITE_DENIED]
  | .sys => [SYS_STAGE_CONFLICT, SYS_DIE_LINK, SYS_COMMIT_DEFERRED, SYS_BOARD_WRITE_IGNORED, SYS_STATE_CHANGE, SYS_RUN_REFUSED,
    SYS_BAD_ACCESS]
  | .host => [HOST_HOST_LOST, HOST_PCIE_DEGRADED, HOST_DMA_ERR, HOST_PCIE_ERR, HOST_HOST_RESET]
  | .clkpwr => [CLKPWR_DIE_SKEW, CLKPWR_PLL_UNLOCK, CLKPWR_POWER_FAIL, CLKPWR_TEMP_WARN]

end Event

end Sys2Proof.Machine
end

