-- ==== Sys2Proof/Machine/RegMap.lean ====
section
/-!
DEFINITION. Machine/RegMap.lean: the fields of every page register that a host write can reach, or whose reset value is not
zero, from the register tables of the owning chapters: bit range, access code and effect time (R5, R8), the P mark (R459)
and the reset value. Bits that no row lists are reserved or read-only and reset to zero (R7).
-/
namespace Sys2Proof.Machine

open Sys2Proof

/-- The access codes of R5. -/
inductive Acc where
  | ro | rw | rws | w1c | w1s | wo | rc
  deriving DecidableEq, Repr

/-- The effect times of R8; `none` for a field that is not written. -/
inductive Eff where
  | none | now | rim | step | reset
  deriving DecidableEq, Repr

/-- One register field: bits [hi:lo], access, whether it is marked P, effect time and reset value. -/
structure FieldDef where
  hi    : Nat
  lo    : Nat
  acc   : Acc
  p     : Bool
  eff   : Eff
  reset : Nat
  deriving DecidableEq, Repr

/-- A register, or `count` like registers `stride` apart, at BAR offset `off`. `bytes` marks a byte-array register, in
which byte enables apply (R460). -/
structure RegRow where
  off    : Nat
  count  : Nat
  stride : Nat
  bytes  : Bool
  fields : List FieldDef
  deriving DecidableEq, Repr

/-- SYS: writable fields and non-zero resets. -/
def regsSys : List RegRow := [
  ⟨0x00044, 1, 4, false, [⟨0, 0, .wo, false, .rim, 0⟩, ⟨1, 1, .wo, false, .rim, 0⟩, ⟨2, 2, .wo, true, .now, 0⟩]⟩,
  ⟨0x00048, 1, 4, false, [⟨0, 0, .rws, true, .reset, 0⟩]⟩,
  ⟨0x0005C, 1, 4, false, [⟨7, 0, .ro, false, .none, 0xb0⟩, ⟨11, 8, .ro, false, .none, 4⟩, ⟨15, 12, .ro, false, .none, 2⟩, ⟨19, 16, .ro, false, .none, 3⟩]⟩,
  ⟨0x00064, 1, 4, false, [⟨31, 0, .rc, false, .none, 0⟩]⟩,
  ⟨0x00068, 1, 4, false, [⟨0, 0, .rc, false, .none, 0⟩, ⟨2, 1, .rc, false, .none, 0⟩, ⟨3, 3, .rc, false, .none, 0⟩, ⟨4, 4, .rc, false, .none, 0⟩]⟩]

/-- TICK: writable fields and non-zero resets. -/
def regsTick : List RegRow := [
  ⟨0x01040, 1, 4, false, [⟨14, 0, .rws, false, .rim, 0x1388⟩]⟩,
  ⟨0x01044, 1, 4, false, [⟨14, 0, .rws, false, .rim, 0xfa0⟩]⟩,
  ⟨0x01048, 1, 4, false, [⟨15, 0, .rws, false, .rim, 0x9c4⟩]⟩,
  ⟨0x01058, 1, 4, false, [⟨16, 0, .ro, false, .none, 0xc350⟩]⟩,
  ⟨0x01060, 1, 4, false, [⟨0, 0, .ro, false, .none, 1⟩]⟩]

/-- WEAVE: writable fields and non-zero resets. -/
def regsWeave : List RegRow := [
  ⟨0x02040, 1, 4, false, [⟨1, 1, .w1s, false, .rim, 0⟩]⟩,
  ⟨0x02044, 1, 4, false, [⟨13, 0, .rw, false, .now, 0⟩]⟩,
  ⟨0x02048, 1, 4, false, [⟨13, 0, .rw, false, .now, 0⟩]⟩,
  ⟨0x0204C, 1, 4, false, [⟨0, 0, .wo, false, .now, 0⟩, ⟨1, 1, .wo, false, .now, 0⟩]⟩,
  ⟨0x02064, 1, 4, false, [⟨20, 0, .ro, false, .none, 0x2cec0⟩]⟩,
  ⟨0x02068, 1, 4, false, [⟨20, 0, .ro, false, .none, 0xaf00⟩]⟩,
  ⟨0x02200, 128, 8, false, [⟨13, 0, .rw, false, .now, 0⟩, ⟨29, 16, .rw, false, .now, 0⟩]⟩,
  ⟨0x02204, 128, 8, false, [⟨8, 0, .rw, false, .now, 0⟩, ⟨18, 16, .rw, false, .now, 0⟩]⟩]

/-- ENGINE: writable fields and non-zero resets. -/
def regsEngine : List RegRow := [
  ⟨0x03040, 1, 4, false, [⟨31, 0, .ro, false, .none, 0x83828180⟩]⟩,
  ⟨0x03044, 1, 4, false, [⟨31, 0, .ro, false, .none, 0x88878685⟩]⟩,
  ⟨0x03048, 1, 4, false, [⟨31, 0, .ro, false, .none, 0x8d8c8b8a⟩]⟩,
  ⟨0x0304C, 1, 4, false, [⟨31, 0, .ro, false, .none, 0x9291908f⟩]⟩,
  ⟨0x03054, 1, 4, false, [⟨19, 0, .ro, false, .none, 0x84210⟩]⟩,
  ⟨0x03058, 1, 4, false, [⟨4, 0, .ro, false, .none, 0x10⟩]⟩,
  ⟨0x0305C, 1, 4, false, [⟨19, 0, .w1s, true, .rim, 0⟩]⟩,
  ⟨0x03060, 1, 4, false, [⟨19, 0, .w1s, true, .rim, 0⟩]⟩,
  ⟨0x03064, 1, 4, false, [⟨31, 0, .rc, false, .none, 0⟩]⟩]

/-- LOOPCTL: writable fields and non-zero resets. -/
def regsLoopctl : List RegRow := [
  ⟨0x04054, 1, 4, false, [⟨31, 0, .rc, false, .none, 0⟩]⟩,
  ⟨0x04058, 1, 4, false, [⟨31, 0, .rc, false, .none, 0⟩]⟩]

/-- GUARD: writable fields and non-zero resets. -/
def regsGuard : List RegRow := [
  ⟨0x0504C, 1, 4, false, [⟨0, 0, .wo, false, .now, 0⟩]⟩,
  ⟨0x05050, 1, 4, false, [⟨31, 0, .rc, false, .none, 0⟩]⟩,
  ⟨0x05080, 8, 4, false, [⟨31, 0, .w1s, false, .rim, 0⟩]⟩]

/-- ECHO: writable fields and non-zero resets. -/
def regsEcho : List RegRow := [
  ⟨0x0604C, 1, 4, false, [⟨6, 0, .rw, false, .now, 0⟩]⟩,
  ⟨0x06080, 4, 4, false, [⟨31, 0, .w1s, true, .rim, 0⟩]⟩,
  ⟨0x06090, 4, 4, false, [⟨31, 0, .w1s, false, .rim, 0⟩]⟩,
  ⟨0x060A0, 4, 4, false, [⟨31, 0, .w1s, false, .rim, 0⟩]⟩,
  ⟨0x060B0, 4, 4, false, [⟨31, 0, .w1s, true, .rim, 0⟩]⟩,
  ⟨0x060E0, 4, 4, false, [⟨31, 0, .w1s, true, .rim, 0⟩]⟩,
  ⟨0x06200, 64, 4, false, [⟨15, 0, .rws, true, .rim, 0⟩, ⟨31, 16, .rws, true, .rim, 0⟩]⟩,
  ⟨0x06400, 128, 24, false, [⟨16, 0, .rws, true, .rim, 0⟩, ⟨31, 17, .rws, true, .rim, 0⟩]⟩,
  ⟨0x06404, 128, 24, false, [⟨22, 0, .rws, true, .rim, 0⟩, ⟨30, 23, .rws, true, .rim, 0⟩, ⟨31, 31, .rws, true, .rim, 0⟩]⟩,
  ⟨0x06408, 128, 24, false, [⟨13, 0, .rws, true, .rim, 0⟩, ⟨15, 14, .rws, true, .rim, 0⟩, ⟨16, 16, .rws, true, .rim, 0⟩, ⟨17, 17, .rws, true, .rim, 0⟩, ⟨21, 18, .rws, true, .rim, 0⟩]⟩,
  ⟨0x0640C, 128, 24, false, [⟨31, 0, .rws, true, .rim, 0⟩]⟩,
  ⟨0x06410, 128, 24, false, [⟨31, 0, .rws, true, .rim, 0⟩]⟩,
  ⟨0x06414, 128, 24, false, [⟨15, 0, .rws, true, .rim, 0⟩, ⟨31, 16, .rws, true, .rim, 0⟩]⟩]

/-- TASK: writable fields and non-zero resets. -/
def regsTask : List RegRow := [
  ⟨0x07054, 1, 4, false, [⟨7, 0, .wo, false, .rim, 0⟩, ⟨10, 8, .wo, false, .rim, 0⟩]⟩,
  ⟨0x07080, 8, 4, false, [⟨31, 0, .w1s, false, .rim, 0⟩]⟩,
  ⟨0x070A0, 8, 4, false, [⟨31, 0, .w1s, false, .rim, 0⟩]⟩,
  ⟨0x070C8, 1, 4, false, [⟨31, 0, .rws, true, .rim, 0⟩]⟩,
  ⟨0x070CC, 1, 4, false, [⟨31, 0, .rws, true, .rim, 0⟩]⟩,
  ⟨0x070D0, 1, 4, false, [⟨31, 0, .rws, true, .rim, 0⟩]⟩,
  ⟨0x070D4, 1, 4, false, [⟨31, 0, .rws, true, .rim, 0⟩]⟩,
  ⟨0x070E8, 1, 4, false, [⟨7, 0, .rw, false, .now, 1⟩]⟩,
  ⟨0x07130, 1, 4, false, [⟨31, 0, .rc, false, .none, 0⟩]⟩,
  ⟨0x07134, 1, 4, false, [⟨31, 0, .rc, false, .none, 0⟩]⟩,
  ⟨0x07138, 1, 4, false, [⟨31, 0, .rc, false, .none, 0⟩]⟩,
  ⟨0x07300, 16, 4, true, [⟨5, 0, .rws, true, .rim, 0⟩, ⟨13, 8, .rws, true, .rim, 0⟩, ⟨21, 16, .rws, true, .rim, 0⟩, ⟨29, 24, .rws, true, .rim, 0⟩, ⟨7, 7, .rws, true, .rim, 0⟩, ⟨15, 15, .rws, true, .rim, 0⟩, ⟨23, 23, .rws, true, .rim, 0⟩, ⟨31, 31, .rws, true, .rim, 0⟩]⟩,
  ⟨0x07404, 255, 4, false, [⟨16, 0, .rws, true, .rim, 0⟩, ⟨21, 17, .rws, true, .rim, 0⟩, ⟨22, 22, .rws, true, .rim, 0⟩]⟩]

/-- MOTION: writable fields and non-zero resets. -/
def regsMotion : List RegRow := [
  ⟨0x08044, 1, 4, false, [⟨6, 0, .rw, false, .now, 0⟩]⟩,
  ⟨0x08048, 1, 4, false, [⟨3, 3, .ro, false, .none, 1⟩]⟩,
  ⟨0x08070, 2, 4, false, [⟨31, 0, .rws, true, .rim, 0⟩]⟩,
  ⟨0x08078, 1, 4, false, [⟨6, 0, .wo, true, .rim, 0⟩]⟩,
  ⟨0x08080, 4, 4, false, [⟨31, 0, .w1s, false, .rim, 0⟩]⟩,
  ⟨0x08090, 1, 4, false, [⟨31, 0, .w1s, false, .rim, 0⟩]⟩,
  ⟨0x08200, 32, 16, false, [⟨7, 0, .rws, true, .rim, 0xff⟩, ⟨15, 8, .rws, true, .rim, 0xff⟩, ⟨23, 16, .rws, true, .rim, 0xff⟩, ⟨26, 24, .rws, true, .rim, 0⟩]⟩,
  ⟨0x08204, 32, 16, false, [⟨7, 0, .rws, true, .rim, 0⟩, ⟨15, 8, .rws, true, .rim, 0⟩, ⟨23, 16, .rws, true, .rim, 0⟩, ⟨24, 24, .rws, true, .rim, 0⟩]⟩,
  ⟨0x08208, 32, 16, false, [⟨31, 0, .rws, true, .rim, 0⟩]⟩,
  ⟨0x0820C, 32, 16, false, [⟨31, 0, .rws, true, .rim, 0⟩]⟩,
  ⟨0x08400, 128, 8, false, [⟨31, 0, .rws, true, .rim, 0⟩]⟩,
  ⟨0x08404, 128, 8, false, [⟨1, 0, .rws, true, .rim, 0⟩, ⟨3, 2, .rws, true, .rim, 0⟩, ⟨4, 4, .rws, true, .rim, 0⟩, ⟨5, 5, .rws, true, .rim, 0⟩]⟩,
  ⟨0x08800, 512, 4, false, [⟨31, 0, .rws, true, .rim, 0⟩]⟩]

/-- STEPDRV: writable fields and non-zero resets. -/
def regsStepdrv : List RegRow := [
  ⟨0x09044, 1, 4, false, [⟨4, 0, .rw, false, .now, 0⟩]⟩,
  ⟨0x09088, 1, 4, false, [⟨31, 0, .w1s, true, .rim, 0⟩]⟩,
  ⟨0x0908C, 1, 4, false, [⟨31, 0, .w1s, true, .rim, 0⟩]⟩,
  ⟨0x09800, 32, 64, false, [⟨1, 0, .rws, true, .rim, 0⟩, ⟨3, 2, .rws, true, .rim, 0⟩, ⟨4, 4, .rws, true, .rim, 0⟩, ⟨5, 5, .rws, true, .rim, 1⟩, ⟨6, 6, .rws, true, .rim, 0⟩, ⟨7, 7, .rws, true, .rim, 1⟩, ⟨12, 8, .rws, true, .rim, 0⟩, ⟨23, 16, .rws, true, .rim, 0⟩]⟩,
  ⟨0x09804, 32, 64, false, [⟨10, 0, .rws, true, .rim, 0⟩, ⟨24, 16, .rws, true, .rim, 0x80⟩]⟩,
  ⟨0x09808, 32, 64, false, [⟨9, 0, .rws, true, .rim, 0x1f4⟩, ⟨25, 16, .rws, true, .rim, 0x64⟩]⟩,
  ⟨0x0980C, 32, 64, false, [⟨5, 0, .rws, true, .rim, 8⟩, ⟨13, 8, .rws, true, .rim, 4⟩, ⟨21, 16, .rws, true, .rim, 4⟩, ⟨31, 24, .rws, true, .rim, 0x32⟩]⟩,
  ⟨0x09810, 32, 64, false, [⟨2, 0, .rws, true, .rim, 2⟩, ⟨17, 8, .rws, true, .rim, 0x10⟩]⟩,
  ⟨0x09814, 32, 64, false, [⟨31, 0, .rws, true, .rim, 0⟩]⟩,
  ⟨0x09818, 32, 64, false, [⟨31, 0, .rws, true, .rim, 0⟩]⟩,
  ⟨0x0981C, 32, 64, false, [⟨31, 0, .rws, true, .rim, 0⟩]⟩,
  ⟨0x09820, 32, 64, false, [⟨31, 0, .rws, true, .rim, 0⟩]⟩,
  ⟨0x09824, 32, 64, false, [⟨7, 0, .rws, true, .rim, 0x20⟩]⟩,
  ⟨0x09828, 32, 64, false, [⟨8, 0, .rws, true, .rim, 0x10⟩, ⟨27, 16, .rws, true, .rim, 0xc8⟩]⟩,
  ⟨0x0982C, 32, 64, false, [⟨13, 0, .rws, true, .rim, 0⟩]⟩]

/-- LPORT: writable fields and non-zero resets. -/
def regsLport : List RegRow := [
  ⟨0x0A058, 1, 4, false, [⟨31, 0, .w1s, true, .rim, 0⟩]⟩,
  ⟨0x0A05C, 1, 4, false, [⟨31, 0, .rws, true, .rim, 0⟩]⟩,
  ⟨0x0A404, 32, 64, false, [⟨31, 16, .ro, false, .none, 0xffff⟩]⟩,
  ⟨0x0A40C, 32, 64, false, [⟨23, 16, .ro, false, .none, 0x19⟩]⟩,
  ⟨0x0A410, 32, 64, false, [⟨7, 0, .wo, false, .now, 0⟩]⟩,
  ⟨0x0A414, 32, 64, false, [⟨0, 0, .wo, false, .rim, 0⟩, ⟨1, 1, .wo, false, .rim, 0⟩, ⟨2, 2, .wo, false, .now, 0⟩, ⟨24, 16, .wo, false, .rim, 0⟩]⟩,
  ⟨0x0A41C, 32, 64, false, [⟨7, 0, .rc, false, .none, 0⟩, ⟨8, 8, .rc, false, .none, 0⟩, ⟨9, 9, .rc, false, .none, 0⟩, ⟨10, 10, .rc, false, .none, 0⟩, ⟨11, 11, .rc, false, .none, 0⟩, ⟨31, 31, .rc, false, .none, 0⟩]⟩,
  ⟨0x0AC00, 32, 32, false, [⟨1, 0, .rws, true, .rim, 0⟩, ⟨3, 2, .rws, true, .rim, 0⟩, ⟨4, 4, .rws, true, .rim, 0⟩, ⟨5, 5, .rws, true, .rim, 0⟩, ⟨6, 6, .rws, true, .rim, 0⟩, ⟨7, 7, .rws, true, .rim, 0⟩, ⟨8, 8, .rws, true, .rim, 0⟩, ⟨29, 16, .rws, true, .rim, 0⟩]⟩,
  ⟨0x0AC04, 32, 32, false, [⟨7, 0, .rws, true, .rim, 0x19⟩, ⟨15, 8, .rws, true, .rim, 0x32⟩]⟩,
  ⟨0x0AC08, 32, 32, false, [⟨15, 0, .rws, true, .rim, 0⟩]⟩,
  ⟨0x0AC0C, 32, 32, false, [⟨4, 0, .rws, true, .rim, 5⟩, ⟨14, 8, .rws, true, .rim, 1⟩]⟩]

/-- INPUT: writable fields and non-zero resets. -/
def regsInput : List RegRow := [
  ⟨0x0B058, 2, 4, false, [⟨31, 0, .w1s, true, .rim, 0⟩]⟩,
  ⟨0x0B06C, 1, 4, false, [⟨31, 0, .rc, false, .none, 0⟩]⟩,
  ⟨0x0B100, 64, 4, false, [⟨1, 0, .rws, true, .rim, 0⟩, ⟨2, 2, .rws, true, .rim, 0⟩, ⟨3, 3, .rws, true, .rim, 0⟩, ⟨31, 16, .rws, true, .rim, 0x100⟩]⟩,
  ⟨0x0B200, 24, 4, false, [⟨7, 0, .rws, true, .rim, 0⟩, ⟨15, 8, .rws, true, .rim, 0⟩, ⟨23, 16, .rws, true, .rim, 0⟩, ⟨31, 24, .rws, true, .rim, 0⟩]⟩,
  ⟨0x0B280, 48, 4, false, [⟨1, 0, .rws, true, .rim, 0⟩, ⟨2, 2, .rws, true, .rim, 0⟩, ⟨15, 8, .rws, true, .rim, 0⟩, ⟨29, 16, .rws, true, .rim, 0⟩]⟩,
  ⟨0x0B340, 24, 4, false, [⟨7, 0, .rws, true, .rim, 0xa⟩, ⟨8, 8, .rws, true, .rim, 0⟩, ⟨9, 9, .rws, true, .rim, 0⟩]⟩]

/-- WLINK: writable fields and non-zero resets. -/
def regsWlink : List RegRow := [
  ⟨0x0C048, 1, 4, false, [⟨2, 0, .rw, false, .now, 0⟩, ⟨7, 4, .rw, false, .now, 0⟩]⟩,
  ⟨0x0C080, 8, 32, false, [⟨0, 0, .rws, true, .rim, 0⟩, ⟨1, 1, .wo, true, .rim, 0⟩, ⟨2, 2, .wo, true, .rim, 0⟩, ⟨3, 3, .rws, true, .rim, 0⟩]⟩,
  ⟨0x0C090, 8, 32, false, [⟨13, 0, .rws, true, .rim, 0x2000⟩]⟩,
  ⟨0x0C094, 8, 32, false, [⟨15, 0, .rc, false, .none, 0⟩, ⟨31, 16, .rc, false, .none, 0⟩]⟩,
  ⟨0x0C09C, 8, 32, false, [⟨23, 0, .rws, true, .rim, 0⟩]⟩,
  ⟨0x0C200, 128, 4, false, [⟨13, 0, .rws, true, .rim, 0⟩, ⟨14, 14, .rws, true, .rim, 0⟩, ⟨26, 16, .rws, true, .rim, 0⟩]⟩,
  ⟨0x0C400, 256, 4, false, [⟨31, 0, .rws, true, .rim, 0⟩]⟩,
  ⟨0x0C800, 256, 8, false, [⟨3, 0, .rws, true, .rim, 0⟩, ⟨15, 15, .rws, true, .rim, 0⟩, ⟨31, 16, .rws, true, .rim, 0⟩]⟩,
  ⟨0x0C804, 256, 8, false, [⟨31, 0, .rws, true, .rim, 0⟩]⟩]

/-- CAPTURE: writable fields and non-zero resets, part 1. -/
def regsCapture1 : List RegRow := [
  ⟨0x0D048, 1, 4, false, [⟨15, 0, .w1s, false, .rim, 0⟩]⟩,
  ⟨0x0D04C, 1, 4, false, [⟨15, 0, .w1s, false, .rim, 0⟩]⟩,
  ⟨0x0D050, 1, 4, false, [⟨15, 0, .w1s, false, .now, 0⟩]⟩,
  ⟨0x0D054, 1, 4, false, [⟨15, 0, .ro, false, .none, 0x3334⟩]⟩,
  ⟨0x0D058, 1, 4, false, [⟨4, 0, .rws, true, .rim, 0⟩, ⟨5, 5, .rws, true, .rim, 0⟩, ⟨6, 6, .rws, true, .rim, 0⟩, ⟨7, 7, .wo, true, .rim, 0⟩, ⟨15, 8, .rws, true, .rim, 0x96⟩]⟩,
  ⟨0x0D064, 1, 4, false, [⟨31, 0, .rc, false, .none, 0⟩]⟩,
  ⟨0x0D068, 1, 4, false, [⟨3, 0, .rw, false, .now, 0⟩]⟩,
  ⟨0x0D200, 1, 8, false, [⟨13, 0, .rws, true, .rim, 0⟩, ⟨30, 16, .rws, true, .rim, 0x4000⟩]⟩,
  ⟨0x0D204, 64, 8, false, [⟨31, 0, .rws, true, .rim, 0⟩]⟩,
  ⟨0x0D208, 63, 8, false, [⟨13, 0, .rws, true, .rim, 0⟩, ⟨30, 16, .rws, true, .rim, 0⟩]⟩,
  ⟨0x0D400, 1, 32, false, [⟨0, 0, .rws, true, .rim, 1⟩, ⟨2, 1, .rws, true, .rim, 2⟩, ⟨3, 3, .rws, true, .rim, 1⟩, ⟨6, 4, .rws, true, .rim, 0⟩, ⟨7, 7, .rws, true, .rim, 0⟩, ⟨10, 8, .rws, true, .rim, 0⟩, ⟨11, 11, .rws, true, .rim, 0⟩, ⟨12, 12, .rws, true, .rim, 0⟩, ⟨31, 16, .rws, true, .rim, 1⟩]⟩,
  ⟨0x0D404, 1, 32, false, [⟨23, 0, .rws, true, .rim, 0⟩]⟩,
  ⟨0x0D408, 1, 32, false, [⟨23, 0, .rws, true, .rim, 1⟩]⟩,
  ⟨0x0D40C, 1, 32, false, [⟨23, 0, .rws, true, .rim, 0⟩]⟩,
  ⟨0x0D410, 1, 32, false, [⟨31, 0, .rws, true, .rim, 0⟩]⟩,
  ⟨0x0D414, 1, 32, false, [⟨15, 0, .rws, true, .rim, 0⟩, ⟨16, 16, .rws, true, .rim, 0⟩, ⟨24, 17, .rws, true, .rim, 0⟩, ⟨25, 25, .rws, true, .rim, 0⟩]⟩,
  ⟨0x0D418, 1, 32, false, [⟨12, 0, .rws, true, .rim, 0⟩, ⟨29, 16, .rws, true, .rim, 0x400⟩]⟩,
  ⟨0x0D420, 15, 32, false, [⟨0, 0, .rws, true, .rim, 0⟩, ⟨2, 1, .rws, true, .rim, 0⟩, ⟨3, 3, .rws, true, .rim, 0⟩, ⟨6, 4, .rws, true, .rim, 0⟩, ⟨7, 7, .rws, true, .rim, 0⟩, ⟨10, 8, .rws, true, .rim, 0⟩, ⟨11, 11, .rws, true, .rim, 0⟩, ⟨12, 12, .rws, true, .rim, 0⟩, ⟨31, 16, .rws, true, .rim, 1⟩]⟩,
  ⟨0x0D424, 15, 32, false, [⟨23, 0, .rws, true, .rim, 0⟩]⟩,
  ⟨0x0D428, 15, 32, false, [⟨23, 0, .rws, true, .rim, 1⟩]⟩,
  ⟨0x0D42C, 15, 32, false, [⟨23, 0, .rws, true, .rim, 0⟩]⟩,
  ⟨0x0D430, 15, 32, false, [⟨31, 0, .rws, true, .rim, 0⟩]⟩,
  ⟨0x0D434, 15, 32, false, [⟨15, 0, .rws, true, .rim, 0⟩, ⟨16, 16, .rws, true, .rim, 0⟩, ⟨24, 17, .rws, true, .rim, 0⟩, ⟨25, 25, .rws, true, .rim, 0⟩]⟩,
  ⟨0x0D438, 15, 32, false, [⟨12, 0, .rws, true, .rim, 0⟩, ⟨29, 16, .rws, true, .rim, 0⟩]⟩]

/-- CAPTURE: writable fields and non-zero resets, part 2. -/
def regsCapture2 : List RegRow := [
  ⟨0x0D600, 32, 16, false, [⟨13, 0, .rws, true, .rim, 0⟩, ⟨18, 16, .rws, true, .rim, 0⟩, ⟨19, 19, .rws, true, .rim, 0⟩]⟩,
  ⟨0x0D604, 32, 16, false, [⟨31, 0, .rws, true, .rim, 0⟩]⟩,
  ⟨0x0D608, 32, 16, false, [⟨31, 0, .rws, true, .rim, 0⟩]⟩,
  ⟨0x0D800, 256, 8, false, [⟨13, 0, .rws, true, .rim, 0⟩, ⟨19, 16, .rws, true, .rim, 0⟩]⟩,
  ⟨0x0D804, 256, 8, false, [⟨31, 0, .rws, true, .rim, 0⟩]⟩]

/-- CAPTURE: writable fields and non-zero resets. -/
def regsCapture : List RegRow := regsCapture1 ++ regsCapture2

/-- TIME: writable fields and non-zero resets. -/
def regsTime : List RegRow := [
  ⟨0x0E068, 1, 4, false, [⟨31, 0, .rc, false, .none, 0⟩]⟩,
  ⟨0x0E06C, 1, 4, false, [⟨15, 0, .rws, true, .rim, 0x3e8⟩, ⟨19, 16, .rws, true, .rim, 3⟩, ⟨23, 20, .rws, true, .rim, 6⟩, ⟨27, 24, .rws, true, .rim, 4⟩]⟩,
  ⟨0x0E070, 1, 4, false, [⟨15, 0, .rws, true, .rim, 0xc8⟩, ⟨19, 16, .rws, true, .rim, 4⟩, ⟨27, 20, .rws, true, .rim, 0x32⟩]⟩,
  ⟨0x0E074, 1, 4, false, [⟨6, 0, .rws, true, .rim, 0⟩, ⟨7, 7, .rws, true, .rim, 0⟩, ⟨9, 8, .rws, true, .rim, 0⟩, ⟨10, 10, .rws, true, .rim, 1⟩, ⟨11, 11, .rws, true, .rim, 1⟩, ⟨12, 12, .rws, true, .rim, 1⟩, ⟨23, 16, .rws, true, .rim, 0x80⟩, ⟨31, 24, .rws, true, .rim, 0x80⟩]⟩,
  ⟨0x0E078, 1, 4, false, [⟨7, 0, .rws, true, .rim, 0xf8⟩, ⟨11, 8, .rws, true, .rim, 0xd⟩, ⟨15, 12, .rws, true, .rim, 0⟩, ⟨19, 16, .rws, true, .rim, 0⟩, ⟨23, 20, .rws, true, .rim, 3⟩]⟩,
  ⟨0x0E07C, 1, 4, false, [⟨0, 0, .wo, true, .rim, 0⟩, ⟨1, 1, .wo, true, .rim, 0⟩, ⟨2, 2, .wo, true, .rim, 0⟩]⟩,
  ⟨0x0E080, 1, 4, false, [⟨31, 0, .rws, true, .rim, 0⟩]⟩,
  ⟨0x0E084, 1, 4, false, [⟨15, 0, .rws, true, .rim, 0⟩]⟩,
  ⟨0x0E088, 1, 4, false, [⟨29, 0, .rws, true, .rim, 0⟩]⟩,
  ⟨0x0E0D0, 2, 32, false, [⟨15, 0, .rws, true, .rim, 0⟩, ⟨31, 16, .rws, true, .rim, 0⟩]⟩,
  ⟨0x0E0D4, 2, 32, false, [⟨31, 0, .rws, true, .rim, 0⟩]⟩]

/-- NET: writable fields and non-zero resets. -/
def regsNet : List RegRow := [
  ⟨0x0F044, 1, 4, false, [⟨31, 0, .rws, true, .rim, 0⟩]⟩,
  ⟨0x0F048, 1, 4, false, [⟨15, 0, .rws, true, .rim, 0⟩]⟩,
  ⟨0x0F04C, 1, 4, false, [⟨1, 0, .rws, true, .rim, 0⟩, ⟨2, 2, .rws, true, .rim, 1⟩, ⟨31, 16, .rws, true, .rim, 0x190⟩]⟩,
  ⟨0x0F050, 1, 4, false, [⟨15, 0, .rws, true, .rim, 0x7d0⟩, ⟨31, 16, .rws, true, .rim, 0x1f4⟩]⟩,
  ⟨0x0F058, 1, 4, false, [⟨31, 0, .rc, false, .none, 0⟩]⟩,
  ⟨0x0F05C, 1, 4, false, [⟨31, 0, .rc, false, .none, 0⟩]⟩,
  ⟨0x0F060, 1, 4, false, [⟨31, 0, .rc, false, .none, 0⟩]⟩,
  ⟨0x0F064, 1, 4, false, [⟨31, 0, .rc, false, .none, 0⟩]⟩,
  ⟨0x0F080, 1, 4, false, [⟨10, 0, .wo, false, .now, 0⟩, ⟨11, 11, .wo, false, .now, 0⟩, ⟨12, 12, .wo, false, .now, 0⟩, ⟨13, 13, .wo, false, .now, 0⟩]⟩,
  ⟨0x0F094, 1, 4, false, [⟨0, 0, .wo, false, .now, 0⟩]⟩,
  ⟨0x0F100, 8, 32, false, [⟨0, 0, .rws, true, .rim, 0⟩, ⟨2, 1, .rws, true, .rim, 0⟩, ⟨3, 3, .rws, true, .rim, 0⟩, ⟨6, 4, .rws, true, .rim, 0⟩, ⟨10, 8, .rws, true, .rim, 0⟩, ⟨17, 11, .rws, true, .rim, 0⟩]⟩,
  ⟨0x0F104, 8, 32, false, [⟨15, 0, .rws, true, .rim, 0⟩, ⟨27, 16, .rws, true, .rim, 0⟩]⟩,
  ⟨0x0F108, 8, 32, false, [⟨31, 0, .rws, true, .rim, 0⟩]⟩,
  ⟨0x0F10C, 8, 32, false, [⟨15, 0, .rws, true, .rim, 0⟩]⟩,
  ⟨0x0F110, 8, 32, false, [⟨13, 0, .rws, true, .rim, 0⟩, ⟨24, 16, .rws, true, .rim, 0⟩]⟩,
  ⟨0x0F114, 8, 32, false, [⟨13, 0, .rws, true, .rim, 0⟩, ⟨24, 16, .rws, true, .rim, 0⟩]⟩,
  ⟨0x0F200, 16, 32, false, [⟨0, 0, .rws, true, .rim, 0⟩, ⟨1, 1, .rws, true, .rim, 0⟩, ⟨2, 2, .rws, true, .rim, 0⟩, ⟨10, 8, .rws, true, .rim, 0⟩, ⟨17, 11, .rws, true, .rim, 0⟩]⟩,
  ⟨0x0F204, 16, 32, false, [⟨15, 0, .rws, true, .rim, 0⟩]⟩,
  ⟨0x0F208, 16, 32, false, [⟨31, 0, .rws, true, .rim, 0⟩]⟩,
  ⟨0x0F20C, 16, 32, false, [⟨15, 0, .rws, true, .rim, 0⟩]⟩,
  ⟨0x0F210, 16, 32, false, [⟨13, 0, .rws, true, .rim, 0x2000⟩, ⟨24, 16, .rws, true, .rim, 0⟩]⟩,
  ⟨0x0F218, 16, 32, false, [⟨31, 0, .rc, false, .none, 0⟩]⟩,
  ⟨0x0F400, 384, 4, true, [⟨7, 0, .rw, false, .now, 0⟩, ⟨15, 8, .rw, false, .now, 0⟩, ⟨23, 16, .rw, false, .now, 0⟩, ⟨31, 24, .rw, false, .now, 0⟩]⟩]

/-- TWIN: writable fields and non-zero resets. -/
def regsTwin : List RegRow := [
  ⟨0x10040, 1, 4, false, [⟨9, 7, .ro, false, .none, 6⟩]⟩,
  ⟨0x10044, 1, 4, false, [⟨0, 0, .rws, true, .rim, 0⟩, ⟨1, 1, .rws, true, .rim, 1⟩, ⟨2, 2, .rws, true, .rim, 1⟩, ⟨15, 8, .rws, true, .rim, 0x32⟩, ⟨31, 16, .rws, true, .rim, 0⟩]⟩,
  ⟨0x10048, 1, 4, false, [⟨11, 0, .rws, true, .rim, 0x3c⟩]⟩,
  ⟨0x1004C, 1, 4, false, [⟨31, 0, .rws, true, .rim, 0x10000⟩]⟩,
  ⟨0x10050, 1, 4, false, [⟨31, 0, .rws, true, .rim, 0⟩]⟩,
  ⟨0x10054, 1, 4, false, [⟨15, 0, .rws, true, .rim, 0⟩]⟩,
  ⟨0x10058, 1, 4, false, [⟨0, 0, .wo, true, .rim, 0⟩, ⟨1, 1, .wo, true, .rim, 0⟩, ⟨2, 2, .wo, true, .rim, 0⟩, ⟨3, 3, .wo, true, .rim, 0⟩]⟩,
  ⟨0x1007C, 1, 4, false, [⟨31, 0, .rc, false, .none, 0⟩]⟩,
  ⟨0x100A0, 1, 4, false, [⟨0, 0, .rws, true, .rim, 0⟩, ⟨1, 1, .wo, true, .rim, 0⟩, ⟨2, 2, .wo, true, .rim, 0⟩, ⟨27, 16, .rws, true, .rim, 0x3c⟩]⟩]

/-- HEALTH: writable fields and non-zero resets. -/
def regsHealth : List RegRow := [
  ⟨0x11050, 1, 4, false, [⟨0, 0, .wo, false, .now, 0⟩]⟩,
  ⟨0x11070, 1, 4, false, [⟨11, 0, .rw, false, .now, 0⟩]⟩,
  ⟨0x11088, 1, 4, false, [⟨7, 0, .rws, true, .rim, 8⟩, ⟨23, 8, .rws, true, .rim, 0x3e8⟩, ⟨24, 24, .rws, true, .rim, 0⟩]⟩,
  ⟨0x11100, 16, 4, false, [⟨7, 0, .rws, true, .rim, 8⟩, ⟨23, 8, .rws, true, .rim, 0x3e8⟩]⟩,
  ⟨0x11200, 64, 16, false, [⟨13, 0, .rws, true, .rim, 0⟩, ⟨15, 15, .rws, true, .rim, 0⟩, ⟨19, 16, .rws, true, .rim, 0⟩]⟩,
  ⟨0x11204, 64, 16, false, [⟨31, 0, .rws, true, .rim, 0⟩]⟩,
  ⟨0x11208, 64, 16, false, [⟨31, 0, .rws, true, .rim, 0⟩]⟩,
  ⟨0x11600, 1, 4, false, [⟨5, 0, .rw, false, .now, 0⟩]⟩,
  ⟨0x11800, 256, 4, false, [⟨13, 0, .rws, true, .rim, 0⟩, ⟨15, 15, .rws, true, .rim, 0⟩]⟩,
  ⟨0x11C00, 1, 4, false, [⟨7, 0, .rw, false, .now, 0⟩]⟩,
  ⟨0x11D00, 1, 4, false, [⟨17, 0, .rw, false, .now, 0⟩]⟩]

/-- IST: writable fields and non-zero resets. -/
def regsIst : List RegRow := [
  ⟨0x12040, 1, 4, false, [⟨6, 0, .rws, true, .rim, 0x7f⟩]⟩,
  ⟨0x12070, 1, 4, false, [⟨15, 0, .rws, true, .rim, 0x10⟩]⟩,
  ⟨0x12078, 1, 4, false, [⟨31, 31, .ro, false, .none, 1⟩]⟩]

/-- SEC: writable fields and non-zero resets. -/
def regsSec : List RegRow := [
  ⟨0x13050, 1, 4, false, [⟨1, 0, .rw, false, .now, 0⟩]⟩,
  ⟨0x13058, 1, 4, false, [⟨0, 0, .wo, false, .now, 0⟩, ⟨1, 1, .wo, false, .now, 0⟩]⟩,
  ⟨0x1305C, 2, 4, false, [⟨31, 0, .rw, false, .now, 0⟩]⟩,
  ⟨0x13064, 1, 4, false, [⟨24, 0, .rw, false, .now, 0⟩]⟩,
  ⟨0x13068, 1, 4, false, [⟨1, 0, .wo, false, .now, 0⟩]⟩,
  ⟨0x13080, 1, 4, false, [⟨0, 0, .wo, false, .now, 0⟩]⟩,
  ⟨0x13084, 1, 4, false, [⟨2, 0, .rw, false, .now, 0⟩, ⟨4, 3, .rw, false, .now, 0⟩]⟩,
  ⟨0x13120, 8, 4, true, [⟨7, 0, .rw, false, .now, 0⟩, ⟨15, 8, .rw, false, .now, 0⟩, ⟨23, 16, .rw, false, .now, 0⟩, ⟨31, 24, .rw, false, .now, 0⟩]⟩]

/-- HOST: writable fields and non-zero resets. -/
def regsHost : List RegRow := [
  ⟨0x14044, 1, 4, false, [⟨6, 4, .ro, false, .none, 2⟩]⟩,
  ⟨0x14048, 1, 4, false, [⟨31, 0, .rc, false, .none, 0⟩]⟩,
  ⟨0x1404C, 1, 4, false, [⟨31, 0, .rc, false, .none, 0⟩]⟩,
  ⟨0x14050, 1, 4, false, [⟨15, 0, .rws, true, .rim, 0⟩, ⟨16, 16, .rws, true, .rim, 0⟩]⟩,
  ⟨0x14054, 1, 4, false, [⟨0, 0, .wo, false, .now, 0⟩]⟩,
  ⟨0x14058, 1, 4, false, [⟨15, 0, .rw, false, .now, 0⟩]⟩,
  ⟨0x14100, 8, 64, false, [⟨0, 0, .rw, false, .now, 0⟩, ⟨1, 1, .rw, false, .now, 0⟩, ⟨2, 2, .rw, false, .now, 0⟩, ⟨13, 8, .rw, false, .now, 0⟩, ⟨21, 16, .rw, false, .now, 0xc⟩]⟩,
  ⟨0x14108, 8, 64, false, [⟨31, 0, .rw, false, .now, 0⟩]⟩,
  ⟨0x1410C, 8, 64, false, [⟨31, 0, .rw, false, .now, 0⟩]⟩,
  ⟨0x14118, 8, 64, false, [⟨31, 0, .rw, false, .now, 0⟩]⟩,
  ⟨0x1411C, 8, 64, false, [⟨31, 0, .rw, false, .now, 0⟩]⟩,
  ⟨0x14120, 8, 64, false, [⟨31, 0, .rw, false, .now, 0⟩]⟩,
  ⟨0x14124, 8, 64, false, [⟨31, 0, .rw, false, .now, 0⟩]⟩,
  ⟨0x14128, 8, 64, false, [⟨31, 0, .rw, false, .now, 0x100000⟩]⟩,
  ⟨0x14400, 64, 16, false, [⟨31, 0, .rw, false, .now, 0⟩]⟩,
  ⟨0x14404, 64, 16, false, [⟨31, 0, .rw, false, .now, 0⟩]⟩,
  ⟨0x14408, 64, 16, false, [⟨31, 0, .rw, false, .now, 0⟩]⟩,
  ⟨0x1440C, 64, 16, false, [⟨0, 0, .rw, false, .now, 1⟩]⟩]

/-- CLKPWR: writable fields and non-zero resets. -/
def regsClkpwr : List RegRow := [
  ⟨0x15044, 1, 4, false, [⟨0, 0, .rws, true, .rim, 0⟩]⟩,
  ⟨0x15048, 1, 4, false, [⟨31, 16, .rc, false, .none, 0⟩]⟩]

/-- The rows of a page. -/
def pageRows : Page → List RegRow
  | .sys => regsSys
  | .tick => regsTick
  | .weave => regsWeave
  | .engine => regsEngine
  | .loopctl => regsLoopctl
  | .guard => regsGuard
  | .echo => regsEcho
  | .task => regsTask
  | .motion => regsMotion
  | .stepdrv => regsStepdrv
  | .lport => regsLport
  | .input => regsInput
  | .wlink => regsWlink
  | .capture => regsCapture
  | .time => regsTime
  | .net => regsNet
  | .twin => regsTwin
  | .health => regsHealth
  | .ist => regsIst
  | .sec => regsSec
  | .host => regsHost
  | .clkpwr => regsClkpwr

/-- The number of EVT_STAT bits, the number of FAULT_STAT bits and the reset value of EVT_EN of a page: every event is
enabled at reset but SAT_STORE, OUT_LIMITED, ENTRY_HOLD, MOVE_DONE, POS_LATCH and BAND_CHANGE (R84, R97, R199, R224, R254). -/
def pageEvents : Page → Nat × Nat × Nat
  | .sys => (7, 1, 0x7F)
  | .tick => (2, 0, 0x3)
  | .weave => (8, 2, 0xFF)
  | .engine => (7, 4, 0x5F)
  | .loopctl => (7, 1, 0x77)
  | .guard => (6, 1, 0x3F)
  | .echo => (11, 2, 0x7FF)
  | .task => (14, 2, 0x2FFF)
  | .motion => (13, 3, 0x1FEE)
  | .stepdrv => (11, 4, 0x7FE)
  | .lport => (16, 6, 0xFFFF)
  | .input => (7, 2, 0x7F)
  | .wlink => (9, 3, 0x1FF)
  | .capture => (10, 2, 0x3FF)
  | .time => (10, 2, 0x3FF)
  | .net => (10, 2, 0x3FF)
  | .twin => (18, 8, 0x3FFFF)
  | .health => (5, 2, 0x1F)
  | .ist => (6, 2, 0x3F)
  | .sec => (12, 2, 0xFFF)
  | .host => (5, 1, 0x1F)
  | .clkpwr => (4, 2, 0xF)

/-- The EVT_EN bits of events that have a FAULT_STAT bit: while LOCK is set they read 1 (R463). -/
def pageFaultEvents : Page → Nat
  | .sys => 0x2
  | .tick => 0x0
  | .weave => 0xC0
  | .engine => 0x1B
  | .loopctl => 0x10
  | .guard => 0x1
  | .echo => 0x300
  | .task => 0x2004
  | .motion => 0x1104
  | .stepdrv => 0xF0
  | .lport => 0x2DA
  | .input => 0x5
  | .wlink => 0xE
  | .capture => 0xC0
  | .time => 0x104
  | .net => 0x41
  | .twin => 0x12276
  | .health => 0xA
  | .ist => 0xA
  | .sec => 0xC
  | .host => 0x1
  | .clkpwr => 0x6

end Sys2Proof.Machine
end

