-- ==== Sys2Proof/Machine/ResetMap.lean ====
section
/-!
DEFINITION. Machine/ResetMap.lean: what every register and window word holds after a power-on reset (the Reset columns of the
owning chapters, R101, R103, R163, R235), which is also what an unlisted byte of the state's register memory reads as.
-/
namespace Sys2Proof.Machine

open Sys2Proof

/-- round(1023 × sin(2πe / 1024)) for e from 0 (R235). -/
def sineQuarter0 : List Nat := [
  0, 6, 13, 19, 25, 31, 38, 44, 50, 56, 63, 69, 75, 82, 88, 94, 100, 107, 113, 119, 125, 131, 138, 144, 150, 156, 163, 169, 175, 181, 187, 193,
  200, 206, 212, 218, 224, 230, 236, 242, 249, 255, 261, 267, 273, 279, 285, 291, 297, 303, 309, 315, 321, 327, 333, 339, 345, 351, 356, 362, 368, 374, 380, 386]

/-- round(1023 × sin(2πe / 1024)) for e from 64 (R235). -/
def sineQuarter1 : List Nat := [
  391, 397, 403, 409, 415, 420, 426, 432, 437, 443, 449, 454, 460, 466, 471, 477, 482, 488, 493, 499, 504, 510, 515, 521, 526, 531, 537, 542, 547, 553, 558, 563,
  568, 574, 579, 584, 589, 594, 599, 604, 609, 614, 619, 624, 629, 634, 639, 644, 649, 654, 659, 663, 668, 673, 678, 682, 687, 692, 696, 701, 705, 710, 714, 719]

/-- round(1023 × sin(2πe / 1024)) for e from 128 (R235). -/
def sineQuarter2 : List Nat := [
  723, 728, 732, 737, 741, 745, 750, 754, 758, 762, 766, 771, 775, 779, 783, 787, 791, 795, 799, 803, 806, 810, 814, 818, 822, 825, 829, 833, 836, 840, 844, 847,
  851, 854, 858, 861, 864, 868, 871, 874, 877, 881, 884, 887, 890, 893, 896, 899, 902, 905, 908, 911, 914, 917, 919, 922, 925, 927, 930, 933, 935, 938, 940, 943]

/-- round(1023 × sin(2πe / 1024)) for e from 192 (R235). -/
def sineQuarter3 : List Nat := [
  945, 948, 950, 952, 954, 957, 959, 961, 963, 965, 967, 969, 971, 973, 975, 977, 979, 981, 983, 984, 986, 988, 989, 991, 992, 994, 995, 997, 998, 999, 1001, 1002,
  1003, 1005, 1006, 1007, 1008, 1009, 1010, 1011, 1012, 1013, 1014, 1015, 1015, 1016, 1017, 1017, 1018, 1019, 1019, 1020, 1020, 1021, 1021, 1021, 1022, 1022, 1022, 1023, 1023, 1023, 1023, 1023]

/-- round(1023 × sin(2πe / 1024)) for e from 256 (R235). -/
def sineQuarter4 : List Nat := [
  1023]

/-- The first quarter of the sine of R235, entries 0 to 256. -/
def sineQuarter : List Nat := sineQuarter0 ++ sineQuarter1 ++ sineQuarter2 ++ sineQuarter3 ++ sineQuarter4

/-- round(1023 × |sin(2πe / 1024)|) for any entry e. -/
def sineMag (e : Nat) : Nat :=
  let r := e % 512
  (sineQuarter[if r ≤ 256 then r else 512 - r]?).getD 0

/-- Entry e of microstep table 0 after reset (R235). -/
def sineEntry (e : Nat) : Word :=
  let aNeg := decide (512 < e % 1024)
  let bNeg := decide (256 < e % 1024) && decide (e % 1024 < 768)
  Word.ofNat (sineMag e + aNeg.toNat * 0x400 + sineMag (e + 256) * 0x10000 + bNeg.toNat * 0x4000000)

/-- Whether a row covers the offset `a`. -/
def rowCovers (r : RegRow) (a : Nat) : Bool :=
  decide (r.off ≤ a) && decide ((a - r.off) % r.stride = 0) && decide ((a - r.off) / r.stride < r.count)

/-- The row of the register at offset `a`, if a host write can reach it or its reset is not zero. -/
def findRow (a : Nat) : Option RegRow :=
  match pageOfAddr a with
  | none => none
  | some p => (pageRows p).find? (fun r => rowCovers r a)

/-- The fields of the register at offset `a`, with those of the page header (R462). -/
def regFields (a : Nat) : List FieldDef :=
  match a % 0x1000 with
  | 0x008 => [⟨0, 0, .rw, false, .now, 0⟩, ⟨13, 8, .rw, false, .now, 0⟩]
  | 0x010 => [⟨31, 0, .w1c, false, .none, 0⟩]
  | 0x014 => [⟨31, 0, .rw, false, .now, 0⟩]
  | 0x018 => [⟨31, 0, .wo, true, .now, 0⟩]
  | 0x01C => [⟨31, 0, .w1c, false, .none, 0⟩]
  | 0x020 => [⟨0, 0, .wo, false, .now, 0⟩, ⟨1, 1, .wo, false, .now, 0⟩]
  | 0x028 => [⟨0, 0, .w1s, true, .now, 0⟩]
  | _ => (findRow a).elim [] (·.fields)

/-- Whether a page governs a window, has staged fields, P fields, or is absent from BAR0: the low bits of PAGE_CAP. -/
def pageCapBits (p : Page) : Nat :=
  let window := (allWindows.any (fun w => decide (w ≠ .board) && decide (windowPage w = p))).toNat
  let staged := ((pageRows p).any (fun r => r.fields.any (fun f => decide (f.acc = .rws)))).toNat
  let pf := ((pageRows p).any (fun r => r.fields.any (fun f => f.p))).toNat
  (if window = 1 then 1 else staged) + 2 * window + 4 * pf + 8 * (decide (p = .sec)).toNat

/-- The reset value of a header register (R462). -/
def headerReset (p : Page) (o : Nat) : Word :=
  match o with
  | 0x000 => Word.ofNat (0x01 + pageType p * 0x10000)
  | 0x004 => Word.ofNat (pageCapBits p + (pageEvents p).1 * 0x100 + (pageEvents p).2.1 * 0x10000)
  | 0x014 => Word.ofNat (pageEvents p).2.2
  | _ => 0

/-- The word at a DWORD-aligned offset after a power-on reset: the register tables' Reset columns, the sine of
microstep table 0 (R235), and zero elsewhere (R7, R101, R103, R109, R135, R154, R194). A loop record's COST too reads zero until a COMMIT
touches the record, as R109 has it read (DESIGN CHOICE: R101 and R102 give the cost of a record in effect; log entry 63). -/
def resetWord (a : Nat) : Word :=
  match pageOfAddr a with
  | some p =>
    if a % 0x1000 < 0x40 then headerReset p (a % 0x1000)
    else ((findRow a).elim [] (·.fields)).foldl (fun w f => setFld w f.hi f.lo f.reset) 0
  | none =>
    if 0x00A02000 ≤ a ∧ a < 0x00A03000 then sineEntry ((a - 0x00A02000) / 4)
    else if 0x02000000 ≤ a ∧ a < 0x02004000 then 0x0003E808   -- each code's CODE_CFG word (R362)
    else 0

/-- What an unlisted byte of the register memory reads as. -/
def resetByte (a : Nat) : Byte := BitVec.ofNat 8 ((resetWord (a - a % 4)).toNat >>> (8 * (a % 4)))

end Sys2Proof.Machine
end

