-- ==== Sys2Proof/Machine/State.lean ====
section
/-!
DEFINITION. Machine/State.lean: the state of the ZA7240 as plain data, the reasons a step can stop, and the
state after power-on reset.
-/
namespace Sys2Proof.Machine

open Sys2Proof

/-! ### The event ring (R26–R30) -/

/-- One entry of the event ring, with the fields of R26. -/
structure RingEntry where
  seq   : Nat
  tick  : Nat
  phase : Nat
  code  : Nat
  plane : Nat
  fault : Bool
  inst  : Nat
  p0    : Word
  p1    : Word
  p2    : Word
  p3    : Word
  deriving DecidableEq, Repr

/-- The event ring, the 8-entry queues ahead of it (R27), its two consumers (R28) and the round-robin pointers of
its arbiter (R29). -/
structure RingSt where
  entries  : List RingEntry     -- the last 4096 at most, oldest first
  nextSeq  : Nat                -- SEQ of the next entry
  queues   : Tab (List RingEntry)   -- by requester of R30
  lost     : Tab Nat            -- lost-event counters, by requester
  dataSeq  : Nat                -- next entry of the data consumer
  mgmtSeq  : Nat                -- next entry of the management consumer
  ptr      : Tab Nat            -- round-robin pointers: class 0 control, 1 management, 2 data
  deriving DecidableEq, Repr

/-! ### The signal board (R13–R17) -/

/-- A word of the working buffer whose written bit is set: its value, its validity flag, the lane-cycle of the tick (1 ns) at which it was
released, and whether its producer stored it (a guard's force alone is no store, R119, R131). -/
structure WorkWord where
  val    : Word
  valid  : Bool
  time   : Nat
  stored : Bool := true
  deriving DecidableEq, Repr

/-- A word of the settled buffer with its validity flag. -/
structure BoardWord where
  val   : Word
  valid : Bool
  deriving DecidableEq, Repr

/-! ### Staging and the commit queue (R19–R25, R462, R510) -/

/-- One value that a page holds pending, or one command that a COMMIT carries: the DWORD at `addr`, the bits
written, whether it is a WO command with effect RIM, and whether it was written with the P-view's right. -/
structure PendItem where
  addr : Nat
  val  : Word
  mask : Word
  cmd  : Bool
  priv : Bool := true
  deriving DecidableEq, Repr

/-- Who wrote a COMMIT: host software through a BAR, or a package load (R448, R507). -/
inductive CommitSrc where
  | host | security
  deriving DecidableEq, Repr

/-- An accepted COMMIT: its page, its values in the order written, the entries it takes (R19) and whether it has
been deferred (R22). -/
structure MgmtCommit where
  page     : Page
  items    : List PendItem
  entries  : Nat
  deferred : Bool
  src      : CommitSrc
  prio     : Nat := 0
  deriving DecidableEq, Repr

/-- What a control-plane entry does at the rim (R167): the field it writes, or the unit it commands. -/
inductive CtlOp where
  | mode (loop : Nat) (code : Nat)
  | setpoint (loop : Nat) (value rate : Word)
  | valve (high : Bool) (pattern mask : Word)
  | move (mp : Nat) (rel : Bool) (target : Int) (waiter : Option Nat)
  | flag (n : Nat) (set : Bool)
  | fork (task : Nat) (entry : Option (Nat × Nat)) (byTask : Nat)
  | capture (set : Nat) (op : Nat) (phase : Nat)
  deriving DecidableEq, Repr

/-- A control-plane entry: its step engine, what it does, and the phase of its step's boundary. -/
structure CtlEntry where
  engine : Nat
  op     : CtlOp
  cyc    : Nat             -- the CK_SEQ cycle of the tick in which it is asked for: the boundary of its step (R187)
  deriving DecidableEq, Repr

/-! ### The weave (R37–R55) -/

/-- A dispatched strand: its index, its active lane (16: none is left to take it), its start and completion in lane-cycles of the tick, and,
for one that a lane stop re-dispatched, the lane-cycle of that stop and the active number that stopped under it (R73). -/
structure Flight where
  index : Nat
  lane  : Nat
  start : Nat
  done  : Nat
  again : Option (Nat × Nat) := none
  deriving DecidableEq, Repr

/-- A weave check in progress: the bank and the tables as they stood when the check started (R43). -/
structure CheckRun where
  bank : Nat
  mem  : Tab Byte
  deriving DecidableEq, Repr

/-! ### What leaves the part -/

/-- A frame, message or pulse that the latest command sent out of the part. -/
inductive Emission where
  | tickFrame (port : Nat) (header payload : List Word) (crc : Word)   -- Table 2 of R302, before its end
  | linkStart (port : Nat)
  | config (port head : Nat) (pairs : List (Nat × Word))         -- a CONFIG frame of link start (Table 5 of R305)
  | lineTrigger (line : Nat) (tick phase : Nat) (bits : List Bool)   -- a burst on a TB line (R339), with its drive time
  | ping (round : Nat)
  | ptp (port : Nat) (kind : PtpKind) (sec ns corr : Nat)   -- originTimestamp, and correctionField in 2^−16 ns (R371)
  | supervision (port phase : Nat) (seq : Nat)   -- the phase of its departure, and the RCT number
  | hostFrame (port phase : Nat) (seq : Option Nat) (bytes : List Byte)   -- likewise, with the RCT number where it is sent with PRP
  | signalFrame (group ver flags stream seq epoch period : Nat) (prp : Option Nat) (words : List (Word × Bool))
  | glint                                                        -- a glint pulse (R397)
  | witness (port phase : Nat) (dst : Nat) (f : WitnessMsg) (prp : Option Nat)
  | handoff (tick phase : Nat)
  | mirror (part : MirrorPart)
  | dma (channel : Nat) (host : Nat) (bytes : List Byte)         -- items written to a host ring (R465)
  | writeBack (channel : Nat) (host count : Nat)                 -- the WR_COUNT write-back of R465
  | msix (vector : Nat)                                          -- an MSI-X message (R464)
  | package (bytes : List Byte)                                  -- a supplement forwarded to the partner (R455)
  | readData (word : Word)                                       -- the DWORD that a host read returns
  deriving DecidableEq, Repr

/-! ### Acquisition (R320–R345) -/

/-- The states of a capture set (Table 6 of R344); OFF is a set whose EN is 0. -/
inductive CapMode where
  | idle | armed | post | rearm | stream | stopped
  deriving DecidableEq, Repr

/-- An open record (R330, R332). -/
structure CapRec where
  tick  : Nat                  -- T
  start : Nat                  -- ring offset of the first frame
  pre   : Nat                  -- PRE_ACT
  first : Nat                  -- first tick
  mask  : Nat                  -- causes
  phase : Nat
  missed : Nat
  coll  : Bool
  left  : Nat                  -- post-trigger frames still to come
  held  : Nat                  -- post-trigger frames held
  deriving DecidableEq, Repr

/-- A capture set. Offsets are within its ring; byte totals count since power-on. -/
structure CapSt where
  mode    : CapMode := .idle
  wptr    : Nat := 0
  last    : Option Nat := none
  recs    : Nat := 0
  missedN : Nat := 0           -- SEL_MISSED
  missedC : Nat := 0           -- triggers missed since the last captured one
  missEv  : Bool := false      -- CAP_MISSED raised in this REARM
  ovfTick : Nat := 0
  first   : Nat := 0           -- first armed tick, by its count
  starts  : List (Nat × Nat × Nat) := []   -- ticks, offsets and beats of frames, or of key ticks, latest first
  opn     : Option CapRec := none
  firstAt : Nat := 0           -- the same tick by `beat`
  rearmTo : Nat := 0           -- last tick of REARM, by `beat`
  early   : Option (Nat × Nat × Bool) := none   -- a trigger before the first armed frame: mask, phase, collided
  gap     : Option (Bool × Nat) := none   -- a GAP item is due with this FLAG at this beat
  disarm  : Option Nat := none -- disarmed at the rim of the tick with this beat
  again   : Bool := false      -- an ARM follows that DISARM at the same rim (R335)
  drain   : Bool := false      -- a disarmed streaming set whose items have not all reached the host
  ovf     : Option Nat := none -- the frame at which the set overflowed
  wrote   : Bool := false      -- the latest sweep wrote, or owed, a frame
  base    : Nat := 0           -- the tick of the previous item
  total   : Nat := 0           -- bytes written
  sent    : Nat := 0           -- bytes sent by DMA
  ended   : Bool := false      -- an END item was written (R465)
  sums    : Tab Int := []      -- AVERAGE sums and valid counts by position
  cnts    : Tab Nat := []
  deriving DecidableEq, Repr

/-- A trigger cause (R326): the beat of its tick, its bit of Table 3, its phase, the mark, guard or set it names, and whether a burst
collided. -/
structure Cause where
  beat  : Nat
  bit   : Nat
  phase : Nat
  sel   : Nat
  coll  : Bool
  deriving DecidableEq, Repr

/-- A watch bin (R337): its complex state with 54 fraction bits and its valid runs so far. -/
structure WatchSt where
  re : Int := 0
  im : Int := 0
  n  : Nat := 0
  deriving DecidableEq, Repr

/-- The ping of R340: the PTP time in ns at which it begins, rounds run, and by unit the rounds answered and the sum of the delays in 0.5 ns. -/
structure PingSt where
  due    : Bool := false
  start  : Nat := 0
  rounds : Nat := 0
  counts : Tab Nat := []
  sums   : Tab Nat := []
  deriving DecidableEq, Repr

/-! ### Time (R370–R381) -/

/-- The servo states of Table 1 of R373. -/
inductive TState where
  | free | locking | locked | holdover
  deriving DecidableEq, Repr

/-- A time step that awaits a rim at which realignment is permitted: the first-lock step of R375 with its mean, a re-step, or a SET with the
PTP time in nanoseconds (R380). -/
inductive StepReq where
  | first (mean : Int)
  | restep
  | set (ns : Nat)
  deriving DecidableEq, Repr

/-- A PTP port (R370, R372, R379). Path delays carry 16 fractional bits. -/
structure PtpPort where
  offs    : List Int := []     -- the last 16 offsets, oldest first
  below   : Nat := 0           -- consecutive measurements with a spread below three quarters of the port in use
  usable  : Bool := false      -- a usable Sync within the timeout
  mpd     : Option Int := none
  pathEp  : Bool := false      -- a PATH_CHANGE episode is open
  pathNew : List Int := []     -- consecutive measurements away from the filtered value, with 16 fractional bits
  best    : Option Announce := none
  deriving DecidableEq, Repr

/-- The time base and its servo. `base` is the PTP time of the tick start in units of 2^−32 ns; `i` is st.i with 16 fractional bits. -/
structure TimeSt where
  base     : Nat := 0
  rateNext : Int := 0
  state    : TState := .free
  i        : Int := 0
  port     : Nat := 0          -- the port in use
  p0       : PtpPort := {}
  p1       : PtpPort := {}
  master   : Option Announce := none   -- the selected master
  collect  : List Int := []    -- consecutive offsets of first lock
  recent   : List Int := []    -- the last measured offsets, for a re-step
  refused  : List Int := []    -- consecutive refused offsets, up to eight
  disagree : Bool := false
  step     : Option StepReq := none
  slewing  : Bool := false
  deriving DecidableEq, Repr

/-! ### Network (R366–R369, R382–R389) -/

/-- A frame for the host (R382): its bytes, its port and its arrival TS32. -/
structure HostFrame where
  bytes : List Byte
  port  : Nat
  ts    : Nat
  deriving DecidableEq, Repr

/-- A frame of the PRP discard table (R367): source, sequence number and arrival in ms. -/
structure PrpSeen where
  src : Nat
  seq : Nat
  ms  : Nat
  deriving DecidableEq, Repr

/-- A subscribe group (R387–R389): the kept frame of the tick, and the consecutive misses. -/
structure SubSt where
  kept : Option (Nat × List (Word × Bool)) := none
  miss : Nat := 0
  seen : Bool := false         -- some epoch has been accepted
  deriving DecidableEq, Repr

/-- What a frame of the management class carries (R369). -/
inductive TxKind where
  | ptp (kind : PtpKind) (corr turn : Nat)
  | witness (dst : Nat) (f : WitnessMsg) (prp : Option Nat)
  | host (dup : Bool) (seq : Option Nat) (bytes : List Byte)
  | supervision (seq : Nat)
  deriving DecidableEq, Repr

/-- A frame that waits at a port: its requester (0 PTP engine, 1 twin supervision, 2 host mailbox, 3 PRP supervision), the bytes of the line that
it occupies, and the phase of this tick from which it asks. -/
structure TxFrame where
  who   : Nat
  line  : Nat
  since : Nat
  what  : TxKind
  deriving DecidableEq, Repr

/-- A port's transmitter (R369): the frames that wait, the phase of this tick from which its line is free, the round-robin pointer, and the phase at
which the last host frame has left. -/
structure TxPort where
  wait   : List TxFrame := []
  free   : Nat := 0
  ptr    : Nat := 0
  hostTo : Nat := 0
  deriving DecidableEq, Repr

/-- The network blocks. -/
structure NetSt where
  rct     : Nat := 0           -- the RCT sequence counter
  supAt   : Option Nat := none -- the instant of the last supervision frame (R367)
  prp     : List PrpSeen := []
  wrong0  : Bool := false      -- PRP_WRONG_LAN raised in the present episode, by port
  wrong1  : Bool := false
  hrx     : List HostFrame := []
  hrxEp   : Bool := false
  subs    : Tab SubSt := []
  sent    : Tab (List (Word × Bool)) := []   -- each publish group's last words (R385)
  tx      : Tab TxPort := []   -- the ports' transmitters
  deriving DecidableEq, Repr

/-! ### The health recorder (R346–R363) -/

/-- A health record (Table 1 of R349), its CRC being computed where it is shown. -/
structure HealthRec where
  seq    : Nat
  opSec  : Nat
  pcc    : Nat
  code   : Nat                 -- the CODE half-word
  inst   : Nat
  p0     : Word
  p1     : Word
  p2     : Word
  p3     : Word
  tick   : Nat
  phase  : Nat
  wall   : Nat
  tstate : Nat
  kind   : Nat
  reps   : Nat := 0
  lastOp : Nat := 0
  deriving DecidableEq, Repr

/-- A code's line of the code table. -/
structure CodeStat where
  total : Nat := 0
  first : Nat := 0
  last  : Nat := 0
  deriving DecidableEq, Repr

/-- A code's bucket: its tokens, and the instant of its last refill in CK_TIME cycles. -/
structure Bucket where
  tokens : Nat
  since  : Nat
  deriving DecidableEq, Repr

/-- A histogram's bins and INVALID count. -/
structure HistSt where
  bins  : Tab Nat := []
  inval : Nat := 0
  deriving DecidableEq, Repr

/-- An extreme tracker, in Q4.28. -/
structure ExtSt where
  min   : Int := 0x7FFFFFFF
  max   : Int := -0x7FFFFFFF
  minOp : Nat := 0
  maxOp : Nat := 0
  seen  : Bool := false
  deriving DecidableEq, Repr

/-- A summary copy of the health area (R352, R354). -/
structure Summary where
  gen      : Nat
  opSec    : Nat
  pcc      : Nat
  nextSeq  : Nat
  codes    : Tab CodeStat
  hists    : Tab HistSt
  exts     : Tab ExtSt
  restarts : Nat
  deriving DecidableEq, Repr

/-- The recorder: its volatile buffer, and the health area of the record bank. -/
structure HealthSt where
  recs      : List HealthRec := []       -- pending records, oldest first
  codes     : Tab CodeStat := []
  buckets   : Tab Bucket := []           -- those that are not full
  lastRec   : Tab Nat := []              -- SEQ of a code's last record while it is in the buffer
  pendRep   : Tab (Nat × Nat) := []      -- pend_rep and the OP_SEC of the last repeat
  nextSeq   : Nat := 0
  pcc       : Nat := 0
  hists     : Tab HistSt := []
  exts      : Tab ExtSt := []
  flushing  : Bool := false
  again     : Nat := 0                   -- one further flush is due: 1 plain, 2 started by a fault or guard trip
  waitFault : Bool := false              -- a fault's flush waits for the spacing of 1 s
  lastFault : Option Nat := none         -- the instant of the last flush started by a fault or guard trip
  retryDue  : Bool := false              -- a failed flush awaits its retry
  failAt    : Nat := 0                   -- the instant of that failure
  retried   : Bool := false              -- the flush that runs is that retry
  lossSeen  : Nat := 0                   -- RING_LOSS_MGMT at the last flush
  dropEp    : Bool := false              -- REC_DROP raised since the last flush
  flushOp   : Nat := 0                   -- OP_SEC of the last completed flush
  restarts  : Nat := 0
  -- the health area
  area      : Tab HealthRec := []
  head      : Nat := 0
  wraps     : Nat := 0
  sum0      : Option Summary := none
  sum1      : Option Summary := none
  deriving DecidableEq, Repr

/-! ### Twin operation (R395–R434) -/

/-- A host write: the BAR, the BAR offset of its DWORD, the data and the byte enables. -/
structure HostWrite where
  bar  : Bar
  addr : Nat
  val  : Word
  be   : Nat
  deriving DecidableEq, Repr

/-- The twin supervision of this unit. Instants are in CK_TIME cycles. -/
structure TwinSt where
  due       : Option (Nat × Nat × Nat) := none   -- a role change at the next rim: role, cause and RET_CAUSE
  searching : Bool := false          -- the start-up search of R416 runs
  epochSeen : Nat := 0               -- the highest epoch seen since power-on (R411)
  lastEdge  : Option Nat := none     -- the last glint edge received
  glintEp   : Bool := false          -- GLINT_FAULT raised in the present episode
  firstCopy : Bool := false          -- JOINING after its first copy pass
  joinAt    : Nat := 0
  vetoed    : Bool := false
  lastWit   : Option Nat := none     -- SEQ of the partner's latest witness
  witSeen   : Bool := false          -- its witness of this tick has come
  witRun    : Nat := 0               -- consecutive ticks with a witness, and without
  witMiss   : Nat := 0
  witEp     : Bool := false          -- WITNESS_LOST raised in the present episode
  syncTicks : Nat := 0
  mism      : List Nat := []         -- OP_SEC of the mismatches of cause 0 (R404)
  swapReq   : Bool := false          -- a planned swap is requested (R414)
  handDue   : Option Nat := none     -- an agreed hand-over: from when the next P_OUT switches (R412)
  handBack  : Bool := false          -- that hand-over is a MIGRATION hand-back (R432)
  awaiting  : List HostWrite := []   -- host writes that await the partner's acknowledgement (R401)
  tasks     : List (Nat × Nat × TaskState) := []   -- the last part S
  moving    : List Nat := []         -- axes not at rest at the last mirrored rim (R410)
  bytes     : Nat := 0               -- bytes of this tick's mirror image
  xchk      : Tab Nat := []          -- consecutive ticks of difference, by signal (R405)
  xchkEp    : Tab Bool := []
  devNext   : Option Bool := none    -- the owner's device state, which the rim takes (R421)
  tstate    : Nat := 0               -- the owner's servo state as last reported (R399)
  peer      : Option JoinInfo := none
  gotI      : Bool := false          -- this tick's part I has come, and part L (R403)
  gotL      : Bool := false
  theirs    : Nat := 0               -- the last part D
  framesAt  : Option (Nat × Bool) := none   -- a new owner's tick frames start at this instant: on every port, or on those of version 2
  watchEnd  : Option Nat := none     -- OP_SEC at which the migration watch ends
  divGuards : List Nat := []
  divTasks  : List Nat := []
  divRecs   : List (Nat × Nat) := []
  deriving DecidableEq, Repr

/-! ### The host link (R457–R465, R509) -/

/-- The endpoint's configuration bits and what its interrupts, DMA channels and watchdog remember. -/
structure LinkSt where
  msixEn   : Bool := false
  funcMask : Bool := false
  bme      : Bool := false
  sent     : Tab Nat := []     -- the instant of the last message, by vector whose summary has not fallen since
  wr       : Tab Nat := []     -- WR_COUNT by channel
  rdHigh   : Tab Nat := []     -- the high word last written to RD_COUNT, by channel
  irqFrom  : Tab Nat := []     -- WR_COUNT at the channel's last message
  ended    : Tab Bool := []    -- an END item was written since that message
  kicked   : Nat := 0          -- the instant from which the watchdog counts
  deriving DecidableEq, Repr

/-! ### Sealed configuration (R435–R456) -/

/-- A package in a slot: its bytes, and its slot record's state, 1 LOADING, 2 VALID or 3 VOID (R447). -/
structure Stored where
  bytes : List Byte
  state : Nat
  deriving DecidableEq, Repr

/-- Slot A or B: a base and its supplements in order. -/
structure SlotSt where
  base  : Option Stored := none
  supps : List Stored := []
  deriving DecidableEq, Repr

/-- An owner anchor slot's fuses (R440). -/
structure AnchorFuse where
  written : Bool := false
  revoked : Bool := false
  digests : List Byte := []
  deriving DecidableEq, Repr

/-- The one-time fuses (R435, R439, R440), and the serial and maker anchor fused at manufacture. -/
structure Fuses where
  prov    : Bool
  scrap   : Bool
  own     : List Bool          -- OWN[0..3]
  ret     : List Bool          -- RET[0..3]
  refurb  : List Bool          -- REFURB[0..3]
  anchors : List AnchorFuse    -- slot s of group g at 4g + s
  maker   : List Byte
  serial  : Nat
  deriving DecidableEq, Repr

/-- The identity (R438): the seed of the key pairs, erased on scrapping, the public keys and the certificates. -/
structure Identity where
  seed   : Option Nat := none  -- the entropy draw from which the keys were generated
  pubEd  : List Byte := []
  pubMl  : List Byte := []
  certEd : List Byte := []
  certMl : List Byte := []
  deriving DecidableEq, Repr

/-- What the part keeps without supply beside the health area: fuses, identity, slots A and B and the version counters of R444. -/
structure Nv where
  fuses    : Fuses
  identity : Identity
  slotA    : SlotSt
  slotB    : SlotSt
  newerB   : Bool              -- the newer base is slot B's
  versions : Tab Nat           -- the highest VERSION accepted, by KIND
  deriving DecidableEq, Repr

/-- How far a package operation has come (R446–R448). -/
inductive SecStage where
  | verified                   -- its effect is still to come
  | applying (rest : List (Page × List PendItem)) (sent : Bool)   -- the COMMITs still to come; the first of them may be queued
  | done
  deriving DecidableEq, Repr

/-- The package operation that runs. -/
structure SecOp where
  kind    : Nat
  version : Nat
  anchor  : Nat                -- ANCHOR[1:0]
  payload : List Byte
  slotB   : Bool               -- the slot in which a CONFIG or supplement is stored
  stage   : SecStage
  deriving DecidableEq, Repr

/-- A challenge (R452): its bytes and the instant at which it expires. -/
structure Challenge where
  bytes : List Byte
  ends  : Nat
  deriving DecidableEq, Repr

/-- A privilege session (R452, R453): the slot that granted it and the OP_SEC at which it ends. -/
structure Session where
  slot : Nat
  ends : Nat
  deriving DecidableEq, Repr

/-- The security block's volatile state. -/
structure SecSt where
  op        : Option SecOp := none
  partPart  : Bool := false    -- a GUARDS or TABLES load has stopped part-way (R448)
  inUseB    : Bool := false
  badA      : Bool := false    -- the base of slot A, or B, failed its verification at start-up
  badB      : Bool := false
  loaded    : List (List Byte) := []   -- headers of the base and supplements loaded, in order (R449)
  challenge : Option Challenge := none
  session   : Option Session := none
  debug     : Bool := false
  noAuto    : Bool := false    -- auto-run suppressed after SLOT_INVALID (R449)
  quoteDue  : Option (List Byte) := none   -- a QUOTE_GO's nonce, until the rim takes the values
  body      : Option (List Byte) := none   -- the body taken, until QUOTE_DONE
  quote     : List Byte := []
  appends   : Option (Nat × Nat) := none   -- slot (1 B) and index of the supplement that loads
  deriving DecidableEq, Repr

/-! ### Restart and supply (R473–R488) -/

/-- A held-output restart in progress. -/
structure RestartSt where
  cause   : RestartCause
  flushed : Bool               -- the flush of a commanded restart was completed
  arrays  : Bool               -- the large arrays are lost (R478)
  expired : Bool := false      -- the field die's hold expired (R481)
  stopped : Bool := false      -- a power failure stopped it (R485)
  deriving DecidableEq, Repr

/-- How far a commanded restart has come (R480): not asked for, awaiting its flush, awaiting the rim after it. -/
inductive RestartReq where
  | none | flush | rim
  deriving DecidableEq, Repr


/-! ### The part -/

/-- What the rim checkpoint holds and a held-output restart restores (R478, R479 and the chapters' restart rules). -/
structure Retained where
  -- tick and weave (R54)
  bankActive : Nat             -- the active bank
  bank0      : BankState
  bank1      : BankState
  walkAnyway : Bool            -- the active bank lost PASS only through a change of L (R53)
  costAt     : Tab Nat         -- computed costs at check time, by 8192 × bank + strand (R44)
  -- engine (R81)
  laneMap    : List Nat        -- active number a is bound to the a-th physical lane (R59)
  spares     : List Nat
  laneOut    : List Nat        -- retired physical lanes
  -- loops (R110, R135)
  loops      : Tab LoopSt
  sos        : Tab SosSt
  ages       : Tab Nat         -- signal ages; unlisted 255 (R119)
  -- guards (R135)
  termOn     : Tab Bool        -- term results
  termEp     : Tab Bool        -- TERM_INVALID raised in the present episode
  condOn     : Tab Bool        -- guard conditions at the last evaluation
  tripped    : Tab Bool        -- guards tripped since the evaluation that tripped them
  -- echo (R155)
  echoes     : Tab EchoSt
  -- tasks (R195)
  tasks      : Tab TaskCtx
  nextStamp  : Nat
  flags      : Tab Bool
  -- motion (R221)
  mps        : Tab MpSt
  -- stepper drive (R246, R248)
  axes       : Tab AxSt
  -- inputs (R295)
  ais        : Tab AiSt
  -- field link (R313)
  wls        : Tab WlSt
  badSteps   : List Nat        -- recipe steps in uncorrectable error (R192)
  -- loop ports (R283)
  ports      : Tab PortSt
  fsk        : Tab FskSt
  -- in-service test (R356, R360): mismatch ticks and pending retries by unit
  mism       : Tab (List Nat)
  retry      : Tab Nat
  -- operating seconds, kept by the field die (R346)
  opSec      : Nat
  -- acquisition, whose records and configuration outlive a restart (R342)
  caps       : Tab CapSt
  ping       : PingSt
  -- time and network, which run on (R391)
  time       : TimeSt
  net        : NetSt
  retValid   : Bool            -- the retention SRAM is usable (Table 4 of R357)
  scrubPos   : Nat             -- the scrub position in bytes (R360)
  scrubAt    : Nat             -- the instant at which the scrub pass began, in CK_TIME cycles
  badMem     : List (Nat × Nat) -- records in uncorrectable error until they are rewritten, as the memory's code and the record (R357)
  -- twin supervision (R411)
  twin       : TwinSt
  deriving DecidableEq, Repr

/-- What the state digest covers (R403, R136, R157, R196, R222): a word written to the board, the state of a loop, a section, an echo controller,
a generator or a task, the order of readiness, a flag, a term or a guard latch, and an entry or a value that the rim applied. -/
inductive DigestItem where
  | word (i : Nat) (v : Word)
  | loop (n : Nat) (s : LoopSt)
  | sos (n : Nat) (s : SosSt)
  | echo (n : Nat) (state : EchoState) (h : Nat) (t : Int) (p crc : Nat)
  | generator (n : Nat) (pos vel : Int) (mode : MpMode) (seq : Nat) (homed : Bool) (latch : Int) (latchTick : Nat)
  | task (n : Nat) (s : TaskCtx)
  | order (stamp : Nat)
  | flag (n : Nat) (b : Bool)
  | term (n : Nat) (on : Bool)
  | guard (n : Nat) (tripped : Bool)
  | entry (e : CtlEntry)
  | value (i : PendItem)
  deriving DecidableEq, Repr

end Sys2Proof.Machine

namespace Sys2Proof.Config

open Sys2Proof

/-- The digest of R403 is a sum over words, by a per-word function that the specification does not give: here what each item adds. -/
opaque digestItem : Machine.DigestItem → Nat

end Sys2Proof.Config

namespace Sys2Proof.Machine

open Sys2Proof

/-- The part but for its fuses: every register, memory, queue, counter and mode that commands read and write. -/
structure Chip extends Retained where
  -- where the machine stands
  tick       : Nat             -- the 48-bit tick count (R33)
  phase      : Nat             -- CK_TIME cycles from P_IN of the latest command's instant
  tickLen    : Nat             -- predicted length of this tick (R34)
  perN       : Nat             -- the tick period N that governs this tick (R32, R33)
  cyc        : Nat             -- CK_TIME cycles counted at the start of this tick: the time stamps of edges and holds (R33)
  -- registers and windows, by BAR offset (R466, R467)
  mem        : Tab Byte
  before     : Tab Byte        -- the same as the present cycle found them, less what it has taken since (R6)
  -- record memory, by BAR4 offset (R459)
  recMem     : Tab Byte
  -- the signal board (R13)
  work       : Tab WorkWord
  settled    : Tab BoardWord
  -- events (R26–R30)
  ring       : RingSt
  -- staging and commits (R19–R25)
  pend       : Tab (List PendItem)   -- pending values by page
  mqueue     : List MgmtCommit
  cqueue     : List CtlEntry
  -- the device (R469, R470)
  dev        : DevState
  devBefore  : DevState        -- the state before a held-output restart
  pf         : Bool            -- power failure sensed
  devReq     : Option Bool     -- RUN (true) or SAFE (false) awaits the rim (R470)
  devAuto    : Bool            -- the RUN that awaits is AUTO_RUN's
  safeCause  : Option Nat      -- an event forces SAFE_IDLE at the next rim: its code
  autoRun    : Bool            -- AUTO_RUN has not yet acted since power-on (R477)
  autoCfg    : Bool            -- DEV_CFG.AUTO_RUN as the last reset of the logic die found it (R8)
  -- the weave in this tick (R41, R48–R50)
  sched      : List Flight     -- strands dispatched and not complete
  doneStr    : List (Nat × Nat)   -- strands complete in this tick, with their done_time
  lanesDown  : List Nat        -- active numbers stopped in this tick
  overrun    : Bool            -- this tick is an overrun tick
  earlyOver  : Bool            -- its overrun was found at the early check (R49)
  lastOver   : Bool            -- the last tick overran (R50)
  unforced   : Tab BoardWord   -- words that the guard merge of this tick replaced, as the profile pass reads them (R130, R202)
  check      : Option CheckRun
  avgSum     : Tab Int         -- averaging sums, by 256 × block + position (R39)
  avgBad     : Tab Bool        -- a sample of that sum was invalid
  avgCnt     : Tab Nat         -- ticks summed, by block (R40)
  -- lanes that retire at the rim: physical lane, cause, strand in flight (R73, R74)
  laneDue    : List (Nat × Nat × Option Nat)
  -- step engines (R185–R187)
  engines    : Tab EngineSt
  sePtr      : Nat             -- the scheduler's round-robin pointer among the engines (R29, R185)
  seFree     : Nat             -- the CK_SEQ cycle of this tick from which the scheduler may grant again
  cqPtr      : Nat             -- the commit queue's round-robin pointer among the engines (R29, R187)
  guardsDone : Bool            -- this tick's guards have been evaluated (R130, R188)
  flagWrites : List (Nat × Bool)  -- host writes of FLAG_SET and FLAG_CLR, in the order written (R174)
  portRep    : Tab Nat         -- by port, for the previous tick: 1 short in the positive direction, 2 in the negative, 4 retired (R94)
  drvMem     : Tab Byte        -- registers and tables as the field die took them at the last P_OUT (R235, R251, R286)
  inMem      : Tab Byte        -- the INPUT page as the field die took it at the last P_IN (R315)
  convAt     : Nat             -- the instants of conversion, as their remainder of 1000 CK_TIME cycles (R289)
  homeFlags  : List Nat        -- event flags that HOME_DONE sets at the rim (R217)
  pins       : Tab PinSt       -- SW0–SW95, then DIO0–DIO47
  owNext     : Nat             -- the input whose open-wire test comes next (R294)
  marks      : List MarkReq
  rimTasks   : Tab Nat         -- task states as they stood after the last rim, coded (R172)
  rimGuards  : Tab Bool        -- guard latches as they stood after the last rim (R172)
  emitted    : List Emission   -- the model's own field: what the latest command sent out
  vloopOk    : Bool            -- bucks permitted (R272)
  vlowDue    : Option Nat      -- VLOOP fell in a restart to this reading, which the logic die has yet to report
  recPtr     : Nat             -- the record memory's round-robin pointer in the data class: sets 0–15, then channels 16–23 (R29, R336)
  linkErrs   : Tab Nat         -- frame errors that the next LINK_CHECK counts, by link (R355)
  linkBad    : Nat             -- consecutive ticks with a bad output set (R11)
  capCmds    : List (Nat × Bool)   -- host ARM (true) and DISARM commands, in the order written (R335)
  causes     : List Cause
  beat       : Nat             -- ticks since power-on, this one included: a count that no realignment disturbs (R320, R342)
  boardTick  : Nat             -- the tick whose words the settled buffer holds: the frame of the next sweep (R320)
  lastFrame  : Tab BoardWord   -- the frame before the one being judged (R327)
  testNext   : Tab Nat         -- by check of Table 3 of R355, and by 256 + spare for RECOMPUTE: the unit or strand that comes next
  testAt     : Tab Nat         -- likewise: the beat from which the check may run again
  tbFree     : Tab Nat         -- by TB line, the instant from which it carries no burst (R339)
  chgLast    : Tab (Int × Bool)    -- L of R325 with its validity flag, by 16,384 × set + signal
  chgMarks   : Tab Bool        -- the change masks of the working buffer
  chgSettled : Tab Bool        -- the change masks of the settled buffer
  watch      : Tab WatchSt
  autoArm    : Bool            -- sets with AUTO_ARM have not yet armed since power-on (R341)
  health     : HealthSt
  outEn      : Bool            -- DIO, valve, TB and SYNC_REF pins are driven, not high impedance (Table 1 of R395)
  lnk        : LinkSt
  sec        : SecSt
  restart    : Option RestartSt
  restartReq : RestartReq
  ckA        : Option (Nat × Retained × Tab Byte)   -- the two halves of the retention SRAM (R479): tick count, checkpoint, page registers
  ckB        : Option (Nat × Retained × Tab Byte)
  ckNext     : Bool            -- the next checkpoint goes to half B
  skewPeak   : Nat             -- largest skew magnitude since SKEW.PEAK was read
  hotLogic   : Bool            -- a TEMP_WARN episode of the logic die is open (R488)
  hotField   : Bool
  syncSeen   : Bool            -- SYNC_REF edges are present (R472)
  axShown    : Tab AxSt        -- the axes as they stood at the last P_OUT (R251)
  pfCount    : Nat             -- power failures in the life of the part, which outlast a power-on (R472)
  draws      : Nat             -- draws made so far from the entropy source (R438, R452)
  outReset   : Bool            -- outputs stay in their reset states until the first rim after a power-on reset (R477)
  deriving DecidableEq, Repr

/-! ### The machine and its stops -/

/-- The machine: the part, what it keeps in fuses and in the slots, and the commands that wait, first in, first out. -/
structure State where
  chip    : Chip
  nv      : Nv
  pending : List Instr
  deriving DecidableEq, Repr

/-- Why a command stops with a fault: none does, since the specification gives every command of the table an effect in every state. -/
inductive Fault where
  deriving DecidableEq, Repr

/-- Why a command is refused. -/
inductive Refusal where
  /-- Raised by the dispatcher for a command that has no meaning yet, by its mnemonic. Safe: nothing is claimed of such a command. -/
  | notModelled (mnemonic : String)
  deriving DecidableEq, Repr

/-! ### Reset -/

/-- The retained blocks right after a power-on reset. -/
def Retained.reset : Retained where
  bankActive := 0
  bank0 := .unchecked
  bank1 := .unchecked
  walkAnyway := false
  costAt := []
  laneMap := [0, 1, 2, 3, 5, 6, 7, 8, 10, 11, 12, 13, 15, 16, 17, 18]
  spares := [4, 9, 14, 19]
  laneOut := []
  loops := []
  sos := []
  ages := []
  termOn := []
  termEp := []
  condOn := []
  tripped := []
  echoes := []
  tasks := []
  nextStamp := 0
  flags := []
  mps := []
  axes := []
  ais := []
  wls := []
  badSteps := []
  ports := []
  fsk := []
  mism := []
  retry := []
  opSec := 0
  caps := []
  ping := {}
  time := {}
  net := {}
  retValid := true
  scrubPos := 0
  scrubAt := 0
  badMem := []
  twin := {}

/-- The event ring after a power-on reset. -/
def RingSt.reset : RingSt where
  entries := []
  nextSeq := 0
  queues := []
  lost := []
  dataSeq := 0
  mgmtSeq := 0
  ptr := []

/-- The part right after a power-on reset: SAFE_IDLE, SOLO, every register at its reset value, nothing written. -/
def Chip.reset : Chip where
  toRetained := Retained.reset
  tick := 0
  cyc := 0
  phase := 0
  tickLen := 5000
  perN := 5000
  mem := []
  before := []
  recMem := []
  work := []
  settled := []
  ring := RingSt.reset
  pend := []
  mqueue := []
  cqueue := []
  dev := .safeIdle
  devBefore := .safeIdle
  pf := false
  devReq := none
  devAuto := false
  safeCause := none
  autoRun := true
  autoCfg := false
  sched := []
  doneStr := []
  lanesDown := []
  overrun := false
  earlyOver := false
  unforced := []
  lastOver := false
  check := none
  avgSum := []
  avgBad := []
  avgCnt := []
  laneDue := []
  engines := []
  sePtr := 0
  seFree := 0
  cqPtr := 0
  guardsDone := false
  flagWrites := []
  portRep := []
  drvMem := []
  inMem := []
  convAt := 0
  homeFlags := []
  pins := []
  owNext := 0
  marks := []
  rimTasks := []
  rimGuards := []
  emitted := []
  vloopOk := true
  vlowDue := none
  recPtr := 0
  linkErrs := []
  linkBad := 0
  capCmds := []
  causes := []
  beat := 0
  boardTick := 0
  lastFrame := []
  tbFree := []
  testNext := []
  testAt := []
  chgLast := []
  chgMarks := []
  chgSettled := []
  watch := []
  autoArm := true
  health := {}
  outEn := false
  lnk := {}
  sec := {}
  restart := none
  restartReq := .none
  ckA := none
  ckB := none
  ckNext := false
  skewPeak := 0
  hotLogic := false
  hotField := false
  syncSeen := false
  axShown := []
  pfCount := 0
  draws := 0
  outReset := true

/-- Fuses of a part as it leaves manufacture: none blown, with serial 1 and no maker digests, which the specification leaves to manufacture. -/
def Fuses.blank : Fuses where
  prov := false
  scrap := false
  own := [false, false, false, false]
  ret := [false, false, false, false]
  refurb := [false, false, false, false]
  anchors := List.replicate 16 {}
  maker := []
  serial := 1

/-- An empty nonvolatile store. -/
def Nv.blank : Nv where
  fuses := Fuses.blank
  identity := {}
  slotA := {}
  slotB := {}
  newerB := false
  versions := []

/-- The machine right after a power-on reset of a blank part, with no command waiting. -/
def State.reset : State where
  chip := Chip.reset
  nv := Nv.blank
  pending := []

end Sys2Proof.Machine
end

