-- ==== Sys2Proof/Machine/Ops.lean ====
section
/-!
DEFINITION. Machine/Ops.lean: the named operations over the registers and windows, the signal board, the event ring and
the commit queue. Every other file reads and writes these parts of the state through them.
-/
namespace Sys2Proof.Machine

open Sys2Proof

/-! ### Registers and windows -/

/-- The byte at a BAR offset of a register memory. -/
def mrd8 (m : Tab Byte) (a : Nat) : Byte := tabGet resetByte m a

/-- The DWORD at a BAR offset, little-endian (R37, R101, R163). -/
def mrd32 (m : Tab Byte) (a : Nat) : Word :=
  Word.ofNat ((mrd8 m a).toNat + 0x100 * (mrd8 m (a + 1)).toNat + 0x10000 * (mrd8 m (a + 2)).toNat
    + 0x1000000 * (mrd8 m (a + 3)).toNat)

/-- Field [hi:lo] of a DWORD of a register memory. -/
def mF (m : Tab Byte) (a hi lo : Nat) : Nat := fld (mrd32 m a) hi lo

/-- Bit `i` of a DWORD of a register memory. -/
def mB (m : Tab Byte) (a i : Nat) : Bool := wbit (mrd32 m a) i

/-- The byte at a BAR offset. -/
def rd8 (c : Chip) (a : Nat) : Byte := mrd8 c.mem a

/-- The DWORD at a BAR offset. -/
def rd32 (c : Chip) (a : Nat) : Word := mrd32 c.mem a

/-- The register memory with one byte replaced. -/
def memPut (m : Tab Byte) (a : Nat) (b : Byte) : Tab Byte := tabPut resetByte m a b

/-- The register memory with a DWORD replaced. -/
def memPut32 (m : Tab Byte) (a : Nat) (w : Word) : Tab Byte :=
  memPut (memPut (memPut (memPut m a (BitVec.ofNat 8 w.toNat)) (a + 1) (BitVec.ofNat 8 (w.toNat >>> 8)))
    (a + 2) (BitVec.ofNat 8 (w.toNat >>> 16))) (a + 3) (BitVec.ofNat 8 (w.toNat >>> 24))

/-- Write a byte. -/
def wr8 (a : Nat) (b : Byte) (c : Chip) : Chip := { c with mem := memPut c.mem a b }

/-- Write a DWORD. -/
def wr32 (a : Nat) (w : Word) (c : Chip) : Chip := { c with mem := memPut32 c.mem a w }

/-- Write the bits of a DWORD that `mask` selects. -/
def wrMask (a : Nat) (mask v : Word) (c : Chip) : Chip := wr32 a (merge mask (rd32 c a) v) c

/-- Field [hi:lo] of a register. -/
def rdF (c : Chip) (a hi lo : Nat) : Nat := fld (rd32 c a) hi lo

/-- Bit `i` of a register. -/
def rdB (c : Chip) (a i : Nat) : Bool := wbit (rd32 c a) i

/-- Write field [hi:lo] of a register. -/
def wrF (a hi lo v : Nat) (c : Chip) : Chip := wr32 a (setFld (rd32 c a) hi lo v) c

/-- Write bit `i` of a register. -/
def wrB (a i : Nat) (b : Bool) (c : Chip) : Chip := wr32 a (setBit (rd32 c a) i b) c

/-- Bit `i` of a map of DWORDs that starts at `a` (bit 32w + b is bit b of word w). -/
def mapBit (c : Chip) (a i : Nat) : Bool := rdB c (a + 4 * (i / 32)) (i % 32)

/-- Write bit `i` of such a map. -/
def setMapBit (a i : Nat) (b : Bool) (c : Chip) : Chip := wrB (a + 4 * (i / 32)) (i % 32) b c

/-- The signed value of a DWORD. -/
def rdI (c : Chip) (a : Nat) : Int := (rd32 c a).toInt

/-- The unsigned value of a DWORD. -/
def rdN (c : Chip) (a : Nat) : Nat := (rd32 c a).toNat

/-- A 64-bit two's complement value whose low word is at `a`. -/
def rdI64 (c : Chip) (a : Nat) : Int := sx 64 (rdN c a + 0x100000000 * rdN c (a + 4))

/-- A saturating 32-bit counter register moves up by one. -/
def regInc (a : Nat) (c : Chip) : Chip := wr32 a (Word.ofNat (satInc 32 (rdN c a))) c

/-! ### Numbered units -/

def Chip.loop (c : Chip) (n : Nat) : LoopSt := tabGet (fun _ => {}) c.loops n
def Chip.setLoop (c : Chip) (n : Nat) (l : LoopSt) : Chip := { c with loops := tabPut (fun _ => {}) c.loops n l }
def Chip.sect (c : Chip) (j : Nat) : SosSt := tabGet (fun _ => {}) c.sos j
def Chip.setSect (c : Chip) (j : Nat) (s : SosSt) : Chip := { c with sos := tabPut (fun _ => {}) c.sos j s }
def Chip.echoOf (c : Chip) (n : Nat) : EchoSt := tabGet (fun _ => {}) c.echoes n
def Chip.setEcho (c : Chip) (n : Nat) (e : EchoSt) : Chip := { c with echoes := tabPut (fun _ => {}) c.echoes n e }
def Chip.task (c : Chip) (t : Nat) : TaskCtx := tabGet (fun _ => {}) c.tasks t
def Chip.setTask (c : Chip) (t : Nat) (x : TaskCtx) : Chip := { c with tasks := tabPut (fun _ => {}) c.tasks t x }
def Chip.engine (c : Chip) (e : Nat) : EngineSt := tabGet (fun _ => {}) c.engines e
def Chip.setEngine (c : Chip) (e : Nat) (x : EngineSt) : Chip :=
  { c with engines := tabPut (fun _ => {}) c.engines e x }
def Chip.mp (c : Chip) (n : Nat) : MpSt := tabGet (fun _ => {}) c.mps n
def Chip.setMp (c : Chip) (n : Nat) (m : MpSt) : Chip := { c with mps := tabPut (fun _ => {}) c.mps n m }
def Chip.ax (c : Chip) (n : Nat) : AxSt := tabGet (fun _ => {}) c.axes n
def Chip.setAx (c : Chip) (n : Nat) (a : AxSt) : Chip := { c with axes := tabPut (fun _ => {}) c.axes n a }
def Chip.ai (c : Chip) (n : Nat) : AiSt := tabGet (fun _ => {}) c.ais n
def Chip.setAi (c : Chip) (n : Nat) (a : AiSt) : Chip := { c with ais := tabPut (fun _ => {}) c.ais n a }
def Chip.pin (c : Chip) (n : Nat) : PinSt := tabGet (fun _ => {}) c.pins n
def Chip.setPin (c : Chip) (n : Nat) (p : PinSt) : Chip := { c with pins := tabPut (fun _ => {}) c.pins n p }
def Chip.wl (c : Chip) (n : Nat) : WlSt := tabGet (fun _ => {}) c.wls n
def Chip.setWl (c : Chip) (n : Nat) (w : WlSt) : Chip := { c with wls := tabPut (fun _ => {}) c.wls n w }
def Chip.port (c : Chip) (n : Nat) : PortSt := tabGet (fun _ => {}) c.ports n
def Chip.setPort (c : Chip) (n : Nat) (p : PortSt) : Chip := { c with ports := tabPut (fun _ => {}) c.ports n p }
def Chip.modem (c : Chip) (n : Nat) : FskSt := tabGet (fun _ => {}) c.fsk n
def Chip.setModem (c : Chip) (n : Nat) (f : FskSt) : Chip := { c with fsk := tabPut (fun _ => {}) c.fsk n f }
def Chip.flag (c : Chip) (n : Nat) : Bool := tabGet (fun _ => false) c.flags n
def Chip.setFlag (c : Chip) (n : Nat) (b : Bool) : Chip := { c with flags := tabPut (fun _ => false) c.flags n b }
/-- A guard is tripped from the evaluation that trips it until its reset (R131). -/
def Chip.guardOn (c : Chip) (g : Nat) : Bool := tabGet (fun _ => false) c.tripped g

/-- The numbers of the records of a window, `count` of them `stride` apart from `base`, in which some byte is listed; every other record
reads as after reset. -/
def listedRecords (m : Tab Byte) (base stride count : Nat) : List Nat :=
  ((m.filter (fun e => decide (base ≤ e.1) && decide (e.1 < base + stride * count))).map (fun e => (e.1 - base) / stride)).eraseDups

/-- Apply `f` to each number below `n`, in ascending order. -/
def forEach (n : Nat) (f : Nat → Chip → Chip) (c : Chip) : Chip := (List.range n).foldl (fun c i => f i c) c

/-- Apply `f` to each number of a list, in order. -/
def forAll {α : Type} (l : List α) (f : α → Chip → Chip) (c : Chip) : Chip := l.foldl (fun c i => f i c) c

/-! ### The signal board (R13, R14) -/

/-- The settled word of a signal; a signal with no producer reads zero with its flag clear (R14, R86). -/
def settledRd (c : Chip) (i : Nat) : BoardWord := tabGet (fun _ => ⟨0, false⟩) c.settled i

/-- A read at lane-cycle `t` of the tick: the working value where the written bit is set and its producer has released it,
otherwise the settled value (R13, R70, R87). -/
def boardRd (c : Chip) (t i : Nat) : BoardWord :=
  match tabFind c.work i with
  | some w => if w.time ≤ t then ⟨w.val, w.valid⟩ else settledRd c i
  | none => settledRd c i

/-- A read after every release of the tick so far. -/
def boardNow (c : Chip) (i : Nat) : BoardWord :=
  match tabFind c.work i with
  | some w => ⟨w.val, w.valid⟩
  | none => settledRd c i

/-- A store to the working buffer released at lane-cycle `t`. -/
def boardWr (t i : Nat) (v : Word) (valid : Bool) (c : Chip) : Chip :=
  { c with work := tabIns i { val := v, valid := valid, time := t } c.work }

/-- A store of a signed value. -/
def boardWrI (t i : Nat) (v : Int) (valid : Bool) (c : Chip) : Chip := boardWr t i (Word.ofInt v) valid c

/-- The age of a signal at lane-cycle `t` (R119). -/
def ageAt (c : Chip) (t i : Nat) : Nat :=
  match tabFind c.work i with
  | some w => if w.time ≤ t ∧ w.valid ∧ w.stored then 0 else tabGet (fun _ => 255) c.ages i
  | none => tabGet (fun _ => 255) c.ages i

/-! ### Requesters of the event ring (R30, R507) -/

def reqWeave : Nat := 0
def reqEngine : Nat := 1
def reqGuard : Nat := 2
def reqSE (e : Nat) : Nat := 3 + e
def reqMotion : Nat := 19
def reqStepdrv : Nat := 20
def reqLport : Nat := 21
def reqInput : Nat := 22
def reqWl (p : Nat) : Nat := 23 + p
def reqSec : Nat := 31
def reqHealth : Nat := 32
def reqIst : Nat := 33
def reqTime : Nat := 34
def reqTwin : Nat := 35
def reqClk : Nat := 36
def reqHost : Nat := 37
def reqCapture : Nat := 38
def reqRecMem : Nat := 39
def reqNet : Nat := 40
def reqSync : Nat := 41

/-- The class of a requester, which is also the PLANE code of R26: 0 control, 1 management, 2 data. -/
def reqClass (r : Nat) : Nat := if r < 31 then 0 else if r < 38 then 1 else 2

/-- The requester that reports a page's events where nothing else names it (Table 8 of R507). -/
def pageReq : Page → Nat
  | .sys | .tick | .weave => reqWeave
  | .engine | .loopctl | .echo => reqEngine
  | .guard => reqGuard
  | .task => reqSE 0
  | .motion => reqMotion
  | .stepdrv => reqStepdrv
  | .lport => reqLport
  | .input => reqInput
  | .wlink => reqWl 0
  | .capture => reqCapture
  | .net => reqNet
  | .health => reqHealth
  | .ist => reqIst
  | .time => reqTime
  | .twin => reqTwin
  | .sec => reqSec
  | .host => reqHost
  | .clkpwr => reqClk

/-! ### Arbitration (R29) -/

/-- The first member of `l` at or after the round-robin pointer, wrapping round. -/
def roundRobin (ptr : Nat) (l : List Nat) : Option Nat :=
  match l.find? (fun r => decide (ptr ≤ r)) with
  | some r => some r
  | none => l.head?

/-- Members that ask in one cycle, in the order of their grants, and the pointer after the last of them (R29). -/
def rrOrder (ptr : Nat) (l : List Nat) : List Nat := l.filter (fun r => decide (ptr ≤ r)) ++ l.filter (fun r => decide (r < ptr))
def rrAfter (ptr : Nat) (l : List Nat) : Nat := match (rrOrder ptr l).getLast? with | some r => r + 1 | none => ptr

/-- The requesters of a class. -/
def classMembers (k : Nat) : List Nat :=
  if k = 0 then List.range 31 else if k = 1 then (List.range 7).map (· + 31) else (List.range 4).map (· + 38)

/-- The requester granted next and its class, among those with a queued entry: control class first, then management, then data. -/
def ringGrant (r : RingSt) : Option (Nat × Nat) :=
  let want (k : Nat) : List Nat := (classMembers k).filter (fun q => decide (tabGet (fun _ => []) r.queues q ≠ []))
  match roundRobin (tabGet (fun _ => 0) r.ptr 0) (want 0) with
  | some q => some (q, 0)
  | none =>
    match roundRobin (tabGet (fun _ => 0) r.ptr 1) (want 1) with
    | some q => some (q, 1)
    | none => (roundRobin (tabGet (fun _ => 0) r.ptr 2) (want 2)).map (fun q => (q, 2))

/-- Writing one entry to the ring (R26, R28): SEQ is given, the oldest of 4096 entries is overwritten, and a consumer 4096
entries behind loses its oldest unread entry. -/
def ringWrite (e : RingEntry) (r : RingSt) : RingSt :=
  let full := decide (r.entries.length = 4096)
  { r with
    entries := (if full then r.entries.drop 1 else r.entries) ++ [{ e with seq := r.nextSeq % 0x100000000 }],
    nextSeq := r.nextSeq + 1,
    dataSeq := if r.nextSeq - r.dataSeq = 4096 then r.dataSeq + 1 else r.dataSeq,
    mgmtSeq := if r.nextSeq - r.mgmtSeq = 4096 then r.mgmtSeq + 1 else r.mgmtSeq }

/-- One grant of the ring's arbiter (R29). -/
def ringStep (r : RingSt) : RingSt :=
  match ringGrant r with
  | none => r
  | some (q, k) =>
    match tabGet (fun _ => []) r.queues q with
    | [] => r
    | e :: rest =>
      ringWrite e { r with queues := tabPut (fun _ => []) r.queues q rest, ptr := tabPut (fun _ => 0) r.ptr k (q + 1) }

/-- `n` grants. -/
def ringSteps : Nat → RingSt → RingSt
  | 0, r => r
  | n + 1, r => ringSteps n (ringStep r)

/-- The queued entries of all requesters. -/
def ringQueued (r : RingSt) : Nat := (r.queues.map (fun q => q.2.length)).sum

/-- `n` CK_SEQ cycles of the ring's arbiter, with the consumers' losses counted (R28). -/
def advanceRing (n : Nat) (c : Chip) : Chip :=
  let r := ringSteps n c.ring
  let more (a k : Nat) (c : Chip) : Chip := if k = 0 then c else wr32 a (Word.ofNat (min 0xFFFFFFFF (rdN c a + k))) c
  more Reg.SYS_RING_LOSS_MGMT (r.mgmtSeq - c.ring.mgmtSeq)
    (more Reg.SYS_RING_LOSS_DATA (r.dataSeq - c.ring.dataSeq) { c with ring := r })

/-- Every queued entry reaches the ring, one per CK_SEQ cycle, in the arbiter's order (R27, R29). -/
def drainRing (c : Chip) : Chip := advanceRing (ringQueued c.ring) c

/-! ### Raising an event (R26, R27, R462, R506) -/

/-- Whether an event is enabled: its EVT_EN bit, which reads 1 for a fault event of a locked page (R463). -/
def evEnabled (c : Chip) (d : EvDef) : Bool :=
  rdB c (pageBase d.page + Reg.HDR_EVT_EN) d.bit
    || (d.fault.isSome && rdB c (pageBase d.page + Reg.HDR_LOCK) 0)

/-- The hardware sets a W1C bit in the present cycle: a clear of the same cycle leaves it set (R6). -/
def setSticky (a i : Nat) (c : Chip) : Chip := wrB a i true { c with before := memPut32 c.before a (setBit (mrd32 c.before a) i false) }

/-- Set an event's EVT_STAT bit and, for a fault, its FAULT_STAT bit. -/
def markEvent (d : EvDef) (c : Chip) : Chip :=
  let c := setSticky (pageBase d.page + Reg.HDR_EVT_STAT) d.bit c
  match d.fault with
  | some b => setSticky (pageBase d.page + Reg.HDR_FAULT_STAT) b c
  | none => c

/-- The ring entry of an event with its payload words; a word not named reads zero (R506). -/
def mkEntry (d : EvDef) (req inst tick phase : Nat) (ps : List Nat) : RingEntry :=
  { seq := 0, tick := tick, phase := phase, code := d.code, plane := reqClass req, fault := d.fault.isSome,
    inst := inst % 0x10000,
    p0 := Word.ofNat (ps.getD 0 0), p1 := Word.ofNat (ps.getD 1 0),
    p2 := Word.ofNat (ps.getD 2 0), p3 := Word.ofNat (ps.getD 3 0) }

/-- Put an event in its requester's 8-entry queue; a full queue counts it as lost (R27). A suppressed event does nothing. -/
def postEvent (d : EvDef) (req inst phase : Nat) (ps : List Nat) (c : Chip) : Chip :=
  if evEnabled c d then
    let c := markEvent d c
    let q := tabGet (fun _ => []) c.ring.queues req
    if q.length < 8 then
      { c with ring := { c.ring with
          queues := tabPut (fun _ => []) c.ring.queues req (q ++ [mkEntry d req inst c.tick phase ps]) } }
    else
      { c with ring := { c.ring with lost := tabPut (fun _ => 0) c.ring.lost req (tabGet (fun _ => 0) c.ring.lost req + 1) } }
  else c

/-- Raise an event through a requester at a phase; it reaches the ring before the next one. -/
def raiseVia (d : EvDef) (req inst phase : Nat) (ps : List Nat) (c : Chip) : Chip :=
  drainRing (postEvent d req inst phase ps c)

/-- The requester that reports an event where nothing else names it (Table 8 of R507): the sync bus for four events of CAPTURE. -/
def eventReq (d : EvDef) : Nat :=
  if [Event.CAPTURE_TB_COLLISION, Event.CAPTURE_SYNC_LOST, Event.CAPTURE_PING_FAIL, Event.CAPTURE_PING_DONE].contains d then reqSync
  else pageReq d.page

/-- Raise an event through its own requester at the present phase. -/
def raiseEv (d : EvDef) (inst : Nat) (ps : List Nat) (c : Chip) : Chip :=
  raiseVia d (eventReq d) inst c.phase ps c

/-- Raise an event that judges a host access: the host link reports it (R507). -/
def raiseHost (d : EvDef) (inst : Nat) (ps : List Nat) (c : Chip) : Chip :=
  raiseVia d reqHost inst c.phase ps c

/-- Unsigned 32-bit image of a signed payload word. -/
def pw (i : Int) : Nat := unsx 32 i

/-! ### Saturation counts (R67) -/

/-- Count a saturating store. -/
def countSat (hit : Bool) (c : Chip) : Chip := if hit then regInc Reg.ENGINE_SAT_COUNT c else c

/-- A saturating store to the signal board is counted, its index recorded and SAT_STORE raised if enabled (R67, R84). -/
def countBoardSat (i : Nat) (hit : Bool) (c : Chip) : Chip :=
  if hit then
    raiseEv Event.ENGINE_SAT_STORE i [i] (wr32 Reg.ENGINE_SAT_LAST (Word.ofNat (0x80000000 + i)) (regInc Reg.ENGINE_SAT_COUNT c))
  else c

/-- Something leaves the part. -/
def emit (e : Emission) (c : Chip) : Chip := { c with emitted := c.emitted ++ [e] }

/-! ### The tick's fixed quantities (R32–R35) -/

/-- N, the tick period in CK_TIME cycles. -/
def tickN (c : Chip) : Nat := rdF c Reg.TICK_TICK_PERIOD 14 0
/-- P_OUT in CK_TIME cycles. -/
def pOutPhase (c : Chip) : Nat := rdF c Reg.TICK_P_OUT_PHASE 14 0
/-- D_APPLY in CK_TIME cycles. -/
def dApply (c : Chip) : Nat := rdF c Reg.TICK_D_APPLY 15 0
/-- The phase at which this tick's rim begins (R34, R35). -/
def rimPhase (c : Chip) : Nat := c.tickLen - 250
/-- A count of ticks on. -/
def tickAdd (t n : Nat) : Nat := (t + n) % 2 ^ 48
/-- Whether tick `now` is at or past tick `goal`, on the 48-bit count that wraps (R33). -/
def tickReached (now goal : Nat) : Bool := decide ((now + 2 ^ 48 - goal % 2 ^ 48) % 2 ^ 48 < 2 ^ 47)
/-- An instant in CK_TIME cycles, from its tick and phase. -/
def instant (c : Chip) (tick phase : Nat) : Nat := c.cyc + tick * tickN c + phase - c.tick * tickN c
/-- A 32-bit word with a bit per number for which `f` holds. -/
def mapWord (w : Nat) (f : Nat → Bool) : Word :=
  Word.ofNat ((List.range 32).foldl (fun n b => n + (f (32 * w + b)).toNat * 2 ^ b) 0)
/-- `n` DWORDs of such a map, from `a`. -/
def wrMap (a n : Nat) (f : Nat → Bool) (c : Chip) : Chip := forEach n (fun w c => wr32 (a + 4 * w) (mapWord w f) c) c
/-- Put the chip at a phase of the tick. -/
def atPhase (ph : Nat) (c : Chip) : Chip :=
  { c with phase := ph, before := if ph = c.phase then c.before else c.mem }

/-- A new tick begins at phase 0: no cycle of it has passed (R6). -/
def atTickStart (c : Chip) : Chip := { c with phase := 0, before := c.mem }

end Sys2Proof.Machine
end

