-- ==== Sys2Proof/Machine/Operands.lean ====
section
/-!
DEFINITION. Machine/Operands.lean: how the words of the tables are read: strands (R37), loop records (R101), averaging
descriptors (R58), recipe steps (R166) and the signals that a strand reads and produces (R42, R508).
-/
namespace Sys2Proof.Machine

open Sys2Proof

/-! ### Strands -/

/-- A strand word taken apart (R37). `rsv` is true if a reserved bit is set. -/
structure Strand where
  kind  : Nat
  late  : Bool
  dly   : Bool
  div   : Nat
  slot  : Nat
  unit  : Nat
  count : Nat
  rsv   : Bool
  deriving DecidableEq, Repr

/-- Strand `i` of bank `b`. -/
def strandOf (m : Tab Byte) (b i : Nat) : Strand :=
  let lo := mrd32 m (strandAddr b i)
  let hi := mrd32 m (strandAddr b i + 4)
  { kind := fld lo 3 0, late := wbit lo 4, dly := wbit lo 5, div := fld lo 10 8, slot := fld lo 18 12,
    unit := fld hi 15 0, count := fld hi 31 16,
    rsv := decide (fld lo 7 6 ≠ 0) || wbit lo 11 || decide (fld lo 31 19 ≠ 0) }

/-- The number of strands of a bank (R37). -/
def bankLen (m : Tab Byte) (b : Nat) : Nat := mF m (Reg.WEAVE_BANK0_LEN + 4 * b) 13 0

/-- Whether a strand is due in residue class `c`, or at a tick (R37, R42). -/
def strandDue (s : Strand) (c : Nat) : Bool := decide (c % 2 ^ s.div = s.slot)

/-! ### Loop records (R101) -/

def lrNPre (m : Tab Byte) (n : Nat) : Nat := mF m (loopRec n) 3 0
def lrNPost (m : Tab Byte) (n : Nat) : Nat := mF m (loopRec n) 7 4
def lrNFf (m : Tab Byte) (n : Nat) : Nat := mF m (loopRec n) 10 8
def lrFfSec (m : Tab Byte) (n j : Nat) : Bool := mB m (loopRec n) (12 + j)
def lrSlewEn (m : Tab Byte) (n : Nat) : Bool := mB m (loopRec n) 16
def lrDSrc (m : Tab Byte) (n : Nat) : Bool := mB m (loopRec n) 17
def lrEchoEn (m : Tab Byte) (n : Nat) : Bool := mB m (loopRec n) 18
def lrEchoTgt (m : Tab Byte) (n : Nat) : Bool := mB m (loopRec n) 19
def lrOutKind (m : Tab Byte) (n : Nat) : Nat := mF m (loopRec n) 21 20
def lrSosBase (m : Tab Byte) (n : Nat) : Nat := mF m (loopRec n + 0x04) 12 0
def lrPvSig (m : Tab Byte) (n : Nat) : Nat := mF m (loopRec n + 0x08) 13 0
def lrSpSig (m : Tab Byte) (n : Nat) : Nat := mF m (loopRec n + 0x0C) 13 0
def lrSpSel (m : Tab Byte) (n : Nat) : Bool := mB m (loopRec n + 0x0C) 14
def lrCasLoop (m : Tab Byte) (n : Nat) : Nat := mF m (loopRec n + 0x0C) 26 16
def lrEcho (m : Tab Byte) (n : Nat) : Nat := mF m (loopRec n + 0x10) 6 0
def lrOutPort (m : Tab Byte) (n : Nat) : Nat := mF m (loopRec n + 0x10) 12 8
/-- FF_SIG_j (R101). -/
def lrFfSig (m : Tab Byte) (n j : Nat) : Nat :=
  mF m (loopRec n + 0x14 + 4 * (j / 2)) (13 + 16 * (j % 2)) (16 * (j % 2))
/-- A signed 32-bit field of the record at offset `o`. -/
def lrI (m : Tab Byte) (n o : Nat) : Int := (mrd32 m (loopRec n + o)).toInt
def lrModeReq (m : Tab Byte) (n : Nat) : Nat := mF m (loopRec n + 0xC0) 2 0
def lrHandover (m : Tab Byte) (n : Nat) : Nat := mF m (loopRec n + 0xC0) 5 4
def lrTHandover (m : Tab Byte) (n : Nat) : Nat := mF m (loopRec n + 0xC4) 15 0
def lrAgeMax (m : Tab Byte) (n : Nat) : Nat := mF m (loopRec n + 0xC8) 7 0
def lrFrozenN (m : Tab Byte) (n : Nat) : Nat := mF m (loopRec n + 0xC8) 15 8
def lrAction (m : Tab Byte) (n : Nat) : Nat := mF m (loopRec n + 0xC8) 17 16
def lrAutoRec (m : Tab Byte) (n : Nat) : Bool := mB m (loopRec n + 0xC8) 18
def lrRecoverM (m : Tab Byte) (n : Nat) : Nat := mF m (loopRec n + 0xC8) 31 24
def lrAltSig (m : Tab Byte) (n : Nat) : Nat := mF m (loopRec n + 0xCC) 13 0

/-- The feed-forward terms below NFF that pass through a section. -/
def lrFfSections (m : Tab Byte) (n : Nat) : Nat :=
  ((List.range (min 4 (lrNFf m n))).filter (fun j => lrFfSec m n j)).length

/-- The sections of a loop's chain (R106, reason 0b0001). -/
def lrSections (m : Tab Byte) (n : Nat) : Nat := lrNPre m n + lrNPost m n + lrFfSections m n

/-- The mode a code names; 0b111 is reserved and refused at a COMMIT (R101, R106). -/
def modeOf (k : Nat) : Mode :=
  match k with
  | 1 => .manual | 2 => .auto | 3 => .cascade | 4 => .track | 5 => .hold | 6 => .fallback | _ => .off

/-- The code of a mode (R101). -/
def modeCode : Mode → Nat
  | .off => 0 | .manual => 1 | .auto => 2 | .cascade => 3 | .track => 4 | .hold => 5 | .fallback => 6

/-- The computed cost of a loop's record (R38, R72, R87). -/
def loopCost (m : Tab Byte) (n : Nat) : Nat :=
  3 + (if lrSlewEn m n then 4 else 0) + 4 * lrSections m n + 10 + 2 * lrNFf m n + 4

/-- The computed cost of an echo controller (R38, R142). -/
def echoCost (m : Tab Byte) (n : Nat) : Nat := if mB m (echoDesc n + 8) 16 then 16 else 12

/-! ### Averaging descriptors (R58) -/

structure AvgDesc where
  src   : Nat
  dst   : Nat
  count : Nat
  log2n : Nat
  deriving DecidableEq, Repr

def avgOf (m : Tab Byte) (b j : Nat) : AvgDesc :=
  let w0 := mrd32 m (avgDesc b j)
  let w1 := mrd32 m (avgDesc b j + 4)
  { src := fld w0 13 0, dst := fld w0 29 16, count := fld w1 8 0, log2n := fld w1 18 16 }

/-! ### What strands cost, read and produce -/

/-- The runs of a capture set's selection, up to the first with COUNT = 0 (R321): SIG and COUNT. -/
def capRuns (m : Tab Byte) (s : Nat) : List (Nat × Nat) :=
  ((List.range 4).map (fun r =>
    (mF m (Reg.CAPTURE_RUNS + 32 * s + 8 * r) 13 0, mF m (Reg.CAPTURE_RUNS + 32 * s + 8 * r) 30 16))).takeWhile
    (fun x => decide (x.2 ≠ 0))

/-- The number of signals that a capture set selects (R72). -/
def capSelected (m : Tab Byte) (s : Nat) : Nat := ((capRuns m s).map (·.2)).sum

/-- The charged cost of a strand of bank `b` (R38). -/
def chargedCost (m : Tab Byte) (b : Nat) (st : Strand) : Nat :=
  match st.kind with
  | 1 => if st.count ≠ 0 then st.count else loopCost m st.unit
  | 2 => if st.count ≠ 0 then st.count else echoCost m st.unit
  | 3 => (avgOf m b st.unit).count
  | 4 => capSelected m st.unit
  | 5 => 3 * st.count
  | 7 => st.count
  | _ => 0

/-- A run of signals `first, first + 1, …`. -/
def sigRange (first n : Nat) : List Nat := (List.range n).map (· + first)

/-- The signals that a strand of bank `b` writes to the board (R14, R39). -/
def strandOuts (m : Tab Byte) (b : Nat) (st : Strand) : List Nat :=
  match st.kind with
  | 1 => [Sig.loopOut st.unit, Sig.loopSp st.unit]
  | 2 => [Sig.echo st.unit]
  | 3 => sigRange (avgOf m b st.unit).dst (avgOf m b st.unit).count
  | 5 => sigRange (Sig.binMag st.unit) (2 * st.count)
  | _ => []

/-- The strands of a bank with their indices, in bank order. -/
def bankStrands (m : Tab Byte) (b : Nat) : List (Nat × Strand) :=
  (List.range (bankLen m b)).map (fun i => (i, strandOf m b i))

/-- The strands due at a tick or class, in bank order. -/
def dueStrands (m : Tab Byte) (b tick : Nat) : List (Nat × Strand) :=
  (bankStrands m b).filter (fun p => strandDue p.2 tick)

/-- The loops whose effective set-point a LOOP strand reads as TRACK sources (R508, last item). -/
def trackSources (m : Tab Byte) (due : List (Nat × Strand)) (i : Nat) (st : Strand) : List Nat :=
  ((due.filter (fun p => decide (p.2.kind = 1) && decide (p.2.unit ≠ st.unit)
      && decide (lrCasLoop m p.2.unit = st.unit)
      && ((decide (p.1 < i) && !p.2.late) || st.dly))).map (fun p => p.2.unit))

/-- The reads of a strand due among `due` (R42 item 4, R508). -/
def strandReads (m : Tab Byte) (b : Nat) (due : List (Nat × Strand)) (i : Nat) (st : Strand) : List Nat :=
  match st.kind with
  | 1 =>
    let n := st.unit
    [lrPvSig m n]
      ++ (if lrSpSel m n then [lrSpSig m n] else [])
      ++ (if lrCasLoop m n ≠ n then [Sig.loopOut (lrCasLoop m n)] else [])
      ++ (if lrAction m n = 2 then [lrAltSig m n] else [])
      ++ (List.range (min 4 (lrNFf m n))).map (fun j => lrFfSig m n j)
      ++ (trackSources m due i st).map Sig.loopSp
  | 2 => if mB m (echoDesc st.unit + 4) 31 then [mF m (echoDesc st.unit + 8) 13 0] else []
  | 3 => sigRange (avgOf m b st.unit).src (avgOf m b st.unit).count
  | 4 => (capRuns m st.unit).flatMap (fun r => sigRange r.1 r.2)
  | 5 => (List.range st.count).map (fun k => mF m (Reg.CAPTURE_WATCH + 8 * (st.unit + k)) 13 0)
  | _ => []

/-! ### Recipe steps (R166) -/

/-- A step's opcode and operands. -/
def stepOf (w0 w1 w2 w3 : Word) : Nat × StepWord :=
  (fld w0 7 0, { tag := fld w0 11 8, tagEn := wbit w0 12, realignOk := wbit w0 13, quiet := wbit w0 14,
                 rsv15 := wbit w0 15, a := fld w0 31 16, w1 := w1, w2 := w2, w3 := w3 })

/-- Step `n` of recipe memory. -/
def recipeStep (m : Tab Byte) (n : Nat) : Nat × StepWord :=
  stepOf (mrd32 m (stepAddr n)) (mrd32 m (stepAddr n + 4)) (mrd32 m (stepAddr n + 8)) (mrd32 m (stepAddr n + 12))

end Sys2Proof.Machine
end

