-- ==== Sys2Proof/Machine/Weave.lean ====
section
/-!
DEFINITION. Machine/Weave.lean: the weave sequencer: dispatch (R41), the weave check (R42–R44), averaging blocks (R39, R40), the
completion checks and overruns (R48–R50), the bank swap (R46, R47) and lane stops (R73).
-/
namespace Sys2Proof.Machine

open Sys2Proof

/-! ### Windows and capacities (R35, R42, R77) -/

/-- The number of active lanes L (R76). -/
def laneCount (c : Chip) : Nat := c.laneMap.length

/-- The lane-cycle of the tick at which a window starts (R35). -/
def windowStart (m : Tab Byte) (late : Bool) : Nat :=
  if late then 4 * mF m Reg.TICK_P_OUT_PHASE 14 0 + 200 else 4000

/-- The lane-cycle at which a window ends for the check; the late window is shortened by ⌈N / 2000⌉ cycles (R42 item 6). -/
def windowEnd (m : Tab Byte) (late : Bool) : Nat :=
  let n := mF m Reg.TICK_TICK_PERIOD 14 0
  if late then 4 * (n - 250 - (n + 1999) / 2000) else 4 * mF m Reg.TICK_P_OUT_PHASE 14 0 - 500

/-- The capacity of a window with `l` lanes, in lane-cycles (R35). -/
def windowCap (m : Tab Byte) (late : Bool) (l : Nat) : Nat :=
  let n := mF m Reg.TICK_TICK_PERIOD 14 0
  let p := mF m Reg.TICK_P_OUT_PHASE 14 0
  l * (if late then 4 * n - 1200 - 4 * p else 4 * p - 4500)

/-- The lanes whose capacity the check and the capacity registers use (R77). -/
def capLanes (l : Nat) : Nat := if 15 ≤ l then 16 else l

/-! ### Dispatch (R41) -/

/-- The lane with the earliest clock, the lowest number winning a tie. -/
def earliestLane : List (Nat × Nat) → Option (Nat × Nat)
  | [] => none
  | (a, t) :: rest =>
    match earliestLane rest with
    | none => some (a, t)
    | some (b, u) => if t ≤ u then some (a, t) else some (b, u)

/-- The clock of a lane replaced. -/
def setLaneClock (free : List (Nat × Nat)) (lane t : Nat) : List (Nat × Nat) :=
  free.map (fun p => if p.1 = lane then (lane, t) else p)

/-- The latest done_time among the strands already placed whose output the strand reads. -/
def producersDone (m : Tab Byte) (b : Nat) (reads : List Nat) (placed : List (Nat × Nat)) : Nat :=
  placed.foldl (fun t p => if (strandOuts m b (strandOf m b p.1)).any (fun s => reads.contains s) then max t p.2 else t) 0

/-- The lane of a strand that no active lane is left to take, and a lane-cycle that no tick reaches: such a strand is found incomplete at its
window's check (R48, R73). -/
def noLane : Nat := 16
def neverCycle : Nat := 2 ^ 20

/-- The dispatch of `todo` in bank order (R41): `free` the lanes' clocks, `prev` the start of the strand dispatched before,
`placed` the strands already dispatched in the tick with their done_times. -/
def dispatchFrom (m : Tab Byte) (b : Nat) (due : List (Nat × Strand)) :
    List (Nat × Strand) → List (Nat × Nat) → Nat → List (Nat × Nat) → List Flight
  | [], _, _, _ => []
  | (i, st) :: rest, free, prev, placed =>
    match earliestLane free with
    | none => { index := i, lane := noLane, start := neverCycle, done := neverCycle } :: dispatchFrom m b due rest free prev placed
    | some (lane, clock) =>
      let start := max (max clock prev) (producersDone m b (strandReads m b due i st) placed)
      let done := start + chargedCost m b st
      { index := i, lane := lane, start := start, done := done } :: dispatchFrom m b due rest (setLaneClock free lane done) start (placed ++ [(i, done)])

/-- The dispatch of one window with the lanes of `lanes`, the early window's strands being placed already in the late one. -/
def dispatchWindow (m : Tab Byte) (b tick : Nat) (late : Bool) (lanes : List Nat) (placed : List (Nat × Nat)) : List Flight :=
  let due := dueStrands m b tick
  dispatchFrom m b due (due.filter (fun p => p.2.late == late))
    (lanes.map (fun l => (l, windowStart m late))) (windowStart m late) placed

/-- The state of a bank. -/
def bankStateOf (c : Chip) (b : Nat) : BankState := if b = 0 then c.bank0 else c.bank1

/-- Whether the sequencer walks the active bank: it reads PASS, or it lost PASS only through a change of L (R53). -/
def bankWalked (c : Chip) : Bool := decide (bankStateOf c c.bankActive = .pass) || c.walkAnyway

def setBankState (b : Nat) (s : BankState) (c : Chip) : Chip :=
  if b = 0 then { c with bank0 := s } else { c with bank1 := s }

/-- A strand dispatch at the start of a window (R41). -/
def strandDispatch (late : Bool) (c : Chip) : Chip :=
  let c := atPhase (windowStart c.mem late / 4) c
  if bankWalked c && decide (c.dev ≠ .heldRestart) then
    let lanes := (List.range (laneCount c)).filter (fun a => !c.lanesDown.contains a)
    { c with sched := c.sched ++ dispatchWindow c.mem c.bankActive c.tick late lanes c.doneStr }
  else c

/-! ### The weave check (R42) -/

/-- A breach found by the check: the code of Table 12, the strand, the class and the window. -/
structure Breach where
  reason : Nat
  index  : Nat
  cls    : Nat
  late   : Bool
  deriving DecidableEq, Repr

/-- Item 1 of R42 for one strand: BAD_FIELD 0x07 or COST_SHORT 0x08. -/
def fieldBreach (m : Tab Byte) (b : Nat) (st : Strand) : Option Nat :=
  let a := avgOf m b st.unit
  let echoLen := mF m (echoDesc st.unit) 31 17
  let common := st.rsv || decide (2 ^ st.div ≤ st.slot)
  let bad : Bool :=
    match st.kind with
    | 0 => decide (st.unit ≠ 0) || decide (st.count ≠ 0)
    | 1 => st.late || decide (2048 ≤ st.unit)
    | 2 => st.late || decide (128 ≤ st.unit) || decide (echoLen = 0)
    | 3 => decide (64 ≤ st.unit) || decide (st.count ≠ 0) || decide (st.div ≠ 0) || decide (a.count = 0)
        || decide (256 < a.count) || decide (16384 < a.src + a.count) || decide (a.dst < 0x2000)
        || decide (0x4000 < a.dst + a.count)
    | 4 => !st.late || decide (16 ≤ st.unit) || decide (st.count ≠ 0)
    | 5 => !st.late || decide (st.count = 0) || decide (256 < st.unit + st.count)
    | 6 => st.late || decide (8 ≤ st.unit) || decide (st.count ≠ 0)
    | 7 => !st.late || decide (st.unit ≠ 0) || decide (st.count = 0) || decide (4096 < st.count)
    | _ => true
  if common || bad then some 0x07
  else if decide (st.count ≠ 0)
      && ((decide (st.kind = 1) && decide (st.count < loopCost m st.unit))
        || (decide (st.kind = 2) && decide (st.count < echoCost m st.unit))) then some 0x08
  else none

/-- The units a strand names, as (kind, unit) pairs; a WATCH strand names each of its bins. NOP and IST strands, whose UNIT is always 0, name
none (DESIGN CHOICE: R42 item 2 does not say whether two IST strands name one unit twice; log entry 62). -/
def unitsNamed (st : Strand) : List (Nat × Nat) :=
  match st.kind with
  | 0 | 7 => []
  | 5 => (List.range st.count).map (fun k => (5, st.unit + k))
  | k => [(k, st.unit)]

/-- The first strand of window `late` that repeats a unit of an earlier due strand (R42 item 2). -/
def unitRepeat (late : Bool) : List (Nat × Strand) → List (Nat × Nat) → Option Nat
  | [], _ => none
  | (i, st) :: rest, seen =>
    if st.late == late && (unitsNamed st).any (fun u => seen.contains u) then some i
    else unitRepeat late rest (seen ++ unitsNamed st)

/-- The loop attached to an echo controller: the one whose record has ECHO_EN and names it (R139). -/
def attachedLoop (m : Tab Byte) (n : Nat) : Option Nat :=
  (List.range 2048).find? (fun l => lrEchoEn m l && decide (lrEcho m l = n))

/-- An ECHO strand that does not have its loop's DIV and SLOT or does not precede it (R42 item 2): the later of the two. -/
def echoOrderBreach (m : Tab Byte) (all due : List (Nat × Strand)) : Option Nat :=
  due.findSome? (fun p =>
    if p.2.kind = 2 then
      (attachedLoop m p.2.unit).bind (fun l =>
        let strands := all.filter (fun q => decide (q.2.kind = 1) && decide (q.2.unit = l))
        match strands.find? (fun q => !(decide (q.2.div = p.2.div) && decide (q.2.slot = p.2.slot) && decide (p.1 < q.1))) with
        | some q => some (max p.1 q.1)
        | none => none)
    else none)

/-- Whether the inbound maps of Wirid port `p` place a word at signal `s`: IN_SIG and some head's IN_OFF and IN_LEN (R18, R304). -/
def inboundAt (m : Tab Byte) (p s : Nat) : Bool :=
  let sig := mF m (0xC080 + 32 * p + 0x10) 13 0
  mB m (0xC080 + 32 * p) 0 && decide (sig ≤ s) && (List.range 16).any (fun k =>
    let a := Reg.WLINK_HEAD_MAP + 128 * p + 8 * k + 4
    decide (sig + mF m a 10 0 ≤ s) && decide (s < sig + mF m a 10 0 + mF m a 26 16))

/-- The signals of the assignable region that fixed hardware producers place: Wirid inbound words and subscribe groups (R18). -/
def hwProduced (m : Tab Byte) (s : Nat) : Bool :=
  (List.range 8).any (fun p => inboundAt m p s)
    || (List.range 16).any (fun h => mB m (0xF200 + 32 * h) 0
      && decide (mF m (0xF200 + 32 * h + 0x10) 13 0 ≤ s)
      && decide (s < mF m (0xF200 + 32 * h + 0x10) 13 0 + mF m (0xF200 + 32 * h + 0x10) 24 16))

/-- The first strand of window `late` that writes a signal an earlier due strand or fixed hardware writes (R42 item 3). -/
def producerConflict (m : Tab Byte) (b : Nat) (late : Bool) : List (Nat × Strand) → List Nat → Option Nat
  | [], _ => none
  | (i, st) :: rest, seen =>
    let outs := strandOuts m b st
    if st.late == late && outs.any (fun s => seen.contains s || hwProduced m s) then some i
    else producerConflict m b late rest (seen ++ outs)

/-- The reads of strand `p` of signals produced after it in the same class: by a later strand of its window, by a late strand where `p` is
early, or by the profile pass, which comes after the early window (R42 item 4, R201). -/
def lateReads (m : Tab Byte) (b : Nat) (due : List (Nat × Strand)) (p : Nat × Strand) : List Nat :=
  let after := due.filter (fun q => (q.2.late == p.2.late && decide (p.1 < q.1)) || (q.2.late && !p.2.late))
  let outs := after.flatMap (fun q => strandOuts m b q.2)
  (strandReads m b due p.1 p.2).filter (fun s => outs.contains s || (!p.2.late && decide (0x1200 ≤ s) && decide (s < 0x1380)))

/-- The first strand of window `late` with an undeclared read of a later producer (R42 item 4). -/
def dependencyBreach (m : Tab Byte) (b : Nat) (late : Bool) (due : List (Nat × Strand)) : Option Nat :=
  (due.find? (fun p => p.2.late == late && !p.2.dly && decide (lateReads m b due p ≠ []))).map (·.1)

/-- The charged cost of a window of a class. -/
def windowDemand (m : Tab Byte) (b : Nat) (late : Bool) (due : List (Nat × Strand)) : Nat :=
  ((due.filter (fun p => p.2.late == late)).map (fun p => chargedCost m b p.2)).sum

/-- The strand whose cost first carries the running sum past `limit` (R42 item 5). -/
def pastLimit (m : Tab Byte) (b limit : Nat) : List (Nat × Strand) → Nat → Nat
  | [], _ => 0
  | (i, st) :: rest, sum =>
    if limit < sum + chargedCost m b st then i else pastLimit m b limit rest (sum + chargedCost m b st)

/-- The first strand, in bank order, not complete by the end of its window with `l` lanes (R42 item 6). -/
def scheduleBreach (m : Tab Byte) (b tick : Nat) (late : Bool) (l : Nat) : Option Nat :=
  let early := if late then dispatchWindow m b tick false (List.range l) [] else []
  ((dispatchWindow m b tick late (List.range l) (early.map (fun f => (f.index, f.done)))).find?
    (fun f => decide (windowEnd m late < f.done))).map (·.index)

/-- The output runs of port `p` up to the first with COUNT = 0 (R304): SIG, VALVE and COUNT. -/
def outRuns (m : Tab Byte) (p : Nat) : List (Nat × Bool × Nat) :=
  ((List.range 16).map (fun r =>
    let w := mrd32 m (Reg.WLINK_OUT_RUNS + 64 * p + 4 * r)
    (fld w 13 0, wbit w 14, fld w 26 16))).takeWhile (fun x => decide (x.2.2 ≠ 0))

/-- The outbound words of a Wirid port that come from the board (R304). -/
def portOutSigs (m : Tab Byte) (p : Nat) : List Nat := (outRuns m p).flatMap (fun x => if x.2.1 then [] else sigRange x.1 x.2.2)

/-- Whether a port has outbound words configured. -/
def portHasOut (m : Tab Byte) (p : Nat) : Bool := decide (outRuns m p ≠ [])

/-- The breach of item 7 of R42 in a class, if any: the port's WL_XFER strand, the first producer after it, or 0 where the bank has no such
strand. -/
def xferBreach (m : Tab Byte) (b : Nat) (all due : List (Nat × Strand)) : Option Nat :=
  (List.range 8).findSome? (fun p =>
    if portHasOut m p then
      let mine := all.filter (fun q => decide (q.2.kind = 6) && decide (q.2.unit = p))
      match mine.find? (fun q => decide (q.2.div = 0)) with
      | none => some ((mine.map (·.1)).headD 0)
      | some q =>
        (due.find? (fun r => (decide (q.1 < r.1) || r.2.late)
            && (strandOuts m b r.2).any (fun s => (portOutSigs m p).contains s))).map (·.1)
    else none)

/-- The first breach of one window of one class, the items taken in order (R42). -/
def windowBreach (m : Tab Byte) (b l cls : Nat) (late : Bool) : Option Breach :=
  let all := bankStrands m b
  let due := dueStrands m b cls
  let mk (r i : Nat) : Option Breach := some ⟨r, i, cls, late⟩
  match (all.filter (fun p => p.2.late == late)).findSome? (fun p => (fieldBreach m b p.2).map (fun r => (r, p.1))) with
  | some (r, i) => mk r i
  | none =>
  match unitRepeat late due [] with
  | some i => mk 0x09 i
  | none =>
  match (if late then none else echoOrderBreach m all due) with
  | some i => mk 0x09 i
  | none =>
  match producerConflict m b late due [] with
  | some i => mk 0x06 i
  | none =>
  match dependencyBreach m b late due with
  | some i => mk 0x05 i
  | none =>
  let lim := 9 * windowCap m late (capLanes l) / 10
  if lim < windowDemand m b late due then
    mk (if late then 0x02 else 0x01) (pastLimit m b lim (due.filter (fun p => p.2.late == late)) 0)
  else
  match (scheduleBreach m b cls late (capLanes l)).or (scheduleBreach m b cls late (capLanes l - 1)) with
  | some i => mk (if late then 0x04 else 0x03) i
  | none =>
  match (if late then none else xferBreach m b all due) with
  | some i => mk 0x0A i
  | none => none

/-- The first breach of a bank, classes in order from 0, the early window before the late one (R42). -/
def bankBreach (m : Tab Byte) (b l : Nat) : Option Breach :=
  (List.range 128).findSome? (fun cls => (windowBreach m b l cls false).or (windowBreach m b l cls true))

/-- The highest demand of a window over all classes, and the first class that has it (R57). -/
def peakDemand (m : Tab Byte) (b : Nat) (late : Bool) : Nat × Nat :=
  (List.range 128).foldl (fun best cls =>
    let d := windowDemand m b late (dueStrands m b cls)
    if best.1 < d then (d, cls) else best) (0, 0)

/-- The code of a bank state (R57). -/
def bankStateCode : BankState → Nat
  | .unchecked => 0 | .running => 1 | .pass => 2 | .fail => 3

/-- CHECK_STAT as it reads (R57). -/
def showBanks (c : Chip) : Chip :=
  wrF Reg.WEAVE_CHECK_STAT 2 0 (bankStateCode c.bank0) (wrF Reg.WEAVE_CHECK_STAT 6 4 (bankStateCode c.bank1)
    (wrF Reg.WEAVE_BANK_CTL 0 0 c.bankActive c))

/-- A write of CHECK_CMD with START = 1 (R43). A check already running on the bank starts afresh; one running
on the other bank is aborted, and that bank reads UNCHECKED (DESIGN CHOICE: R43 does not say; log entry 62). -/
def checkStart (b : Nat) (c : Chip) : Chip :=
  let c := match c.check with
    | some k => if k.bank = b then c else setBankState k.bank .unchecked c
    | none => c
  showBanks (setBankState b .running { c with check := some ⟨b, c.mem⟩ })

/-- A bank returns to UNCHECKED: a write to it (R43), a change of the tick (R45) or of L (R77). A check running on it aborts. -/
def uncheckBank (b : Nat) (c : Chip) : Chip :=
  let c := match c.check with
    | some k => if k.bank = b then { c with check := none } else c
    | none => c
  showBanks (setBankState b .unchecked c)

/-- The end of the check (R43): the state, the result registers and CHECK_DONE. -/
def checkDone (b : Nat) (c : Chip) : Chip :=
  match c.check with
  | none => c
  | some k =>
    if k.bank ≠ b then c else
    let pe := peakDemand k.mem b false
    let pl := peakDemand k.mem b true
    let c := wr32 Reg.WEAVE_CHECK_EARLY (Word.ofNat pe.1) (wr32 Reg.WEAVE_CHECK_LATE (Word.ofNat pl.1)
      (wr32 Reg.WEAVE_CHECK_CLASS (Word.ofNat (pe.2 + 0x10000 * pl.2)) { c with check := none }))
    match bankBreach k.mem b (laneCount c) with
    | none =>
      let costs := (bankStrands k.mem b).foldl (fun t p =>
        tabPut (fun _ => 0) t (8192 * b + p.1)
          (if p.2.kind = 1 then loopCost k.mem p.2.unit else if p.2.kind = 2 then echoCost k.mem p.2.unit else 0)) c.costAt
      let c := showBanks (setBankState b .pass { c with costAt := costs })
      let c := wrF Reg.WEAVE_CHECK_STAT 15 8 0 (wr32 Reg.WEAVE_CHECK_FAIL 0 c)
      raiseEv Event.WEAVE_CHECK_DONE b [b, 2, 0, 0] c
    | some x =>
      let word := x.index + 0x10000 * x.cls + 0x800000 * x.late.toNat
      let c := showBanks (setBankState b .fail c)
      let c := wrF Reg.WEAVE_CHECK_STAT 15 8 x.reason (wrB Reg.WEAVE_CHECK_STAT 16 (decide (b = 1)) c)
      let c := wr32 Reg.WEAVE_CHECK_FAIL (Word.ofNat word) c
      raiseEv Event.WEAVE_CHECK_DONE b [b, 3, x.reason, word] c

/-! ### Checks of a COMMIT against a bank (R44) -/

/-- The strands whose computed cost the change from memory `m` to `m'` raises above their declared cost, or above that at check time (R44). -/
def costBreaches (m m' : Tab Byte) (costAt : Tab Nat) (b : Nat) : List Nat :=
  ((bankStrands m b).filter (fun p =>
    let cost (m : Tab Byte) : Nat := if p.2.kind = 1 then loopCost m p.2.unit else if p.2.kind = 2 then echoCost m p.2.unit else 0
    let lim := if p.2.count ≠ 0 then p.2.count else tabGet (fun _ => 0) costAt (8192 * b + p.1)
    decide (cost m < cost m') && decide (lim < cost m'))).map (·.1)

/-- The undeclared reads of later producers in any class of a bank, as strand and signal (R42 item 4). -/
def readBreaches (m : Tab Byte) (b : Nat) : List (Nat × Nat) :=
  ((List.range 128).flatMap (fun cls =>
    let due := dueStrands m b cls
    (due.filter (fun p => !p.2.dly)).flatMap (fun p => (lateReads m b due p).map (fun s => (p.1, s))))).eraseDups

/-- The breaches of R44 that the change from memory `m` to `m'` brings against bank `b`: the strand, and 0 for cost or 1 for a read added. -/
def structBreaches (m m' : Tab Byte) (costAt : Tab Nat) (b : Nat) : List (Nat × Nat) :=
  let before := readBreaches m b
  (costBreaches m m' costAt b).map (fun i => (i, 0))
    ++ (((readBreaches m' b).filter (fun x => !before.contains x)).map (fun x => (x.1, 1))).eraseDups

/-! ### Averaging blocks (R39, R40) -/

/-- The sums and the count of an averaging block clear (R40). -/
def avgClear (blk : Nat) (c : Chip) : Chip :=
  { c with
    avgSum := c.avgSum.filter (fun e => e.1 / 256 ≠ blk),
    avgBad := c.avgBad.filter (fun e => e.1 / 256 ≠ blk),
    avgCnt := tabDel c.avgCnt blk }

/-- Whether the tick is an output tick of an averaging block of the active bank (R39). -/
def avgOutput (blk : Nat) (c : Chip) : Bool :=
  let n := 2 ^ (avgOf c.mem c.bankActive blk).log2n
  decide (c.tick % n = n - 1)

/-- One run of an averaging block at lane-cycle `t`, released at `done`. -/
def avgRun (blk t done : Nat) (c : Chip) : Chip :=
  let a := avgOf c.mem c.bankActive blk
  let key (k : Nat) : Nat := 256 * blk + k
  let c := forEach a.count (fun k c =>
    let w := boardRd c t (a.src + k)
    { c with
      avgSum := tabPut (fun _ => 0) c.avgSum (key k) (tabGet (fun _ => 0) c.avgSum (key k) + w.val.toInt),
      avgBad := if w.valid then c.avgBad else tabPut (fun _ => false) c.avgBad (key k) true }) c
  let n := tabGet (fun _ => 0) c.avgCnt blk + 1
  let c := { c with avgCnt := tabPut (fun _ => 0) c.avgCnt blk n }
  if avgOutput blk c then
    avgClear blk (if n = 2 ^ a.log2n then
        forEach a.count (fun k c =>
          let v := store32 (tabGet (fun _ => 0) c.avgSum (key k) * (2 ^ 26 : Nat)) (26 + a.log2n)
          countBoardSat (a.dst + k) v.2
            (boardWrI done (a.dst + k) v.1 (!tabGet (fun _ => false) c.avgBad (key k)) c)) c
      else c)
  else c

/-- Every averaging sum and count clears (R40). -/
def clearAverages (c : Chip) : Chip := { c with avgSum := [], avgBad := [], avgCnt := [] }

/-! ### Overruns (R48–R50) -/

/-- A window's incomplete strands are abandoned; the first in bank order is reported and the tick is an overrun tick. An averaging block
abandoned on its output tick has no full window and clears (R40). -/
def abandon (late : Bool) (phase : Nat) (c : Chip) : Chip :=
  let isWin (f : Flight) : Bool := (strandOf c.mem c.bankActive f.index).late == late
  let left := c.sched.filter isWin
  match (left.map (·.index)).min? with
  | none => c
  | some i =>
    let c := { c with sched := c.sched.filter (fun f => !isWin f) }
    let c := forAll left (fun f c =>
      let st := strandOf c.mem c.bankActive f.index
      let c := if st.kind = 3 ∧ avgOutput st.unit c then avgClear st.unit c else c
      let e := if st.kind = 2 then some st.unit
        else if st.kind = 1 ∧ lrEchoEn c.mem st.unit then some (lrEcho c.mem st.unit) else none
      match e with
      | some n => c.setEcho n { c.echoOf n with aborted := true }
      | none => c) c
    if c.overrun then c else
    let c := wr32 Reg.WEAVE_OVERRUN_STAT (Word.ofNat (i + 0x2000 * late.toNat + 0x4000 * c.lastOver.toNat)) c
    let c := regInc Reg.WEAVE_OVERRUN_COUNT { c with overrun := true, earlyOver := !late }
    raiseVia Event.WEAVE_OVERRUN reqWeave 0 phase [i, late.toNat] c

/-- The early completion check at P_OUT − 0.5 µs (R48). -/
def earlyCheck (c : Chip) : Chip :=
  let c := atPhase (pOutPhase c - 125) c
  abandon false c.phase c

/-! ### Lane stops (R73) -/

/-- The active number of a physical lane. -/
def activeOf (c : Chip) (pl : Nat) : Option Nat := (List.range c.laneMap.length).find? (fun a => c.laneMap[a]? = some pl)

/-- The strand in flight on a physical lane at a lane-cycle: one that a stop in this same cycle has just moved there is not yet in flight. -/
def inFlight (c : Chip) (pl t : Nat) : Option Flight :=
  (activeOf c pl).bind (fun a => c.sched.find? (fun f =>
    decide (f.lane = a) && decide (f.start ≤ t) && decide (t < f.done) && (f.again.map (·.1) != some t)))

/-- A lane's stop is recorded and reported, and its retirement noted where it is due (R73, R74, R83). -/
def noteStop (pl cause t : Nat) (due : Bool) (c : Chip) : Chip :=
  let here := inFlight c pl t
  let stat := match here with
    | some f => pl + 0x20 * cause + 0x100 * f.index
    | none => pl + 0x20 * cause + 0x200000
  let c := wr32 Reg.ENGINE_STOP_STAT (Word.ofNat stat) (regInc Reg.ENGINE_LANE_ERR_COUNT c)
  let c := raiseEv Event.ENGINE_LANE_STOP pl [pl, (here.elim 0xFFFFFFFF (·.index)), cause] c
  if due ∧ ¬ c.laneDue.any (fun d => decide (d.1 = pl)) then
    { c with laneDue := c.laneDue ++ [(pl, cause, here.map (·.index))] } else c

/-- Active lanes stop at lane-cycle `t` (R73): their strands in flight, with those that other stops of the same cycle have moved, are dispatched
anew in order of the active numbers they were on, ahead of every strand not yet dispatched. -/
def redispatch (down : List Nat) (t : Nat) (c : Chip) : Chip :=
  let m := c.mem
  let b := c.bankActive
  let moved (f : Flight) : Bool := f.again.map (·.1) == some t
  let hit (f : Flight) : Bool := !moved f && down.contains f.lane && decide (f.start ≤ t)
  let from_ (f : Flight) : Nat := if moved f then (f.again.map (·.2)).getD 0 else f.lane
  let again := (List.range 16).flatMap (fun a => c.sched.filter (fun f => (moved f || hit f) && decide (from_ f = a)))
  let keep := c.sched.filter (fun f => !moved f && !hit f && decide (f.start ≤ t))
  let later := c.sched.filter (fun f => !moved f && !hit f && decide (t < f.start))
  let c := forAll (c.sched.filter hit) (fun _ c => regInc Reg.ENGINE_REDISPATCH_COUNT c)
    { c with lanesDown := c.lanesDown ++ down.filter (fun a => !c.lanesDown.contains a) }
  let lanes := (List.range c.laneMap.length).filter (fun x => !c.lanesDown.contains x)
  let clock (x : Nat) : Nat := keep.foldl (fun u f => if f.lane = x then max u f.done else u) t
  let todo := (again ++ later).map (fun f => (f.index, strandOf m b f.index))
  let placed := c.doneStr ++ keep.map (fun f => (f.index, f.done))
  let new := dispatchFrom m b (dueStrands m b c.tick) todo (lanes.map (fun x => (x, clock x))) t placed
  let mark (f : Flight) : Flight := { f with again := (again.find? (fun g => decide (g.index = f.index))).map (fun g => (t, from_ g)) }
  { c with sched := keep ++ new.map mark }

/-- Physical lanes fail at a phase and stop (R73); `due` says whether the stop retires them. -/
def laneStops (pls : List Nat) (cause phase : Nat) (due : Bool) (c : Chip) : Chip :=
  let c := forAll pls (fun pl c => noteStop pl cause (4 * phase) due c) (atPhase phase c)
  match pls.filterMap (activeOf c) with
  | [] => c
  | down => redispatch down (4 * phase) c

/-- A lane fails its residue or parity check at a phase and stops (R73). -/
def laneStop (pl cause phase : Nat) (due : Bool) (c : Chip) : Chip := laneStops [pl] cause phase due c

/-! ### Signals that lose their producer (R14) -/

/-- Signals with no producer any more read as zero, with the flag clear and age 255 (R14, R86, R119). -/
def dropSignals (gone : Nat → Bool) (c : Chip) : Chip :=
  { c with settled := c.settled.filter (fun e => !gone e.1), work := c.work.filter (fun e => !gone e.1),
           ages := c.ages.filter (fun e => !gone e.1) }

end Sys2Proof.Machine
end

