-- ==== Sys2Proof/Machine/Loop.lean ====
section
/-!
DEFINITION. Machine/Loop.lean: one run of a control loop (R85–R99), its modes, hand-over and supervision (R114–R126).
-/
namespace Sys2Proof.Machine

open Sys2Proof

/-- A Q4.28 word aligned to the Q26.54 accumulator (R86). -/
def align (w : Int) : Int := w * 0x4000000

/-- A store of R64 with S = 26 to a word that is not on the board, counted if it saturates (R67). -/
def st26 (acc : Int) (c : Chip) : Int × Chip := ((store32 acc 26).1, countSat (store32 acc 26).2 c)

/-- The exact sum of two signal words, stored under R64 (R86). -/
def sat32 (x : Int) (c : Chip) : Int × Chip := (satWord x, countSat (satHit x) c)

/-- A rate shifted left, saturating at 0x7FFF_FFFF (R90). -/
def shlSat (x : Int) (k : Nat) : Int := min (x * (2 ^ k : Nat)) sigMax

/-- The smaller of two rates that is not zero (R90). -/
def smallerNonzero (a b : Int) : Int := if a = 0 then b else if b = 0 then a else min a b

/-- The sign of an integer. -/
def sgn (x : Int) : Int := if x < 0 then -1 else if 0 < x then 1 else 0

/-- What one run of the slew limiter gives (R90): the change `v` and whether it stays short of the target. -/
def slewStep (sp v spr rise fall accLim : Int) (k : Nat) : Int × Bool :=
  let d := spr - sp
  let v0 := if accLim = 0 then d else
    let a := shlSat accLim (2 * k)
    if sgn v = sgn d ∧ v * v ≥ 2 * a * d.natAbs then v - sgn d * a else v + sgn d * a
  let v1 := if rise ≠ 0 ∧ v0 > rise then rise else v0
  let v2 := if fall ≠ 0 ∧ v1 < -fall then -fall else v1
  let v3 := if (d ≥ 0 ∧ v2 ≥ d) ∨ (d ≤ 0 ∧ v2 ≤ d) then d else v2
  (v3, decide (v3 ≠ d))

/-- One run of section `j` on `x` (R91, R92). -/
def section1 (j : Nat) (x : Int) (c : Chip) : Int × Chip :=
  let a := sosRec j
  if rdB c (a + 0x14) 0 then (x, c) else
  let s := c.sect j
  let y := store32 (rdI c a * x + s.s1) 26
  let n1 := store64 (rdI c (a + 4) * x - rdI c (a + 0x0C) * y.1 + s.s2)
  let n2 := store64 (rdI c (a + 8) * x - rdI c (a + 0x10) * y.1)
  (y.1, countSat y.2 (countSat n1.2 (countSat n2.2 (c.setSect j { s1 := n1.1, s2 := n2.1 }))))

/-- Sections `first … first + n − 1` in a chain (R86). -/
def sectionChain : Nat → Nat → Int → Chip → Int × Chip
  | 0, _, x, c => (x, c)
  | n + 1, first, x, c =>
    let r := section1 first x c
    sectionChain n (first + 1) r.1 r.2

/-- The output stage (R96): the stored output and the two flags. -/
def outputStage (w out up dn lo hi : Int) (k : Nat) : Int × Bool × Bool :=
  let o1 := if up ≠ 0 then min w (out + up * (2 ^ k : Nat)) else w
  let o2 := if dn ≠ 0 then max o1 (out - dn * (2 ^ k : Nat)) else o1
  let o := clampInt lo hi o2
  (o, decide (o < w), decide (w < o))

/-- The cause mask of supervision for one signal and the detector it leaves (R119). -/
def supervise (c : Chip) (n t sig : Nat) (pv out : Int) (fz : Frozen) : Nat × Frozen :=
  let m := c.mem
  let c0 := if !(boardRd c t sig).valid then 1
    else if pv < lrI m n 0x48 ∨ pv > lrI m n 0x4C then 2 else 0
  let c1 := if lrAgeMax m n ≠ 0 ∧ ageAt c t sig > lrAgeMax m n then c0 + 4 else c0
  if lrFrozenN m n ≠ 0 ∧ c1 = 0 then
    let f := if pv = fz.pv then { fz with n := min (fz.n + 1) 255 } else { pv := pv, n := 0, out := out }
    if f.n ≥ lrFrozenN m n ∧ ((out - f.out).natAbs : Int) > lrI m n 0xD0 then (8, f) else (0, f)
  else (c1, fz)

/-- The loops that an uncorrectable error in their record, or in the record of a section of their chain, forces (R357). -/
def memForced (c : Chip) : List Nat :=
  if c.badMem = [] then [] else
  (c.badMem.filter (fun e => decide (e.1 = 7))).map (·.2)
    ++ (tabKeys c.loops).filter (fun n => c.badMem.any (fun e => decide (e.1 = 8) && decide (lrSosBase c.mem n ≤ e.2)
      && decide (e.2 < lrSosBase c.mem n + lrSections c.mem n)))

/-- Whether a tripped guard forces loop `n` to OUT_SAFE (R131), or an error of its record does as a guard would (R357). -/
def guardForces (c : Chip) (n : Nat) : Bool :=
  (memForced c).contains n || c.tripped.any (fun e => e.2 && rdB c (guardRec e.1 + 0x10) 9
    && decide (rdF c (guardRec e.1 + 0x14) 10 0 ≤ n)
    && decide (n < rdF c (guardRec e.1 + 0x14) 10 0 + rdF c (guardRec e.1 + 0x14) 27 16))

/-- Whether loop `n` is forced to OUT_SAFE by a guard or by SAFE_IDLE (R134). -/
def loopForced (c : Chip) (n : Nat) : Bool := guardForces c n || decide (c.dev = .safeIdle)

/-- The tracking value of R116. -/
def trackValue (c : Chip) (n i t : Nat) (st : Strand) : Int :=
  let m := c.mem
  let due := dueStrands m c.bankActive c.tick
  if lrOutKind m n = 1 then (boardRd c t (Sig.lpCurrent (lrOutPort m n))).val.toInt
  else
    let reads := trackSources m due i st
    match (List.range 2048).find? (fun q => decide (q ≠ n) && decide (lrCasLoop m q = n)
        && decide (lrModeReq m q ≠ 0) && decide (lrModeReq m q ≠ 3)
        && (reads.contains q || !due.any (fun p => decide (p.2.kind = 1) && decide (p.2.unit = q)))) with
    | some q => (boardRd c t (Sig.loopSp q)).val.toInt
    | none => (c.loop n).out

/-- Raise FEEDBACK_LOST (R120). -/
def feedbackLost (n mask : Nat) (pv : Int) (c : Chip) : Chip :=
  raiseEv Event.LOOPCTL_FEEDBACK_LOST n [n, mask, pw pv, lrAction c.mem n] c

/-- Stage 2: the raw set-point before the clamp (R86, R88). `cas` selects CAS_LOOP. -/
def rawSetPoint (n t : Nat) (cas : Bool) (c : Chip) : Int × Chip :=
  let m := c.mem
  if cas then st26 (lrI m n 0x28 * (boardRd c t (Sig.loopOut (lrCasLoop m n))).val.toInt + align (lrI m n 0x2C)) c
  else if lrSpSel m n then st26 (lrI m n 0x28 * (boardRd c t (lrSpSig m n)).val.toInt + align (lrI m n 0x2C)) c
  else (lrI m n 0x20, c)

/-- The set-point word of loop `n`, stored to the board under R64 (R86, R114). -/
def storeSp (n done : Nat) (sp : Int) (c : Chip) : Chip :=
  countBoardSat (Sig.loopSp n) (satHit sp) (boardWrI done (Sig.loopSp n) (satWord sp) true c)

/-- Stages 2 and 3 and the set-point word: the effective set-point, whether the clamp bound and whether it slews. -/
def setPointStages (n k t done : Nat) (cas : Bool) (c : Chip) : Int × Bool × Bool × Chip :=
  let m := c.mem
  let r := rawSetPoint n t cas c
  let lim := decide (r.1 < lrI m n 0x50 ∨ r.1 > lrI m n 0x54)
  let spr := clampInt (lrI m n 0x50) (lrI m n 0x54) r.1
  let c := r.2
  let l := c.loop n
  let c := if lim ∧ ¬ l.spLim then raiseEv Event.LOOPCTL_SP_CLAMPED n [n, pw r.1, pw spr] c else c
  let c := if lim then regInc Reg.LOOPCTL_SP_CLAMP_COUNT c else c
  let l := if l.slewInit then { l with sp := spr, v := 0, slewInit := false } else l
  let sl := if lrSlewEn m n then
      slewStep l.sp l.v spr (shlSat (smallerNonzero (lrI m n 0x30) (lrI m n 0x24)) k)
        (shlSat (smallerNonzero (lrI m n 0x34) (lrI m n 0x24)) k) (lrI m n 0x38) k
    else (spr - l.sp, false)
  let sp := satWord (l.sp + sl.1)
  let c := c.setLoop n { l with sp := sp, v := if lrSlewEn m n then sl.1 else l.v, spLim := lim }
  (sp, lim, sl.2, storeSp n done (l.sp + sl.1) c)

/-- What the PID core gives before its integral part is known (R93): p, the stored derivative and dsrc. -/
def pidParts (n : Nat) (x pv : Int) (c : Chip) : Int × Int × Int × Chip :=
  let m := c.mem
  let l := c.loop n
  let dsrc := if lrDSrc m n then -pv else x
  let kd := lrI m n 0x68
  let da := lrI m n 0x6C
  let d := if l.first then st26 (da * l.d) c else st26 (da * l.d + kd * dsrc - kd * l.dsrc) c
  (lrI m n 0x60 * x, d.1, dsrc, d.2)

/-- The integrator's next value under conditional integration (R93, R94) and whether its clamp binds. -/
def integrate (n : Nat) (x : Int) (frozen : Bool) (satHi satLo : Bool) (c : Chip) : Int × Bool :=
  let m := c.mem
  let inc0 := lrI m n 0x64 * x
  let inc := if frozen ∨ (satHi ∧ inc0 > 0) ∨ (satLo ∧ inc0 < 0) then 0 else inc0
  let i1 := (c.loop n).i + inc
  let i := clampInt (align (lrI m n 0x70)) (align (lrI m n 0x74)) i1
  (i, decide (i ≠ i1))

/-- Feed-forward terms added to an accumulator (R86 stage 8): terms `j … NFF − 1`, sections from `f`. -/
def feedForward (n t : Nat) : List Nat → Nat → Int → Chip → Int × Chip
  | [], _, acc, c => (acc, c)
  | j :: rest, f, acc, c =>
    let s := (boardRd c t (lrFfSig c.mem n j)).val.toInt
    let kf := lrI c.mem n (0x80 + 4 * j)
    if lrFfSec c.mem n j then
      let r := section1 f s c
      feedForward n t rest (f + 1) (acc + kf * r.1) r.2
    else feedForward n t rest f (acc + kf * s) c

/-- The echo term where the loop's record adds it to the output (`sp` false) or to the set-point (R86); none where the mode or a force drops it
(R114, R146). -/
def echoAdd (m : Tab Byte) (n : Nat) (sp : Bool) (echo : Option Int) : Option Int :=
  if lrEchoEn m n ∧ lrEchoTgt m n = sp then echo else none

/-- The set-point with the echo term where the record adds it there (R86 stage 4). -/
def echoSp (n : Nat) (sp : Int) (echo : Option Int) (c : Chip) : Int × Chip :=
  match echoAdd c.mem n true echo with
  | some e => sat32 (sp + e) c
  | none => (sp, c)

/-- Stages 7 to 9 from the core's output: w, with the sections advanced (R86). `echo` is the term of the tick. -/
def postCore (n t : Nat) (u : Int) (echo : Option Int) (c : Chip) : Int × Chip :=
  let m := c.mem
  let y := sectionChain (lrNPost m n) (lrSosBase m n + lrNPre m n) u c
  let a := feedForward n t (List.range (min 4 (lrNFf m n))) (lrSosBase m n + lrNPre m n + lrNPost m n) (align y.1) y.2
  st26 (a.1 + align ((echoAdd m n false echo).getD 0)) a.2

/-- How the hand-over of R117 and R122 acts on this run. -/
inductive Handing where
  | none | bumpless | ramp | step
  deriving DecidableEq, Repr

/-- The port record of LPn (R286). -/
def portRec (n : Nat) : Nat := 0xAC00 + 32 * n
/-- CMD_SEL of a port. -/
def prSel (m : Tab Byte) (n : Nat) : Nat := mF m (portRec n) 3 2

/-- The loop that drives port `n` (R257): the lowest that names it and is not OFF, else the lowest that names it. -/
def portLoop (c : Chip) (n : Nat) : Option Nat :=
  let named := (listedRecords c.mem 0x00200000 256 2048).filter (fun k =>
    decide (lrOutKind c.mem k = 1) && decide (lrOutPort c.mem k = n))
  match (named.filter (fun k => decide ((c.loop k).mode ≠ .off))).min? with
  | some k => some k
  | none => named.min?

/-- What loop `n`'s destination reported in the previous tick (R94): only the loop that drives the port receives it. -/
def portReport (c : Chip) (n : Nat) : Nat :=
  let p := lrOutPort c.mem n
  if lrOutKind c.mem n = 1 ∧ prSel c.mem p = 0 ∧ portLoop c p = some n then tabGet (fun _ => 0) c.portRep p else 0

/-- The whole chain from the error on (stages 5 to 9): AUTO, CASCADE and ALT. `frozen` drops the integrator's increment;
with BUMPLESS the integrator takes the difference to `oPrev` and w is recomputed from it (R117). -/
def fullChain (n t : Nat) (e pv : Int) (frozen : Bool) (hand : Handing) (oPrev : Int) (echo : Option Int) (c : Chip) :
    Int × Bool × Chip :=
  let m := c.mem
  let x := sectionChain (lrNPre m n) (lrSosBase m n) e c
  let c := x.2
  let l := c.loop n
  let rep := portReport c n
  let i := integrate n x.1 frozen (l.satHi || bitOf rep 0) (l.satLo || bitOf rep 1) c
  let p := pidParts n x.1 pv c
  let c := p.2.2.2.setLoop n { l with i := i.1, d := p.2.1, dsrc := p.2.2.1, first := false }
  let u := st26 (p.1 + i.1 + align p.2.1) c
  let w := postCore n t u.1 echo u.2
  if hand = .bumpless then
    let l := c.loop n
    let i1 := l.i + align oPrev - align w.1
    let i2 := clampInt (align (lrI m n 0x70)) (align (lrI m n 0x74)) i1
    let c := c.setLoop n { l with i := i2 }
    let u := st26 (p.1 + i2 + align p.2.1) c
    let w := postCore n t u.1 echo u.2
    (w.1, i.2 || decide (i2 ≠ i1), w.2)
  else (w.1, i.2, w.2)

/-- The chain in TRACK (R116): the integrator is preloaded towards the tracking value and w is that value. -/
def trackChain (n i t : Nat) (st : Strand) (e pv : Int) (c : Chip) : Int × Bool × Chip :=
  let m := c.mem
  let tv := trackValue c n i t st
  let x := sectionChain (lrNPre m n) (lrSosBase m n) e c
  let c := x.2
  let p := pidParts n x.1 pv c
  let i1 := align tv - p.1 - align p.2.1
  let i2 := clampInt (align (lrI m n 0x70)) (align (lrI m n 0x74)) i1
  let c := p.2.2.2.setLoop n { c.loop n with i := i2, d := p.2.1, dsrc := p.2.2.1, first := false }
  let u := st26 (p.1 + i2 + align p.2.1) c
  (tv, decide (i2 ≠ i1), (postCore n t u.1 none u.2).2)

/-- The RAMP hand-over's first run (R117): the offset, its step and the value entering the output stage. -/
def rampStart (n k : Nat) (oPrev w : Int) (c : Chip) : Int × Chip :=
  let ho := sat32 (oPrev - w) c
  let num : Int := (ho.1.natAbs : Int) * (2 ^ k : Nat)
  let step := roundDiv num (lrTHandover c.mem n)
  let c := ho.2.setLoop n { ho.2.loop n with ho := ho.1, hstp := max 1 step, ramping := decide (ho.1 ≠ 0) }
  sat32 (w + ho.1) c

/-- A later run under RAMP (R117): the offset moves towards zero and is added. -/
def rampNext (n : Nat) (w : Int) (c : Chip) : Int × Chip :=
  let l := c.loop n
  let ho := if l.ho > 0 then max 0 (l.ho - l.hstp) else min 0 (l.ho + l.hstp)
  sat32 (w + ho) (c.setLoop n { l with ho := ho, ramping := decide (ho ≠ 0) })

/-- The hand-over of a value w that is not preloaded (R117): RAMP, or nothing. -/
def applyRamp (n k : Nat) (hand : Handing) (oPrev w : Int) (c : Chip) : Int × Chip :=
  if hand = .ramp then rampStart n k oPrev w c
  else if hand = .none ∧ (c.loop n).ramping then rampNext n w c
  else (w, c.setLoop n { c.loop n with ho := 0, ramping := false })

/-- Whether the loop's destination is short of command or retired (R94). -/
def destLimited (c : Chip) (n : Nat) : Bool := decide (portReport c n % 8 ≠ 0)

/-- The end of a run that has an output stage (R96, R97), or that a force overrides (R131). -/
def finishStage (n k done : Nat) (w : Int) (forced : Bool) (c : Chip) : Chip :=
  let m := c.mem
  let l := c.loop n
  let o := outputStage w l.out (lrI m n 0xA8) (lrI m n 0xAC) (lrI m n 0xA0) (lrI m n 0xA4) k
  let rose := (o.2.1 && !l.satHi) || (o.2.2 && !l.satLo)
  let out := if forced then lrI m n 0xB0 else o.1
  let c := c.setLoop n { l with out := out, pre := w, satHi := o.2.1, satLo := o.2.2, atSafe := forced }
  let c := if rose then raiseEv Event.LOOPCTL_OUT_LIMITED n [n, pw w] c else c
  let c := if o.2.1 ∨ o.2.2 then regInc Reg.LOOPCTL_LIMIT_COUNT c else c
  countBoardSat (Sig.loopOut n) (satHit out) (boardWrI done (Sig.loopOut n) (satWord out) true c)

/-- The end of a run without an output stage: the output is given (R114). -/
def finishPlain (n done : Nat) (out : Int) (safe : Bool) (c : Chip) : Chip :=
  let l := c.loop n
  let c := c.setLoop n { l with out := out, atSafe := safe, ho := 0, ramping := false }
  let c := if l.satHi ∨ l.satLo then regInc Reg.LOOPCTL_LIMIT_COUNT c else c
  countBoardSat (Sig.loopOut n) (satHit out) (boardWrI done (Sig.loopOut n) (satWord out) true c)

/-- Episode accounting of a run outside AUTO and CASCADE (R121): FEEDBACK_LOST once per episode. -/
def otherEpisode (n mask : Nat) (pv : Int) (c : Chip) : Chip :=
  let l := c.loop n
  if mask = 0 then c.setLoop n { l with lostFlag := false }
  else if l.lostFlag then c
  else feedbackLost n mask pv (c.setLoop n { l with lostFlag := true })

/-- Recovery and episode accounting of a run in FALLBACK (R124–R126). -/
def fallbackEpisode (n mask : Nat) (pv : Int) (c : Chip) : Chip :=
  let l := c.loop n
  let l := { l with fbRuns := min (l.fbRuns + 1) 0xFFFFFFFF, okRuns := if mask = 0 then l.okRuns + 1 else 0 }
  if l.episode then
    let need := max 1 (lrRecoverM c.mem n)
    let rec1 := if lrAutoRec c.mem n then decide (l.okRuns ≥ need) else l.recReq && decide (mask = 0)
    c.setLoop n { l with toRec := rec1, recReq := false }
  else if l.recReq then
    -- a write of AUTO or CASCADE to a loop in requested FALLBACK (R126): a loss run opens a supervised episode, of its own (R121)
    if mask = 0 then c.setLoop n { l with toRec := true, recReq := false, lostFlag := false }
    else feedbackLost n mask pv (c.setLoop n { l with episode := true, recReq := false, lostFlag := true, okRuns := 0 })
  else otherEpisode n mask pv (c.setLoop n l)

/-- A run under a FALLBACK action (R122, R123): a loss run, or a run in FALLBACK. `first` is the run that enters the
action; `e` and `pv` are those of PV_SIG. The FEEDBACK_LOST that ALT_SIG's failure raises again carries that signal's mask with bit 4 set, and
its pv (DESIGN CHOICE: R123 says only that bit 4 is set; log entry 63). -/
def actionRun (n k t done : Nat) (first : Bool) (sp e pv : Int) (forced : Bool) (hand : Handing) (oPrev : Int) (echo : Option Int) (c : Chip) :
    Bool × Int × Int × Chip :=
  let m := c.mem
  let l := c.loop n
  let held := clampInt (lrI m n 0xA0) (lrI m n 0xA4) l.out
  let hold (c : Chip) : Chip :=
    if forced then finishPlain n done (lrI m n 0xB0) true c else finishPlain n done held false c
  match lrAction m n with
  | 0 => (false, pv, e, hold c)
  | 1 => (false, pv, e, finishPlain n done (lrI m n 0xB0) true c)
  | 2 =>
    let pa := st26 (lrI m n 0x40 * (boardRd c t (lrAltSig m n)).val.toInt + align (lrI m n 0x44)) c
    let c := pa.2
    let fz0 : Frozen := if first then {} else l.fzAlt
    let s := supervise c n t (lrAltSig m n) pa.1 l.out fz0
    let wasHold := l.altHold && !first
    let l := { c.loop n with fzAlt := s.2, altHold := if l.episode || l.toFall then wasHold || decide (s.1 ≠ 0) else decide (s.1 ≠ 0) }
    let c := c.setLoop n l
    let c := if s.1 ≠ 0 ∧ ¬ wasHold then feedbackLost n (s.1 + 16) pa.1 c else c
    if l.altHold then (false, pv, e, hold c)
    else
      let sp1 := echoSp n sp echo c
      let ea := sat32 (sp1.1 - pa.1) sp1.2
      let pre : Handing := if first then .bumpless else hand
      let r := fullChain n t ea.1 pa.1 (first || forced) pre oPrev echo ea.2
      let w := applyRamp n k pre oPrev r.1 r.2.2
      (r.2.1, pa.1, ea.1, finishStage n k done w.1 forced w.2)
  | _ =>
    -- FF_ONLY: the integrator and the feed-forward terms; P and D are dropped
    let ff (c : Chip) : Int × Chip :=
      let a := feedForward n t (List.range (min 4 (lrNFf m n))) (lrSosBase m n + lrNPre m n + lrNPost m n) ((c.loop n).i) c
      st26 (a.1 + align ((echoAdd m n false echo).getD 0)) a.2
    let w0 := ff c
    if hand = .bumpless then
      let i2 := clampInt (align (lrI m n 0x70)) (align (lrI m n 0x74)) (l.i + align oPrev - align w0.1)
      let w1 := ff (c.setLoop n { l with i := i2 })
      let w2 := applyRamp n k hand oPrev w1.1 w1.2
      (false, pv, e, finishStage n k done w2.1 forced w2.2)
    else
      let w := applyRamp n k hand oPrev w0.1 w0.2
      (false, pv, e, finishStage n k done w.1 forced w.2)

/-- The hand-over that governs this run (R117, R118): none unless a mode change or a release from OUT_SAFE precedes it. -/
def handingOf (c : Chip) (n : Nat) (forced : Bool) : Handing :=
  let l := c.loop n
  if forced ∨ ¬ (l.changed ∨ l.atSafe) then .none
  else match lrHandover c.mem n with
    | 0 => .bumpless
    | 1 => if lrTHandover c.mem n = 0 then .step else .ramp
    | _ => .step

/-- One run of LOOPn by strand `i` with divisor exponent `k`, started at lane-cycle `t` and released at `done` (R85, R114). `term` is the echo
term computed in the tick, which a force drops (R146). -/
def loopRun (i : Nat) (st : Strand) (t done : Nat) (term : Int) (c : Chip) : Chip :=
  let n := st.unit
  let k := st.div
  let m := c.mem
  let l := c.loop n
  let forced := loopForced c n
  let c := atPhase (done / 4) c
  if l.mode = .off then
    let old := rd32 c (loopRec n + 0xE0)
    let c := storeSp n done l.sp c
    let c := finishPlain n done (lrI m n 0xB0) true c
    let sn : LoopSnap :=
      { pvOk := wbit old 4, iAtLimit := wbit old 7, spLim := wbit old 8, slewing := wbit old 9, destLim := destLimited c n,
        pv := rdI c (loopRec n + 0xE4), err := rdI c (loopRec n + 0xE8), i := l.i, d := l.d, pre := l.pre,
        satHi := l.satHi, satLo := l.satLo, tick := c.tick }
    c.setLoop n { c.loop n with snap := some sn }
  else
  let req := modeOf (lrModeReq m n)
  let cas := decide (l.mode = .cascade) || (decide (l.mode = .fallback) && decide (req = .cascade))
  let hand := handingOf c n forced
  let echo := if forced then none else some term
  let oPrev := if l.atSafe then lrI m n 0xB0 else l.out
  -- stage 1
  let pv := st26 (lrI m n 0x40 * (boardRd c t (lrPvSig m n)).val.toInt + align (lrI m n 0x44)) c
  let sup := supervise pv.2 n t (lrPvSig m n) pv.1 l.out l.fz
  let mask := sup.1
  let c := pv.2.setLoop n { pv.2.loop n with fz := sup.2, changed := l.changed && forced }
  -- stages 2 and 3
  let s := setPointStages n k t done cas c
  let sp := s.1
  let c := s.2.2.2
  -- stage 4, the echo term only where the mode adds it to the set-point
  let chainRuns := (decide (l.mode = .auto) || decide (l.mode = .cascade)) && decide (mask = 0)
  let spE := echoSp n sp (if chainRuns then echo else none) c
  let e := sat32 (spE.1 - pv.1) spE.2
  let c := e.2
  let r : Bool × Int × Int × Chip :=
    match l.mode with
    | .auto | .cascade =>
      if mask = 0 then
        let c := c.setLoop n { c.loop n with lostFlag := false }
        let f := fullChain n t e.1 pv.1 forced hand oPrev echo c
        let w := applyRamp n k hand oPrev f.1 f.2.2
        (f.2.1, pv.1, e.1, finishStage n k done w.1 forced w.2)
      else
        -- a loss run (R120)
        let c := c.setLoop n { c.loop n with toFall := true, lostFlag := true, fbRuns := 0, okRuns := 0, altHold := false }
        let c := feedbackLost n mask pv.1 c
        actionRun n k t done true sp e.1 pv.1 forced .step oPrev echo c
    | .manual =>
      let c := otherEpisode n mask pv.1 c
      let w := applyRamp n k hand oPrev (if hand = .bumpless then oPrev else lrI m n 0xB4) c
      (false, pv.1, e.1, finishStage n k done w.1 forced w.2)
    | .track =>
      let c := otherEpisode n mask pv.1 c
      let f := trackChain n i t st e.1 pv.1 c
      (f.2.1, pv.1, e.1, finishStage n k done f.1 forced (f.2.2.setLoop n { f.2.2.loop n with ho := 0, ramping := false }))
    | .hold =>
      let c := otherEpisode n mask pv.1 c
      let o := if forced then lrI m n 0xB0 else clampInt (lrI m n 0xA0) (lrI m n 0xA4) l.out
      (false, pv.1, e.1, finishPlain n done o forced c)
    | _ =>
      let c := fallbackEpisode n mask pv.1 c
      let first := (c.loop n).fbFirst
      let c := c.setLoop n { c.loop n with fbFirst := false }
      actionRun n k t done first sp e.1 pv.1 forced hand oPrev echo c
  let c := r.2.2.2
  let l := c.loop n
  let sn : LoopSnap :=
    { pvOk := decide (mask = 0), iAtLimit := r.1, spLim := s.2.1, slewing := s.2.2.1, destLim := destLimited c n,
      pv := r.2.1, err := r.2.2.1, i := l.i, d := l.d, pre := l.pre, satHi := l.satHi, satLo := l.satLo, tick := c.tick }
  c.setLoop n { l with snap := some sn }

/-- The STATUS block and the maps of LOOPCTL from the last completed run, at the rim (R102, R112). -/
def showLoop (n : Nat) (c : Chip) : Chip :=
  let l := c.loop n
  let a := loopRec n
  let c := wrF (a + 0xE0) 2 0 (modeCode l.mode) c
  match l.snap with
  | none => c
  | some s =>
    let bits := modeCode l.mode + 0x10 * s.pvOk.toNat + 0x20 * s.satHi.toNat + 0x40 * s.satLo.toNat + 0x80 * s.iAtLimit.toNat
      + 0x100 * s.spLim.toNat + 0x200 * s.slewing.toNat + 0x400 * s.destLim.toNat
    let c := wr32 (a + 0xE0) (Word.ofNat bits) c
    let c := wr32 (a + 0xE4) (Word.ofInt s.pv) (wr32 (a + 0xE8) (Word.ofInt s.err) c)
    let c := wr32 (a + 0xEC) (Word.ofInt (store32 s.i 26).1) (wr32 (a + 0xF0) (Word.ofInt s.d) c)
    let c := wr32 (a + 0xF4) (Word.ofInt s.pre) (wr32 (a + 0xF8) (Word.ofNat s.tick) c)
    let c := setMapBit Reg.LOOPCTL_LIMIT_MAP n (s.satHi || s.satLo) (setMapBit Reg.LOOPCTL_PVBAD_MAP n (!s.pvOk) c)
    c.setLoop n { l with snap := none }

end Sys2Proof.Machine
end

