-- ==== Sys2Proof/Machine/LoopTable.lean ====
section
/-!
DEFINITION. Machine/LoopTable.lean: what a COMMIT of loop and SOS records is checked for (R106) and what applying it does at the rim
(R95, R107, R115, R117, R124–R126).
-/
namespace Sys2Proof.Machine

open Sys2Proof

/-- A refusal: the reason code, the item and a further number for REFUSE_STAT. -/
structure Refused where
  reason : Nat
  item   : Nat
  extra  : Nat := 0
  deriving DecidableEq, Repr

/-- The refusal with the lowest reason code and, for that code, the lowest item (R510). -/
def worst (l : List Refused) : Option Refused :=
  l.foldl (fun b r => match b with
    | none => some r
    | some q => if r.reason < q.reason ∨ (r.reason = q.reason ∧ r.item < q.item) then some r else b) none

/-- The SOS records of a loop's chain. -/
def lrSosRange (m : Tab Byte) (n : Nat) : Nat × Nat := (lrSosBase m n, lrSosBase m n + lrSections m n)

/-- The loops whose requested mode is not OFF. -/
def liveLoops (m : Tab Byte) : List Nat :=
  (listedRecords m 0x00200000 256 2048).filter (fun n => decide (lrModeReq m n ≠ 0))

/-- The breaches of Table 4 of R106 by the loop records `written`, in the memory as it will stand. -/
def loopBreaches (m : Tab Byte) (written : List Nat) : List Refused :=
  let live := written.filter (fun n => decide (lrModeReq m n ≠ 0))
  let others := liveLoops m
  let sigs (n : Nat) : List Nat := [lrPvSig m n, lrSpSig m n, lrAltSig m n] ++ (List.range 4).map (lrFfSig m n)
  let pairs (bad : Nat → Nat → Option Nat) (reason : Nat) : List Refused :=
    live.flatMap (fun n => others.filterMap (fun q =>
      if q = n then none else (bad n q).map (fun x => ⟨reason, min n q, x⟩)))
  let neg (n : Nat) (o : Nat) : Bool := decide (lrI m n o < 0)
  (live.filter (fun n => decide (8 < lrSections m n) || decide (4 < lrNFf m n))).map (fun n => ⟨1, n, 0⟩)
  ++ (written.filter (fun n => decide (8192 < (lrSosRange m n).2))).map (fun n => ⟨2, n, lrSosBase m n⟩)
  ++ pairs (fun n q =>
      let a := lrSosRange m n
      let b := lrSosRange m q
      if max a.1 b.1 < min a.2 b.2 then some (max a.1 b.1 % 8192) else none) 3
  ++ (written.filter (fun n => (sigs n).any sigReserved)).map (fun n => ⟨4, n, 0⟩)
  ++ (written.filter (fun n => decide (lrModeReq m n = 3) && decide (lrCasLoop m n = n))).map (fun n => ⟨5, n, 0⟩)
  ++ (written.filter (fun n => decide (lrI m n 0x50 > lrI m n 0x54) || decide (lrI m n 0x48 > lrI m n 0x4C)
      || decide (lrI m n 0x70 > lrI m n 0x74) || decide (lrI m n 0xA0 > lrI m n 0xA4))).map (fun n => ⟨6, n, 0⟩)
  ++ (written.filter (fun n => neg n 0x6C || decide (lrI m n 0x6C ≥ 0x04000000) || neg n 0x30 || neg n 0x34
      || neg n 0x24 || neg n 0x38 || neg n 0xA8 || neg n 0xAC)).map (fun n => ⟨7, n, 0⟩)
  ++ pairs (fun n q => if lrEchoEn m n ∧ lrEchoEn m q ∧ lrEcho m n = lrEcho m q then some 0 else none) 8
  ++ pairs (fun n q => if lrOutKind m n = 1 ∧ lrOutKind m q = 1 ∧ lrOutPort m n = lrOutPort m q then some 0 else none) 9
  ++ (written.filter (fun n => decide (2 ≤ lrOutKind m n) || decide (lrModeReq m n = 7)
      || decide (lrHandover m n = 3))).map (fun n => ⟨10, n, 0⟩)

/-- Record a LOOP_REFUSED (R106, R112). -/
def refuseLoop (r : Refused) (c : Chip) : Chip :=
  wr32 Reg.LOOPCTL_REFUSE_STAT (Word.ofNat (r.item + 0x1000 * r.reason + 0x10000 * r.extra)) c

/-! ### Applying values at the rim -/

/-- Under BUMPLESS the device writes MAN_OUT at the rim before the first run in MANUAL after a change or a release (R117, R118). -/
def manualTakes (n : Nat) (oPrev : Int) (c : Chip) : Chip :=
  if (c.loop n).mode = .manual ∧ lrHandover c.mem n = 0 ∧ ¬ loopForced c n then wr32 (loopRec n + 0xB4) (Word.ofInt oPrev) c else c

/-- The mode in effect changes (R115): `first` is set and the hand-over of the next run is due (R117). After a loss under ALT its run has made
the hand-over (R122), and HOLD and SAFE have none. -/
def changeMode (n : Nat) (m : Mode) (cause : Nat) (c : Chip) : Chip :=
  let l := c.loop n
  let atSafe := l.atSafe || decide (l.mode = .off)
  let c := c.setLoop n { l with mode := m, first := true, ho := 0, ramping := false, atSafe := atSafe,
                                changed := decide (cause ≠ 1) || decide (lrAction c.mem n = 3), episode := decide (cause = 1),
                                lostFlag := if l.episode ∧ cause ≠ 1 then false else l.lostFlag, recReq := false, toRec := false, toFall := false,
                                altHold := if cause = 1 then l.altHold else false, okRuns := 0,
                                fbRuns := if m = .fallback then 0 else l.fbRuns,
                                fbFirst := decide (m = .fallback) && decide (cause ≠ 1) }
  let c := manualTakes n (if atSafe then lrI c.mem n 0xB0 else l.out) c
  raiseEv Event.LOOPCTL_MODE_CHANGED n [n, modeCode l.mode, modeCode m, cause] c

/-- A write of MODE_REQ applies to loop `n` (R115, R125, R126); the record holds it already. -/
def applyModeReq (n : Nat) (c : Chip) : Chip :=
  let l := c.loop n
  let r := modeOf (lrModeReq c.mem n)
  if l.mode = .fallback then
    match r with
    | .auto | .cascade => c.setLoop n { l with recReq := true }
    | .fallback => c.setLoop n { l with episode := false, recReq := false, toRec := false }
    | _ => changeMode n r 0 c
  else if r = l.mode then c
  else changeMode n r 0 c

/-- A loss run of the tick puts the loop in FALLBACK at its rim (R120). -/
def applyLoss (n : Nat) (c : Chip) : Chip :=
  if (c.loop n).toFall then changeMode n .fallback 1 c else c

/-- A recovery, or the end of requested FALLBACK, that a run of the tick made due (R124, R126). -/
def applyRecovery (n : Nat) (c : Chip) : Chip :=
  let l := c.loop n
  if l.toRec ∧ l.mode = .fallback then
    let r := modeOf (lrModeReq c.mem n)
    if r = .fallback then c.setLoop n { l with toRec := false }
    else if l.episode then
      changeMode n r 2 (raiseEv Event.LOOPCTL_FEEDBACK_RECOVERED n [n, l.fbRuns] c)
    else changeMode n r 0 c
  else c.setLoop n { l with toRec := false }

/-- The states of every section in the loop's chain become zero (R107). -/
def zeroSections (n : Nat) (c : Chip) : Chip :=
  forEach (lrSections c.mem n) (fun j c => c.setSect (lrSosBase c.mem n + j) {}) c

/-- CLR_STATE of a loop record (R107). -/
def clearLoopState (n : Nat) (c : Chip) : Chip :=
  let c := zeroSections n c
  c.setLoop n { c.loop n with i := 0, d := 0, v := 0, satHi := false, satLo := false, first := true, slewInit := true }

/-- CLR_STATE of an SOS record (R103). -/
def clearSection (j : Nat) (c : Chip) : Chip := c.setSect j {}

/-- The effects of a record change on loop `n`, from the memory `m` before it (R95, R107). -/
def loopRecordEffects (m : Tab Byte) (n : Nat) (c : Chip) : Chip :=
  let m' := c.mem
  let c := if lrSosBase m n ≠ lrSosBase m' n ∨ mF m (loopRec n) 10 0 ≠ mF m' (loopRec n) 10 0
      ∨ mF m (loopRec n) 15 12 ≠ mF m' (loopRec n) 15 12 then zeroSections n c else c
  let c := if lrI m n 0x40 ≠ lrI m' n 0x40 ∨ lrI m n 0x44 ≠ lrI m' n 0x44 ∨ lrDSrc m n ≠ lrDSrc m' n then
      c.setLoop n { c.loop n with first := true } else c
  wrF (loopRec n + 0xFC) 7 0 (loopCost m' n) c

/-- Release of loop `n` from OUT_SAFE by a guard reset or an entry to RUN: the next run hands over from OUT_SAFE (R118, R133). -/
def releaseLoop (n : Nat) (c : Chip) : Chip :=
  let l := c.loop n
  if l.mode = .off then c else manualTakes n (lrI c.mem n 0xB0) (c.setLoop n { l with atSafe := true })

/-- LOOP_COUNT and SOS_COUNT (R112). -/
def showLoopCounts (c : Chip) : Chip :=
  let live := c.loops.filter (fun e => decide (e.2.mode ≠ .off))
  wrF Reg.LOOPCTL_LOOP_COUNT 11 0 live.length
    (wrF Reg.LOOPCTL_SOS_COUNT 13 0
      (live.flatMap (fun e => (List.range (lrSections c.mem e.1)).map (· + lrSosBase c.mem e.1))).eraseDups.length c)

end Sys2Proof.Machine
end

