-- ==== Sys2Proof/Machine/Guard.lean ====
section
/-!
DEFINITION. Machine/Guard.lean: terms, guards, their evaluation and actions (R127–R133), and what a COMMIT of guard records is checked
for (R129).
-/
namespace Sys2Proof.Machine

open Sys2Proof

/-- The code of a task state (R178). -/
def taskStateCode : TaskState → Nat
  | .dormant => 0 | .ready => 1 | .running => 2 | .waiting => 3 | .blocked => 4 | .suspended => 5
  | .cancelled => 6 | .done => 7 | .faulted => 8

/-- The result of a signal term before INV, from its raw previous result (Table 5 of R127). -/
def termRaw (ty : Nat) (s a b h : Int) (prev : Bool) : Bool :=
  match ty with
  | 1 => if s > a then true else if s < a - h then false else prev
  | 2 => if s < a then true else if s > a + h then false else prev
  | 3 => if s < a ∨ s > b then true else if a + h ≤ s ∧ s ≤ b - h then false else prev
  | 4 => if a ≤ s ∧ s ≤ b then true else if s < a - h ∨ s > b + h then false else prev
  | 5 => decide (s ≥ 0x08000000)
  | _ => false

/-- The code of the unit's twin role (R395), as TWIN_STAT.ROLE holds it. -/
def roleCode (c : Chip) : Nat := rdF c Reg.TWIN_TWIN_STAT 2 0

/-- Evaluate term `t` at lane-cycle `at` (R127). -/
def evalTerm (at0 : Nat) (t : Nat) (c : Chip) : Chip :=
  let a := termRec t
  let ty := rdF c a 3 0
  let inv := rdB c a 4
  let prev := tabGet (fun _ => false) c.termOn t
  let put (v : Bool) (c : Chip) : Chip := { c with termOn := tabPut (fun _ => false) c.termOn t v }
  let episode (v : Bool) (c : Chip) : Chip := { c with termEp := tabPut (fun _ => false) c.termEp t v }
  if ty = 0 ∨ 7 < ty then episode false (put false c)
  else if ty = 6 then put (bitOf (rdN c (a + 4)) (taskStateCode (c.task (rdF c a 15 8)).state) != inv) c
  else if ty = 7 then put (bitOf (rdN c (a + 4)) (roleCode c) != inv) c
  else
    let sig := rdF c a 21 8
    let w := boardRd c at0 sig
    if w.valid then
      episode false (put (termRaw ty w.val.toInt (rdI c (a + 4)) (rdI c (a + 8)) (rdI c (a + 12)) (prev != inv) != inv) c)
    else if rdB c a 5 then c
    else
      let c := if tabGet (fun _ => false) c.termEp t then c
        else postEvent Event.GUARD_TERM_INVALID reqGuard t c.phase [t, sig] c
      episode true (put true c)

/-- The terms of group `i` of guard `g`: first term and count. -/
def guardGroup (m : Tab Byte) (g i : Nat) : Nat × Nat :=
  let w := mrd32 m (guardRec g + 4 * (i / 2))
  let sh := 16 * (i % 2)
  (fld w (9 + sh) sh, fld w (13 + sh) (10 + sh))

/-- The first true group of a guard (R128). -/
def trueGroup (c : Chip) (g : Nat) : Option Nat :=
  (List.range 8).find? (fun i =>
    let p := guardGroup c.mem g i
    decide (p.2 ≠ 0) && (List.range p.2).all (fun j => tabGet (fun _ => false) c.termOn (p.1 + j)))

/-- The term-state bits of a group. -/
def groupBits (c : Chip) (g i : Nat) : Nat :=
  let p := guardGroup c.mem g i
  (List.range p.2).foldl (fun n j => n + (tabGet (fun _ => false) c.termOn (p.1 + j)).toNat * 2 ^ j) 0

/-- A guard trips (R131): it latches, GUARD_TRIP is queued, and FIRST_TRIP and TRIP_COUNT follow (R137). -/
def tripGuard (g i : Nat) (c : Chip) : Chip :=
  let c := { c with tripped := tabPut (fun _ => false) c.tripped g true }
  let c := if rdB c Reg.GUARD_FIRST_TRIP 31 then c
    else wr32 Reg.GUARD_FIRST_TRIP (Word.ofNat (0x80000000 + g)) (wr32 Reg.GUARD_FIRST_TICK (Word.ofNat c.tick) c)
  let c := regInc Reg.GUARD_TRIP_COUNT c
  postEvent Event.GUARD_GUARD_TRIP reqGuard g c.phase [g, i, groupBits c g i] c

/-- Evaluate guard `g` (R130). -/
def evalGuard (g : Nat) (c : Chip) : Chip :=
  if rdB c (guardRec g + 0x10) 0 then
    match trueGroup c g with
    | some i =>
      let c := { c with condOn := tabPut (fun _ => false) c.condOn g true }
      if c.guardOn g then c else tripGuard g i c
    | none => { c with condOn := tabPut (fun _ => false) c.condOn g false }
  else { c with condOn := tabPut (fun _ => false) c.condOn g false }

/-- The loops that a tripped guard forces. -/
def forcedLoops (c : Chip) : List Nat :=
  ((c.tripped.filter (fun (e : Nat × Bool) => e.2 && rdB c (guardRec e.1 + 0x10) 9)).flatMap (fun (e : Nat × Bool) =>
    sigRange (rdF c (guardRec e.1 + 0x14) 10 0) (rdF c (guardRec e.1 + 0x14) 27 16)) ++ memForced c).eraseDups

/-- The merge of a force on loop `n` (R131): its board output becomes OUT_SAFE, and `st.out` of a run already completed too. The replaced
word is no store of the producer's (R119). -/
def forceLoop (t n : Nat) (c : Chip) : Chip :=
  let safe := rdI c (loopRec n + 0xB0)
  let b := boardNow c (Sig.loopOut n)
  let l := c.loop n
  let c := if l.snap.isSome then c.setLoop n { l with out := safe, atSafe := true }
    else if l.mode = .off then c else c.setLoop n { l with atSafe := true }
  if b.val = Word.ofInt safe then c
  else
    let stored := (tabFind c.work (Sig.loopOut n)).elim false (·.stored)
    { c with unforced := tabIns (Sig.loopOut n) b c.unforced,
             work := tabIns (Sig.loopOut n) ⟨Word.ofInt safe, b.valid, t, stored⟩ c.work }

/-- The loops whose output word differs from OUT_SAFE or which are live: in SAFE_IDLE each of them is forced (R134). -/
def idleForced (c : Chip) : List Nat :=
  (listedRecords c.mem 0x00200000 256 2048 ++ tabKeys c.loops
    ++ ((tabKeys c.settled ++ tabKeys c.work).filter (fun s => decide (0x200 ≤ s) && decide (s < 0xA00))).map (· - 0x200)).eraseDups

/-- The guard evaluation of a tick (Table 8 of R130): terms, 8 per CK_SEQ cycle; guards, 32 per cycle; then the merge of the tripped
guards' forces, or of SAFE_IDLE's, into the board. After an early overrun the forces wait for the next tick (R132). -/
def guardEvaluation (c : Chip) : Chip :=
  let p := pOutPhase c
  let c := atPhase (p - 125) { c with guardsDone := true }
  let terms := (listedRecords c.mem 0x00300000 16 1024 ++ tabKeys c.termOn).eraseDups
  let c := forEach 128 (fun cyc c => advanceRing 1
    (forAll (terms.filter (fun t => decide (t / 8 = cyc))) (evalTerm (4 * (p - 125))) (atPhase (p - 125 + cyc / 2) c))) c
  let guards := listedRecords c.mem 0x00304000 64 256
  let c := forEach 8 (fun cyc c =>
    advanceRing 1 (forAll (guards.filter (fun g => decide (g / 32 = cyc))) evalGuard (atPhase (p - 61 + cyc / 2) c))) c
  let c := drainRing c
  let c := atPhase (p - 57) c
  if c.earlyOver then c
  else
    let forced := if c.dev = .safeIdle then (forcedLoops c ++ idleForced c).eraseDups else forcedLoops c
    forAll forced (forceLoop (4 * (p - 57))) c

/-- Whether a tripped guard quick-stops generator `n` (R131). -/
def guardQstop (c : Chip) (n : Nat) : Bool :=
  c.tripped.any (fun (e : Nat × Bool) => e.2 && rdB c (guardRec e.1 + 0x10) 10
    && decide (rdF c (guardRec e.1 + 0x18) 6 0 ≤ n)
    && decide (n < rdF c (guardRec e.1 + 0x18) 6 0 + rdF c (guardRec e.1 + 0x18) 15 8))

/-- The lowest tripped guard that blocks steps of a tag (R131, R188). -/
def blockingGuard (c : Chip) (tag : Nat) : Option Nat :=
  ((c.tripped.filter (fun (e : Nat × Bool) => e.2 && rdB c (guardRec e.1 + 0x10) 11 && rdB c (guardRec e.1 + 0x10) (16 + tag))).map (·.1)).min?

/-- The lowest tripped guard that forces a valve output, with the bit it forces (R131, R168). -/
def valveForce (c : Chip) (v : Nat) : Option Bool :=
  (((c.tripped.filter (fun (e : Nat × Bool) => e.2 && rdB c (guardRec e.1 + 0x10) 8
      && mapBit c (guardRec e.1 + 0x28) v)).map (·.1)).min?).map (fun g => mapBit c (guardRec g + 0x20) v)

/-- The lines that guards tripped in this tick drive (R131). -/
def guardLines (before : Tab Bool) (c : Chip) : List (Nat × Nat) :=
  (c.tripped.filter (fun (e : Nat × Bool) => e.2 && !tabGet (fun _ => false) before e.1 && rdB c (guardRec e.1 + 0x10) 2)).map
    (fun e => (e.1, rdF c (guardRec e.1 + 0x10) 6 4))

/-- Guard resets at the rim (R133): a reset needs a false condition at the tick's evaluation. -/
def applyGuardResets (c : Chip) : Chip :=
  let asked := (List.range 256).filter (fun g => mapBit c Reg.GUARD_RESET g)
  forAll asked (fun g c =>
    let c := setMapBit Reg.GUARD_RESET g false c
    if c.guardOn g then
      if tabGet (fun _ => false) c.condOn g || c.badMem.contains (9, g) then raiseEv Event.GUARD_RESET_REFUSED g [g] c
      else
        let freed := if rdB c (guardRec g + 0x10) 9 then
            sigRange (rdF c (guardRec g + 0x14) 10 0) (rdF c (guardRec g + 0x14) 27 16) else []
        let c := { c with tripped := tabPut (fun _ => false) c.tripped g false }
        raiseEv Event.GUARD_GUARD_RESET g [] (forAll freed releaseLoop c)
    else c) c

/-- The GUARD page's maps and the board words of tripped guards, at the rim (R130, R137). -/
def showGuards (t : Nat) (c : Chip) : Chip :=
  let c := forEach 8 (fun w c =>
    let v := (List.range 32).foldl (fun n b => n + (c.guardOn (32 * w + b)).toNat * 2 ^ b) 0
    let c := wr32 (Reg.GUARD_TRIPPED + 4 * w) (Word.ofNat v) c
    boardWr t (Sig.guards w) (Word.ofNat v) true c) c
  let states := tabTrue c.termOn
  let c := forEach 32 (fun w c => wr32 (Reg.GUARD_TERM_STATE + 4 * w)
    (Word.ofNat ((states.filter (fun x => decide (x / 32 = w))).foldl (fun n x => n + 2 ^ (x % 32)) 0)) c) c
  let forced := forcedLoops c
  let c := forEach 64 (fun w c => wr32 (Reg.GUARD_FORCED_MAP + 4 * w)
    (Word.ofNat ((forced.filter (fun x => decide (x / 32 = w))).foldl (fun n x => n + 2 ^ (x % 32)) 0)) c) c
  let c := forEach 4 (fun w c => wr32 (Reg.GUARD_QSTOP_MAP + 4 * w)
    (Word.ofNat ((List.range 32).foldl (fun n b => n + (guardQstop c (32 * w + b)).toNat * 2 ^ b) 0)) c) c
  let recs := listedRecords c.mem 0x00304000 64 256
  let en := recs.filter (fun g => rdB c (guardRec g + 0x10) 0)
  let c := forEach 8 (fun w c => wr32 (Reg.GUARD_ENABLED + 4 * w)
    (Word.ofNat ((en.filter (fun x => decide (x / 32 = w))).foldl (fun n x => n + 2 ^ (x % 32)) 0)) c) c
  wr32 Reg.GUARD_GUARD_COUNT (Word.ofNat (en.length + 0x10000 * (c.tripped.filter (fun (e : Nat × Bool) => e.2)).length)) c

/-! ### The checks of a COMMIT (Table 7 of R129) -/

/-- Whether some used group of a tripped guard covers a term. -/
def termInUse (c : Chip) (t : Nat) : Bool :=
  c.tripped.any (fun (e : Nat × Bool) => e.2 && (List.range 8).any (fun i =>
    let p := guardGroup c.mem e.1 i
    decide (p.2 ≠ 0) && decide (p.1 ≤ t) && decide (t < p.1 + p.2)))

/-- The breaches of Table 7 by the guards and terms written; `extra` is 1 for a term. -/
def guardBreaches (c : Chip) (m : Tab Byte) (guards terms : List Nat) : List Refused :=
  let word (g o : Nat) : Word := mrd32 m (guardRec g + o)
  let groups (g : Nat) : List (Nat × Nat) := (List.range 8).map (guardGroup m g)
  (guards.filter (fun g => c.guardOn g &&
      ([0x00, 0x04, 0x08, 0x0C, 0x14, 0x18, 0x20, 0x24, 0x28, 0x2C].any (fun o => decide (word g o ≠ rd32 c (guardRec g + o)))
        || decide ((word g 0x10 &&& 0xFFFFFFFC) ≠ (rd32 c (guardRec g + 0x10) &&& 0xFFFFFFFC))
        || (rdB c (guardRec g + 0x10) 0 && !wbit (word g 0x10) 0)))).map (fun g => ⟨1, g, 0⟩)
  ++ (guards.filter (fun g => (groups g).any (fun p => decide (8 < p.2) || (decide (p.2 ≠ 0) && decide (1024 < p.1 + p.2))))).map
      (fun g => ⟨2, g, 0⟩)
  ++ (terms.filter (fun t =>
      let ty := mF m (termRec t) 3 0
      (decide (1 ≤ ty) && decide (ty ≤ 5) && sigReserved (mF m (termRec t) 21 8))
        || (decide (ty = 6) && decide (mF m (termRec t) 15 8 = 0)))).map (fun t => ⟨3, t, 1⟩)
  ++ (guards.filter (fun g => decide (2048 < fld (word g 0x14) 10 0 + fld (word g 0x14) 27 16)
      || decide (128 < fld (word g 0x18) 6 0 + fld (word g 0x18) 15 8))).map (fun g => ⟨4, g, 0⟩)
  ++ (terms.filter (fun t => decide (7 < mF m (termRec t) 3 0))).map (fun t => ⟨5, t, 1⟩)
  ++ (terms.filter (fun t => termInUse c t && (List.range 4).any (fun i =>
      decide (mrd32 m (termRec t + 4 * i) ≠ rd32 c (termRec t + 4 * i))))).map (fun t => ⟨6, t, 1⟩)

/-- Record a GUARD_REFUSED (R137). -/
def refuseGuard (r : Refused) (c : Chip) : Chip :=
  wr32 Reg.GUARD_REFUSE_STAT (Word.ofNat (r.item + 0x400 * r.extra + 0x1000 * r.reason)) c

end Sys2Proof.Machine
end

