-- ==== Sys2Proof/Machine/Judge.lean ====
section
/-!
DEFINITION. Machine/Judge.lean: how a mismatch of the in-service test is judged (R356) and recorded (R364).
-/
namespace Sys2Proof.Machine

open Sys2Proof

/-- The units judged: physical lanes, analogue inputs, loop ports and axes, each kind with its own numbers. -/
def laneUnit (n : Nat) : Nat := n
def aiUnit (n : Nat) : Nat := 0x100 + n
def portUnit (n : Nat) : Nat := 0x200 + n
def axisUnit (n : Nat) : Nat := 0x300 + n

/-- Whether check `k` of Table 3 of R355 is enabled. -/
def checkOn (c : Chip) (k : Nat) : Bool := rdB c Reg.IST_IST_EN (k - 1)

/-- The OUTCOME registers take an outcome (R364). -/
def recordOutcome (check unit : Nat) (permanent hard : Bool) (c : Chip) : Chip :=
  let c := wr32 Reg.IST_OUTCOME (Word.ofNat (check + 0x10 * permanent.toNat + 0x20 * hard.toNat + 0x100 * (unit % 0x100))) c
  let c := wr32 Reg.IST_OUTCOME_TICK (Word.ofNat c.tick) c
  regInc (if permanent then Reg.IST_PERM_COUNT else Reg.IST_TRANS_COUNT) c

/-- The unit's mismatches within the 1000 ticks that end with the present one. -/
def mismatchWindow (c : Chip) (unit : Nat) : List Nat :=
  (tabGet (fun _ => []) c.mism unit).filter (fun t => decide ((c.tick + 2 ^ 48 - t) % 2 ^ 48 ≤ 999))

/-- A PERMANENT outcome (R356): cause 0 by count, 1 for a hard error. -/
def permanentOutcome (check unit cause : Nat) (c : Chip) : Chip :=
  let c := { c with retry := tabDel c.retry unit }
  raiseEv Event.IST_IST_PERMANENT (unit % 0x100) [check, unit % 0x100, cause] (recordOutcome check unit true (decide (cause = 1)) c)

/-- An uncorrectable SRAM error is counted and reported (R357, R364): `mem` its code of Table 4, `addr` the byte address. -/
def countUe (mem addr : Nat) (c : Chip) : Chip :=
  raiseEv Event.IST_MEM_UE mem [mem, addr]
    (wr32 Reg.IST_UE_ADDR (Word.ofNat (addr % 0x2000000 + 0x2000000 * mem)) (regInc Reg.IST_UE_COUNT c))

/-- A check of a unit is judged (R356): whether the outcome is PERMANENT, and the chip after it. -/
def judge (check unit : Nat) (ok : Bool) (c : Chip) : Bool × Chip :=
  if ok then
    if tabFind c.retry unit = some check then
      let c := { c with retry := tabDel c.retry unit }
      (false, raiseEv Event.IST_IST_TRANSIENT (unit % 0x100) [check, unit % 0x100, (mismatchWindow c unit).length]
        (recordOutcome check unit false false c))
    else (false, c)
  else
    let h := mismatchWindow c unit ++ [c.tick]
    let c := { c with mism := tabPut (fun _ => []) c.mism unit h }
    if 3 ≤ h.length then (true, permanentOutcome check unit 0 c)
    else (false, { c with retry := tabIns unit check c.retry })

/-- Whether it is unit `i`'s turn for a check that takes the able ones of `n` units in rotation (R355); one that waits for a retry comes ahead of
rotation (R356). `base` is the number of the first. -/
def testTurn (check base n : Nat) (able : Nat → Bool) (c : Chip) (i : Nat) : Bool :=
  let units := (List.range n).filter able
  let next := match units.filter (fun k => decide (tabFind c.retry (base + k) = some check)) with
    | k :: _ => some k
    | [] => roundRobin (tabGet (fun _ => 0) c.testNext check) units
  decide (next = some i) && decide (tabGet (fun _ => 0) c.testAt check ≤ c.beat)

/-- The rotation after the check of unit `i`, which runs again `span` ticks later. -/
def testTaken (check base i span : Nat) (c : Chip) : Chip :=
  { c with
    testNext := if tabFind c.retry (base + i) = some check then c.testNext else tabPut (fun _ => 0) c.testNext check (i + 1),
    testAt := tabPut (fun _ => 0) c.testAt check (c.beat + span) }

/-- Un-retiring clears the unit's mismatch history (R358). -/
def clearHistory (unit : Nat) (c : Chip) : Chip :=
  { c with mism := tabDel c.mism unit, retry := tabDel c.retry unit }

end Sys2Proof.Machine
end

