-- ==== Sys2Proof/Machine/Echo.lean ====
section
/-!
DEFINITION. Machine/Echo.lean: echo controllers: position, term, learning, commands, index lock, resizing and refusals (R139–R162).
-/
namespace Sys2Proof.Machine

open Sys2Proof

/-! ### The descriptor (R159) -/

def edBase (m : Tab Byte) (n : Nat) : Nat := mF m (echoDesc n) 16 0
def edLen (m : Tab Byte) (n : Nat) : Nat := mF m (echoDesc n) 31 17
def edPer (m : Tab Byte) (n : Nat) : Nat := mF m (echoDesc n + 4) 22 0
def edLead (m : Tab Byte) (n : Nat) : Nat := mF m (echoDesc n + 4) 30 23
def edIndexed (m : Tab Byte) (n : Nat) : Bool := mB m (echoDesc n + 4) 31
def edInterp (m : Tab Byte) (n : Nat) : Bool := mB m (echoDesc n + 8) 16
def edResample (m : Tab Byte) (n : Nat) : Bool := mB m (echoDesc n + 8) 17
def edTol (m : Tab Byte) (n : Nat) : Nat := mF m (echoDesc n + 8) 21 18
def edKL (m : Tab Byte) (n : Nat) : Int := (mrd32 m (echoDesc n + 0x0C)).toInt
def edG (m : Tab Byte) (n : Nat) : Int := (mrd32 m (echoDesc n + 0x10)).toInt
def edFD (m : Tab Byte) (n : Nat) : Nat := mF m (echoDesc n + 0x14) 15 0
def edQW (m : Tab Byte) (n : Nat) : Nat := mF m (echoDesc n + 0x14) 31 16
/-- FADE_RUNS of a controller, a half-word at 0x200 + 2n (R158). -/
def edFadeRuns (m : Tab Byte) (n : Nat) : Nat :=
  mF m (Reg.ECHO_FADE_RUNS + 4 * (n / 2)) (15 + 16 * (n % 2)) (16 * (n % 2))

/-- The address of entry `i` of controller `n` (R141, R151). -/
def echoAddr (m : Tab Byte) (n i : Nat) : Nat := echoEntry (8 * edBase m n + i)

/-- ⌈x⌉ of a value with 8 fractional bits. -/
def ceil8 (x : Nat) : Nat := (x + 255) / 256

/-- The ECHO strand of controller `n` in the active bank. -/
def echoStrand (c : Chip) (n : Nat) : Option Strand :=
  ((bankStrands c.mem c.bankActive).find? (fun p => decide (p.2.kind = 2) && decide (p.2.unit = n))).map (·.2)

/-- The run coordinate of an instant, with 8 fractional bits (R140); the quantising of R147 rounds down (DESIGN CHOICE, log entry 63). -/
def runCoord (c : Chip) (st : Strand) (tick phase : Nat) : Int :=
  (256 * (((tick : Int) - st.slot) * tickN c + phase)) / ((tickN c * 2 ^ st.div : Nat) : Int)

/-- The period a controller starts with before an index sets one: its PER where that is a legal period, otherwise its length. -/
def firstPeriod (m : Tab Byte) (n : Nat) : Nat :=
  if !edIndexed m n || decide (4 * 256 ≤ edPer m n ∧ ceil8 (edPer m n) ≤ edLen m n) then edPer m n else 256 * edLen m n

/-! ### Writing entries (R157) -/

/-- Entry `i` of controller `n` is written with a Q4.28 value, which its running CRC takes in. -/
def echoPut (n i : Nat) (v : Int) (c : Chip) : Chip :=
  let c := wr32 (echoAddr c.mem n i) (Word.ofInt v) c
  c.setEcho n { c.echoOf n with crc := Config.echoCrc (c.echoOf n).crc i v }

/-- The running CRC after entries `i`, `i + 1`, … up to `k` of them are written with zero. -/
def crcZeros (crc i : Nat) : Nat → Nat
  | 0 => crc
  | k + 1 => crcZeros (Config.echoCrc crc i 0) (i + 1) k

/-- Entries `from_` to `to_ - 1` of controller `n` are written with zero. -/
def zeroEntries (n from_ to_ : Nat) (c : Chip) : Chip :=
  let lo := echoAddr c.mem n from_
  let hi := echoAddr c.mem n to_
  let c := { c with mem := c.mem.filter (fun e => decide (e.1 < lo) || decide (hi ≤ e.1)) }
  c.setEcho n { c.echoOf n with crc := crcZeros (c.echoOf n).crc from_ (to_ - from_) }

/-- Host or package writes of the DWORDs `w` of echo memory reach the CRCs of the controllers that own them. -/
def echoWritten (w : List Nat) (c : Chip) : Chip :=
  let entries := (w.filter (fun a => decide (echoEntry 0 ≤ a) && decide (a < echoEntry 0x100000))).map (fun a => (a - echoEntry 0) / 4)
  if entries = [] then c else
  forEach 128 (fun n c =>
    let mine := entries.filter (fun x => decide (8 * edBase c.mem n ≤ x) && decide (x < 8 * edBase c.mem n + (c.echoOf n).len))
    if mine = [] then c else
    let add (crc x : Nat) : Nat := Config.echoCrc crc (x - 8 * edBase c.mem n) (rdI c (echoEntry x))
    c.setEcho n { c.echoOf n with crc := mine.foldl add (c.echoOf n).crc }) c

/-! ### Resizing (R152) -/

/-- The entries that lengthening adds (R152 rule 4). -/
def fillEntries (n old new : Nat) (c : Chip) : Chip :=
  if edResample c.mem n ∧ 0 < old then
    let last := rdI c (echoAddr c.mem n (old - 1))
    let first := rdI c (echoAddr c.mem n 0)
    let d := new - old + 1
    forEach (new - old) (fun k c =>
      echoPut n (old + k) (satWord (roundDiv (last * (d : Int) + (first - last) * ((k + 1 : Nat) : Int)) d)) c) c
  else zeroEntries n old new c

/-- The pending length takes effect (R146, R152): entries that lengthening adds are filled where the pointers are inside the buffer. -/
def resizeLen (n : Nat) (fill : Bool) (c : Chip) : Chip :=
  let old := (c.echoOf n).len
  let new := edLen c.mem n
  let c := if fill ∧ old < new then fillEntries n old new c else c
  let c := c.setEcho n { c.echoOf n with len := new }
  if old = new then c else raiseEv Event.ECHO_ECHO_RESIZE n [n, old, new] c

/-- The period once a resize has applied (R152): PER in fixed mode; in index mode the measured one, which a shorter length cuts to that
length, since the rule is silent there (DESIGN CHOICE, log entry 63). -/
def periodAfter (m : Tab Byte) (n : Nat) (e : EchoSt) : Nat :=
  if edIndexed m n then (if e.p = 0 then firstPeriod m n else min e.p (256 * edLen m n)) else edPer m n

/-- The pending length and, in fixed mode, the pending period take effect (R152). -/
def applyResize (n : Nat) (fill : Bool) (c : Chip) : Chip :=
  let c := resizeLen n fill c
  c.setEcho n { c.echoOf n with p := periodAfter c.mem n (c.echoOf n), resize := false }

/-- A wrap (R140, R149): REVS counts it, and a pending resize applies. -/
def echoWrap (n : Nat) (c : Chip) : Chip :=
  let e := c.echoOf n
  let c := c.setEcho n { e with revs := satInc 32 e.revs }
  if e.resize then applyResize n true c else c

/-! ### Position (R140, R149) -/

/-- The deadline of an index-mode controller, with 8 fractional bits: P × (1 + TOL / 64), capped at the length. -/
def echoDeadline (m : Tab Byte) (n : Nat) (e : EchoSt) : Nat := min (e.p * (64 + edTol m n) / 64) (256 * e.len)

/-- Lock is lost at the deadline: T advances by P, wrapping at P from then on, and INDEX_LOST is raised once (R149). -/
def loseLock (n : Nat) (c : Chip) : Chip :=
  let e := c.echoOf n
  let c := c.setEcho n { e with locked := false, accepted := 0, lost := true, losses := satInc 16 e.losses, t := e.t + e.p }
  let c := echoWrap n c
  if e.lost then c else raiseEv Event.ECHO_INDEX_LOST n [] c

/-- T moves on until the position of run coordinate `x` lies in the period (R140): at most `k` wraps. -/
def advanceT (n : Nat) (x : Int) : Nat → Chip → Chip
  | 0, c => c
  | k + 1, c =>
    let e := c.echoOf n
    if e.p = 0 ∨ x - e.t < e.p then c
    else if edIndexed c.mem n ∧ e.locked then
      if x - e.t ≥ echoDeadline c.mem n e then advanceT n x k (loseLock n c) else c
    else
      -- whole periods that passed without a run are skipped before the last wrap
      let skip := if e.resize then 0 else (x - e.t) / e.p - 1
      advanceT n x k (echoWrap n (c.setEcho n { e with
        t := e.t + e.p * (skip + 1), revs := min (e.revs + skip.toNat) 0xFFFFFFFF }))

/-- The position at run coordinate `x` (R140): a run that precedes a T which a later edge of its tick has set takes the phase predicted
backwards from it. -/
def positionAt (e : EchoSt) (x : Int) : Nat := (if x < e.t ∧ e.p ≠ 0 then (x - e.t) % (e.p : Int) else x - e.t).toNat

/-! ### Index samples (R147) -/

/-- INDEX_SIG and EDGE of a descriptor (R159). -/
def edIndexSig (m : Tab Byte) (n : Nat) : Nat := mF m (echoDesc n + 8) 13 0
def edEdge (m : Tab Byte) (n : Nat) : Nat := mF m (echoDesc n + 8) 15 14

/-- The pin whose edge timestamps mark an SW or DIO index signal (R147). -/
def indexPin (sig : Nat) : Option Nat :=
  if Sig.sw 0 ≤ sig ∧ sig < Sig.sw 96 then some (sig - Sig.sw 0)
  else if Sig.dio 0 ≤ sig ∧ sig < Sig.dio 48 then some (96 + (sig - Sig.dio 0)) else none

/-- Whether EDGE selects a crossing that leaves the signal high, or low. -/
def edgeSelects (edge : Nat) (high : Bool) : Bool := decide (edge = 2) || (decide (edge = 0) && high) || (decide (edge = 1) && !high)

/-- The coordinate at which the line between two samples `(x0, v0)` and `(x1, v1)` crosses 0x0800_0000 in the direction EDGE selects. -/
def crossing (edge : Nat) (x0 v0 x1 v1 : Int) : Option Int :=
  let thr : Int := 0x08000000
  if decide (thr ≤ v0) = decide (thr ≤ v1) ∨ edgeSelects edge (decide (thr ≤ v1)) = false then none
  else some (x0 + (x1 - x0) * (thr - v0) / (v1 - v0))

/-- A run takes its sample of an index signal that is no pin's (R139, R147): a crossing since the sample before it waits to be judged. -/
def indexSample (st : Strand) (t : Nat) (x : Int) (c : Chip) : Chip :=
  let n := st.unit
  if edIndexed c.mem n ∧ (indexPin (edIndexSig c.mem n)).isNone then
    let e := c.echoOf n
    let v := (boardRd c t (edIndexSig c.mem n)).val.toInt
    let hit := e.sample.bind (fun s => crossing (edEdge c.mem n) s.1 s.2 x v)
    c.setEcho n { e with sample := some (x, v), crossed := hit.or e.crossed }
  else c

/-- Whether pin `p` has an edge at a tick and phase among those it has recorded in this window and the last, and the level the edge left. -/
def pinEdge (p : PinSt) (tick phase : Nat) : Option Bool :=
  match p.stamps.idxOf? (tick, phase) with
  | some k => some (p.raw != decide ((p.edges - 1 - k) % 2 = 1))
  | none =>
    (p.recs.idxOf? (tick, phase)).map (fun k =>
      (p.raw != decide (p.edges % 2 = 1)) != decide ((p.count - 1 - k) % 2 = 1))

/-! ### The run (R142, R145) -/

/-- One step of the weight towards its target (R145). -/
def weightStep (h target runs : Nat) : Nat :=
  if runs = 0 then target else
  let d := (65536 + runs - 1) / runs
  if h < target then min target (h + d) else max target (h - d)

/-- The target of the weight in a state (Table 1 of R145). -/
def weightTarget : EchoState → Nat
  | .learn | .freeze => 0x10000
  | .idle | .fade | .clearing => 0

/-- The term before the weight (R142): the interpolated entry times G. Its store is no board store, since the word that reaches the board is
scaled after it, so a saturation counts in SAT_COUNT alone (DESIGN CHOICE: R67 does not say; log entry 62). -/
def echoTermRaw (n : Nat) (c : Chip) : Int × Chip :=
  let m := c.mem
  let e := c.echoOf n
  let b0 := e.pos + 256 * edLead m n
  let b := if e.p ≤ b0 then b0 - e.p else b0
  let i := b / 256
  let i1 := if i + 1 = ceil8 e.p then 0 else i + 1
  let rd (k : Nat) : Int := if k < e.len then rdI c (echoAddr m n k) else 0
  let mb := if edInterp m n then rd i + roundShift ((b % 256 : Nat) * (rd i1 - rd i)) 8 else rd i
  st26 (edG m n * mb) c

/-- One run of ECHOn by its strand, started at lane-cycle `t` and released at `done` (R139–R142). -/
def echoRun (st : Strand) (t done : Nat) (c : Chip) : Chip :=
  let n := st.unit
  let c := atPhase (done / 4) c
  let x := runCoord c st c.tick 0
  let c := advanceT n x 4 c
  let e := c.echoOf n
  let h := weightStep e.h (weightTarget e.state) (edFadeRuns c.mem n)
  let c := c.setEcho n { e with h := h, pos := positionAt e x, ran := true }
  let c := if e.state = .fade ∧ h = 0 then
      raiseEv Event.ECHO_FADE_DONE n [] (c.setEcho n { c.echoOf n with state := .idle })
    else c
  let c := indexSample st t x c
  let u := echoTermRaw n c
  let s := (c.echoOf n).state
  let on := decide (s = .learn) || decide (s = .freeze) || decide (s = .fade)
  boardWrI done (Sig.echo n) (if on then roundShift ((h : Int) * u.1) 16 else 0) true u.2

/-- The term of controller `n` computed in this tick, which its loop's run reads: its strand comes first in bank order (R42), and one still in
flight computes the same term. -/
def tickTerm (n : Nat) (c : Chip) : Int :=
  let c := match c.sched.find? (fun f =>
      let s := strandOf c.mem c.bankActive f.index
      decide (s.kind = 2) && decide (s.unit = n) && decide (f.lane ≠ noLane)) with
    | some f => echoRun (strandOf c.mem c.bankActive f.index) f.start f.done c
    | none => c
  (boardNow c (Sig.echo n)).val.toInt

/-! ### Learning (R143, R144) -/

/-- Whether this tick's update of controller `n` is gated (R144). -/
def echoGated (c : Chip) (n : Nat) : Bool :=
  let e := c.echoOf n
  match attachedLoop c.mem n with
  | none => true
  | some l =>
    let s := c.loop l
    decide (e.state ≠ .learn)
      || !(decide (s.mode = .auto) || decide (s.mode = .cascade))
      || !(match s.snap with | some r => r.pvOk | none => false)
      || s.satHi || s.satLo || guardForces c l || decide (c.dev ≠ .run) || e.aborted
      || (edIndexed c.mem n && !e.locked) || decide (roleCode c = 4)

/-- An uncorrectable error in echo-memory entry `i` of controller `n` (R153). -/
def echoMemErr (n i : Nat) (c : Chip) : Chip :=
  let c := echoPut n i 0 c
  raiseEv Event.ECHO_ECHO_MEM_ERR n [n, i] (c.setEcho n { c.echoOf n with retPend := true })

/-- The learning error (R143): the effective set-point less the conditioned measurement of the attached loop's run, before its store. -/
def learnDiff (c : Chip) (l : Nat) : Int :=
  (boardNow c (Sig.loopSp l)).val.toInt - (match (c.loop l).snap with | some r => r.pv | none => 0)

/-- The hard error of an entry (R153, R356): its outcome is permanent at once. -/
def echoHardErr (n i : Nat) (c : Chip) : Chip :=
  if (c.echoOf n).retPend then echoMemErr n i c else permanentOutcome 3 n 1 (echoMemErr n i c)

/-- The update of controller `n` by the echo-memory port (R143). `bad` lists pool entries that read uncorrectable. -/
def echoUpdate1 (bad : List Nat) (n : Nat) (c : Chip) : Chip :=
  let m := c.mem
  let e := c.echoOf n
  if echoGated c n then
    c.setEcho n { e with qn := 0, gated := true, gatedCnt := satInc 32 e.gatedCnt }
  else
    let a : Int := e.pos - 256 * edLead m n
    let j := ((if a < 0 then a + e.p else a) / 256).toNat
    if bad.contains (8 * edBase m n + j) then
      echoHardErr n j (countUe 3 (4 * (8 * edBase m n + j)) (c.setEcho n { e with qn := 0 }))
    else
      let diff := (attachedLoop m n).elim 0 (learnDiff c)
      let mj := if j < e.len then rdI c (echoAddr m n j) else 0
      let v := store32 ((2 ^ 24 - (edFD m n : Int)) * mj * 4 + edKL m n * satWord diff) 26
      let c := countSat v.2 (countSat (satHit diff) c)
      let q : Int := edQW m n
      let c :=
        if e.qn = 2 ∧ e.j1 < e.len ∧ e.j1 < ceil8 e.p then
          let w := store32 (q * e.v2 + (65536 - 2 * q) * e.v1 + q * v.1) 16
          countSat w.2 (echoPut n e.j1 w.1 c)
        else c
      c.setEcho n { c.echoOf n with v2 := e.v1, v1 := v.1, j1 := j, qn := min (e.qn + 1) 2, gated := false }

/-- Zeroing of a CLEARING controller whose weight has reached 0: 4096 entries per tick (R146). -/
def echoZero (n : Nat) (c : Chip) : Chip :=
  let e := c.echoOf n
  if e.state = .clearing ∧ e.h = 0 then
    -- a pending length applies when zeroing begins, and T and P stay as they are
    let c := if e.zeroed.isNone then resizeLen n false c else c
    let e := c.echoOf n
    let z := e.zeroed.getD 0
    let z' := min e.len (z + 4096)
    let c := zeroEntries n z z' c
    c.setEcho n { c.echoOf n with zeroed := some z' }
  else c

/-- The echo-memory port in the late window of a tick (R143, R146). -/
def echoUpdate (bad : List Nat) (c : Chip) : Chip :=
  let c := atPhase (pOutPhase c + 50) c
  forAll (tabKeys c.echoes) (fun n c =>
    let c := if (c.echoOf n).ran ∨ (c.echoOf n).aborted then echoUpdate1 bad n c else c
    echoZero n (c.setEcho n { c.echoOf n with ran := false, aborted := false })) c

/-- The end of zeroing (R146): the Q pipeline clears, IDLE is entered and CLEAR_DONE raised. -/
def clearDone (n : Nat) (c : Chip) : Chip :=
  let e := c.echoOf n
  if e.state = .clearing ∧ e.zeroed = some e.len then
    raiseEv Event.ECHO_CLEAR_DONE n [] (c.setEcho n { e with state := .idle, zeroed := none, qn := 0, v1 := 0, v2 := 0, j1 := 0 })
  else c

/-! ### Index lock (R147–R149) -/

/-- Whether an edge with measured period `pm` (8 fractional bits) is accepted (R148). -/
def edgeAccepted (m : Tab Byte) (n : Nat) (e : EchoSt) (pm : Int) : Bool :=
  decide (pm ≤ 256 * (e.len : Int)) && decide (4 * 256 ≤ pm) && decide (2 * (edLead m n : Int) < pm / 256)
    && (!e.locked || decide (edTol m n = 0) || decide (((pm - e.p).natAbs : Int) * 64 ≤ e.p * edTol m n))

/-- Whether the first of two edges still counts at coordinate `x`: the second may come up to LEN runs after it (R148, R149). -/
def firstEdgeCounts (e : EchoSt) (x : Int) : Bool :=
  !e.locked && decide (e.accepted = 1) && decide (x - e.base ≤ 256 * (e.len : Int))

/-- The measured period of an edge at coordinate `x` (R148): from the T that the last accepted edge set. -/
def edgePeriod (e : EchoSt) (x : Int) : Int := if firstEdgeCounts e x then x - e.base else x - e.t

/-- An index edge of controller `n` at coordinate `x` is judged (R148, R149). -/
def judgeEdge (n : Nat) (x : Int) (c : Chip) : Chip :=
  let c := advanceT n x 4 c
  let e := c.echoOf n
  let pm := edgePeriod e x
  if edgeAccepted c.mem n e pm then
    if e.locked ∨ firstEdgeCounts e x then
      let c := echoWrap n (c.setEcho n { e with t := x, p := pm.toNat, locked := true, accepted := 2, lost := false })
      if e.locked then c else raiseEv Event.ECHO_INDEX_REGAINED n [] c
    else
      let c := c.setEcho n { e with t := x, base := x, accepted := 1 }
      if e.resize then applyResize n true c else c
  else
    raiseEv Event.ECHO_INDEX_REJECT n [n, pw pm] (c.setEcho n { e with rejects := satInc 16 e.rejects })

/-- The coordinate of the index edge that controller `n` has at a tick and phase (R147): of a pin's signal the timestamp, where the pin has
recorded an edge there in the direction that EDGE selects; of another signal the crossing that its last runs bracket, wherever the command
stands. None where there is no edge to judge. -/
def edgeCoord (c : Chip) (n : Nat) (st : Strand) (tick phase : Nat) : Option Int :=
  match indexPin (edIndexSig c.mem n) with
  | some p =>
    match pinEdge (c.pin p) tick phase with
    | some high => if edgeSelects (edEdge c.mem n) high then some (runCoord c st tick phase) else none
    | none => none
  | none => (c.echoOf n).crossed

/-- INDEX_EDGE of controller `n` (R147–R149). -/
def indexEdge (n tick phase : Nat) (c : Chip) : Chip :=
  match echoStrand c n with
  | none => c
  | some st =>
    if !edIndexed c.mem n then c else
    match edgeCoord c n st tick phase with
    | none => c
    | some x => judgeEdge n x (c.setEcho n { c.echoOf n with crossed := none })

/-- The deadline of controller `n` is reached without an accepted edge (R149). -/
def indexLost (n tick phase : Nat) (c : Chip) : Chip :=
  match echoStrand c n with
  | none => c
  | some st =>
    let e := c.echoOf n
    if edIndexed c.mem n ∧ e.locked ∧ runCoord c st tick phase - e.t ≥ echoDeadline c.mem n e then loseLock n c else c

/-! ### Commands (R145, R146, R153) -/

/-- A command that is not allowed (R146). -/
def echoRefused (n code : Nat) (c : Chip) : Chip := raiseEv Event.ECHO_CMD_REFUSED n [n, code] c

/-- One command applies at the rim (R146, R153). Codes are those of Table 7. -/
def echoCommand (n code : Nat) (c : Chip) : Chip :=
  let e := c.echoOf n
  match code with
  | 1 => if e.state = .clearing ∨ e.retired then echoRefused n 1 c else c.setEcho n { e with state := .learn, revs := 0 }
  | 2 => if e.state = .clearing ∨ e.retired then echoRefused n 2 c else c.setEcho n { e with state := .freeze }
  | 3 => if e.state = .idle ∨ e.state = .clearing then echoRefused n 3 c else c.setEcho n { e with state := .fade }
  | _ => if e.state = .clearing then c else c.setEcho n { e with state := .clearing, zeroed := none }

/-- The command maps apply at the rim; CLEAR prevails over FADE, FADE over FREEZE and FREEZE over LEARN (R146). -/
def echoCommands (c : Chip) : Chip :=
  forEach 128 (fun n c =>
    let on (a : Nat) : Bool := mapBit c a n
    let code := if on Reg.ECHO_CLEAR then 4 else if on Reg.ECHO_FADE then 3 else if on Reg.ECHO_FREEZE then 2
      else if on Reg.ECHO_LEARN then 1 else 0
    if code = 0 then c else
    let c := setMapBit Reg.ECHO_CLEAR n false (setMapBit Reg.ECHO_FADE n false (setMapBit Reg.ECHO_FREEZE n false
      (setMapBit Reg.ECHO_LEARN n false c)))
    echoCommand n code c) c

/-- Retirements that errors of the tick made due, and UNRETIRE, at the rim (R153). -/
def echoRetirements (c : Chip) : Chip :=
  let c := forEach 128 (fun n c =>
    if mapBit c Reg.ECHO_UNRETIRE n then
      setMapBit Reg.ECHO_UNRETIRE n false (if (c.echoOf n).retired then c.setEcho n { c.echoOf n with retired := false } else c)
    else c) c
  forAll ((tabKeys c.echoes).filter (fun n => (c.echoOf n).retPend)) (fun n c =>
    let e := c.echoOf n
    raiseEv Event.ECHO_ECHO_RETIRED n [n]
      (c.setEcho n { e with retPend := false, retired := true, state := .fade })) c

/-! ### Descriptors at a COMMIT and at the rim (R150, R152, R161) -/

/-- Whether a controller is IDLE with h = 0. -/
def echoAtRest (e : EchoSt) : Bool := decide (e.state = .idle) && decide (e.h = 0)

/-- The breaches of Table 6 of R161 by the descriptors written; `banks` are the active and the incoming bank. -/
def echoBreaches (c : Chip) (m : Tab Byte) (banks written : List Nat) : List Refused :=
  let extent (q : Nat) : Nat × Nat :=
    let l := if echoAtRest (c.echoOf q) then edLen m q else max (edLen m q) (c.echoOf q).len
    (8 * edBase m q, 8 * edBase m q + l)
  let fixed (n : Nat) : Bool := !edIndexed m n && decide (edLen m n ≠ 0)
  (written.filter (fun n => decide (edLen m n ≠ 0) && (decide (edLen m n < 4) || decide (16384 < edLen m n)
      || decide (1048576 < 8 * edBase m n + edLen m n)))).map (fun n => ⟨1, n, 0⟩)
  ++ written.flatMap (fun n => (List.range 128).filterMap (fun q =>
      if q ≠ n ∧ edLen m n ≠ 0 ∧ edLen m q ≠ 0 ∧ max (extent n).1 (extent q).1 < min (extent n).2 (extent q).2
      then some ⟨2, n, 0⟩ else none))
  ++ (written.filter (fun n => decide (edBase m n ≠ edBase c.mem n) && !echoAtRest (c.echoOf n))).map (fun n => ⟨3, n, 0⟩)
  ++ (written.filter (fun n => fixed n && (decide (edPer m n < 4 * 256) || decide (16384 * 256 < edPer m n)
      || decide (edLen m n < ceil8 (edPer m n))))).map (fun n => ⟨4, n, 0⟩)
  ++ (written.filter (fun n => fixed n && decide (edPer m n / 256 ≤ 2 * edLead m n))).map (fun n => ⟨5, n, 0⟩)
  ++ (written.filter (fun n => decide (edLen m n = 0) && banks.any (fun b =>
      (bankStrands c.mem b).any (fun p => decide (p.2.kind = 2) && decide (p.2.unit = n))))).map (fun n => ⟨6, n, 0⟩)
  ++ (written.filter (fun n => decide (mF m (echoDesc n + 8) 15 14 = 3) || decide (0x8000 < edQW m n))).map (fun n => ⟨7, n, 0⟩)

/-- Record an ECHO_REFUSED (R158). -/
def refuseEcho (r : Refused) (c : Chip) : Chip :=
  wr32 Reg.ECHO_REFUSE_STAT (Word.ofNat (r.item + 0x100 * r.reason)) c

/-- A descriptor change applies at the rim, from the memory `m` before it (R152). -/
def echoDescEffects (m : Tab Byte) (n : Nat) (c : Chip) : Chip :=
  let m' := c.mem
  let e := c.echoOf n
  let e := if edIndexed m n ≠ edIndexed m' n then { e with locked := false, accepted := 0 } else e
  let e := if edIndexSig m n ≠ edIndexSig m' n then { e with sample := none, crossed := none } else e
  if edLen m n ≠ edLen m' n ∨ edPer m n ≠ edPer m' n ∨ edIndexed m n ≠ edIndexed m' n then
    if echoAtRest e then applyResize n false (c.setEcho n { e with p := if edIndexed m n ≠ edIndexed m' n ∨ e.len = 0 then 0 else e.p })
    else c.setEcho n { e with resize := true }
  else c.setEcho n e

/-! ### Realignment, restart and registers (R155, R156, R158) -/

/-- A realignment from the tick `last` to the tick `next` (R156). -/
def echoRealign (last next : Nat) (c : Chip) : Chip :=
  forAll (tabKeys c.echoes) (fun n c =>
    match echoStrand c n with
    | none => c
    | some st =>
      let e := c.echoOf n
      let d : Int := (2 ^ st.div : Nat)
      let after := ((next : Int) - st.slot + d - 1) / d
      if edIndexed c.mem n then
        -- the lock is lost, and T moves by whole periods to where the phase that it predicts lies within one (DESIGN CHOICE, log 63)
        let t := if e.p = 0 then e.t else e.t + e.p * ((256 * after - e.t) / e.p)
        let c' := c.setEcho n { e with t := t, locked := false, accepted := 0, sample := none, crossed := none, lost := e.lost || e.locked,
                                       losses := if e.locked then satInc 16 e.losses else e.losses }
        if e.locked ∧ ¬ e.lost then raiseEv Event.ECHO_INDEX_LOST n [] c' else c'
      else
        let before := ((last : Int) - st.slot) / d
        c.setEcho n { e with t := e.t + 256 * (after - before - 1) }) c

/-- An echo controller after a held-output restart (R155). -/
def echoRestarted (e : EchoSt) : EchoSt :=
  { e with qn := 0, locked := false, accepted := 0, ran := false, aborted := false, sample := none, crossed := none }

/-- The code of an echo state. -/
def echoStateCode : EchoState → Nat
  | .idle => 0 | .learn => 1 | .freeze => 2 | .fade => 3 | .clearing => 4

/-- The ECHO page's status registers at the rim (R158). -/
def showEcho (c : Chip) : Chip :=
  let lens := (List.range 128).map (edLen c.mem)
  let isLearn (n : Nat) : Bool := decide ((c.echoOf n).state = .learn)
  let learn := (tabKeys c.echoes).filter isLearn
  let c := wr32 Reg.ECHO_ECHO_COUNT (Word.ofNat (learn.length + 0x100 * (lens.filter (fun l => decide (l ≠ 0))).length)) c
  let c := wr32 Reg.ECHO_POOL_USED (Word.ofNat lens.sum) c
  let map (f : Nat → Bool) (w : Nat) : Word :=
    Word.ofNat ((List.range 32).foldl (fun k b => k + (f (32 * w + b)).toNat * 2 ^ b) 0)
  let ret (n : Nat) : Bool := (c.echoOf n).retired
  let c := forEach 4 (fun w c => wr32 (Reg.ECHO_LEARN_MAP + 4 * w) (map isLearn w)
    (wr32 (Reg.ECHO_RETIRED + 4 * w) (map ret w) c)) c
  let n := rdF c Reg.ECHO_STAT_SEL 6 0
  let e := c.echoOf n
  let c := wr32 Reg.ECHO_SEL_STATE (Word.ofNat (echoStateCode e.state + 8 * e.gated.toNat + 0x10 * e.locked.toNat
    + 0x20 * (decide (e.len ≠ edLen c.mem n)).toNat + 0x40 * e.retired.toNat + 0x8000 * e.h)) c
  let c := wr32 Reg.ECHO_SEL_POS (Word.ofNat e.pos) (wr32 Reg.ECHO_SEL_MEAS (Word.ofNat e.p) c)
  let c := wr32 Reg.ECHO_SEL_REVS (Word.ofNat e.revs) (wr32 Reg.ECHO_SEL_GATED (Word.ofNat e.gatedCnt) c)
  wr32 Reg.ECHO_SEL_INDEX (Word.ofNat (e.rejects + 0x10000 * e.losses)) c

end Sys2Proof.Machine
end

