-- ==== Sys2Proof/Machine/Motion.lean ====
section
/-!
DEFINITION. Machine/Motion.lean: profile generators: the profile pass, moves, limits, latching, homing and refusals (R200–R224).
-/
namespace Sys2Proof.Machine

open Sys2Proof

/-! ### The profile record (R218) and the axis tables (R223) -/

def mpRec (n : Nat) : Nat := 0x00A00000 + 64 * n
def mpModeReq (m : Tab Byte) (n : Nat) : Nat := mF m (mpRec n) 2 0
def mpAxisEn (m : Tab Byte) (n : Nat) : Bool := mB m (mpRec n) 3
def mpI (m : Tab Byte) (n o : Nat) : Int := (mrd32 m (mpRec n + o)).toInt
/-- TARGET, 48.16 (R218). -/
def mpTarget (m : Tab Byte) (n : Nat) : Int :=
  sx 64 ((mrd32 m (mpRec n + 0x38)).toNat + 0x100000000 * (mrd32 m (mpRec n + 0x3C)).toNat)
def mpSetTarget (n : Nat) (v : Int) (c : Chip) : Chip :=
  wr32 (mpRec n + 0x38) (Word.ofInt v) (wr32 (mpRec n + 0x3C) (Word.ofInt (v / 0x100000000)) c)
/-- A generator with V_MAX = 0 is unconfigured (R218). -/
def mpConfigured (m : Tab Byte) (n : Nat) : Bool := decide (mpI m n 0x14 ≠ 0)
def axCfg (a : Nat) : Nat := Reg.MOTION_AXIS_CFG + 16 * a
def homePh (a i : Nat) : Nat := Reg.MOTION_HOME_PROG + 32 * a + 8 * i
def softLim (c : Chip) (n : Nat) : Int × Int :=
  (rdI64 c (Reg.MOTION_SOFT_LIM + 16 * n), rdI64 c (Reg.MOTION_SOFT_LIM + 16 * n + 8))
/-- The input code of a switch of an axis: 0 HOME, 1 LIMP, 2 LIMN (R209). -/
def swSrc (m : Tab Byte) (a which : Nat) : Nat := mF m (axCfg a) (7 + 8 * which) (8 * which)
def swLow (m : Tab Byte) (a which : Nat) : Bool := mB m (axCfg a) (24 + which)
/-- Whether a switch is active at the present level of its input; one with no input is not (R209). -/
def swLevel (c : Chip) (a which : Nat) : Bool :=
  decide (swSrc c.mem a which ≠ 0xFF) && ((c.pin (swSrc c.mem a which)).raw != swLow c.mem a which)
/-- A switch takes the present level of its input as its qualified state, with nothing pending on it. -/
def swTake (a which : Nat) (c : Chip) : Chip :=
  let g := c.mp a
  let b := swLevel c a which
  let g := { g with edges := g.edges.filter (fun e => decide (e.which ≠ which)),
                    chatWins := g.chatWins.filter (fun w => decide (w.which ≠ which)) }
  c.setMp a (match which with | 0 => { g with qHome := b } | 1 => { g with limP := b } | _ => { g with limN := b })

/-! ### Speed rules (R203) -/

/-- The speeds and rates of a generator, with 24 fractional bits. -/
structure Rates where
  vs : Int
  ve : Int
  vb : Int
  vm : Int
  a1 : Int
  a2 : Int
  d2 : Int
  d1 : Int
  ds : Int
  deriving DecidableEq, Repr

def ratesOf (m : Tab Byte) (n : Nat) : Rates :=
  { vs := max (256 * mpI m n 0x08) (mpI m n 0x18), ve := max (256 * mpI m n 0x0C) (mpI m n 0x24), vb := 256 * mpI m n 0x10,
    vm := 256 * mpI m n 0x14, a1 := mpI m n 0x18, a2 := mpI m n 0x1C, d2 := mpI m n 0x20, d1 := mpI m n 0x24, ds := mpI m n 0x28 }

def accOf (r : Rates) (m : Int) : Int := min (m + (if m < r.vb then r.a1 else r.a2)) r.vm
def decOf (r : Rates) (m : Int) : Int := max (m - (if m > r.vb then r.d2 else r.d1)) 0
def loOf (r : Rates) (m : Int) : Int := if m ≤ r.ve then 0 else decOf r m

/-- Slowing from `c` by `d` per tick until at or below `bound`: the distance run and the speed left. -/
def brakeSum (c bound d : Int) : Int × Int :=
  if c ≤ bound ∨ d ≤ 0 then (0, c) else
  let k := (c - bound + d - 1) / d
  let last := c - k * d
  (k * c - d * (k * (k + 1)) / 2 - min last 0, max last 0)

/-- S(c), the least distance to come to rest from speed `c` (R203), in closed form. -/
def stopDist (r : Rates) (c : Int) : Int :=
  let p := brakeSum c (max r.vb r.ve) r.d2
  p.1 + (brakeSum p.2 r.ve r.d1).1

/-- What a step of a pass gives: the velocity, the distance run, the velocity published, and whether it landed. -/
structure StepOut where
  vel  : Int
  move : Int
  pub  : Int
  land : Bool
  deriving DecidableEq, Repr

/-- position_step of R204 for a remaining distance `d` and velocity `v`. -/
def positionStep (r : Rates) (d v : Int) : StepOut :=
  let s := sgn d
  let rem : Int := d.natAbs
  let m0 : Int := v.natAbs
  if v ≠ 0 ∧ sgn v ≠ s ∧ m0 > r.ve then
    let w := sgn v * decOf r m0
    ⟨w, w, w, false⟩
  else
    let m := if v ≠ 0 ∧ sgn v ≠ s then 0 else m0
    let hi := if m = 0 then r.vs else if m > r.vm then max (decOf r m) r.vm else accOf r m
    let lo := if m = 0 then 0 else if m > r.vm then decOf r m else loOf r m
    let cands := if m = 0 then [r.vs, min r.vs r.ve] else if m > r.vm then [hi, lo] else [hi, m, lo]
    if rem ≤ r.ve ∧ lo ≤ rem ∧ rem ≤ hi then ⟨0, d, d, true⟩
    else
      let w := s * ((cands.find? (fun x => decide (x ≤ rem) && decide (rem - x ≥ stopDist r x))).getD lo)
      ⟨w, w, w, false⟩

/-- velocity_step of R205 for a command `vt`. -/
def velocityStep (r : Rates) (vt v : Int) : StepOut :=
  let m0 : Int := v.natAbs
  let t : Int := vt.natAbs
  if v ≠ 0 ∧ sgn v ≠ sgn vt ∧ m0 > r.ve then
    let w := sgn v * decOf r m0
    ⟨w, w, w, false⟩
  else
    let m := if v ≠ 0 ∧ sgn v ≠ sgn vt then 0 else m0
    let x := if m = 0 then min t r.vs else if m < t then min (accOf r m) t else max (loOf r m) t
    let w := sgn vt * x
    ⟨w, w, w, false⟩

/-- QUICK_STOP (R206): at or below V_E the generator goes to rest. -/
def quickStep (r : Rates) (v : Int) : StepOut :=
  let m : Int := v.natAbs
  let w := if m ≤ r.ve then 0 else sgn v * max (m - r.ds) 0
  ⟨w, w, w, false⟩

/-- The velocity step towards a soft limit `lim` (24 fractional bits): the lower of R205's speed and R204's with the limit as target
(R211). Outside the range only motion back is allowed. -/
def softVelocity (r : Rates) (pos vt v : Int) (lims : Option (Int × Int)) : StepOut :=
  match lims with
  | none => velocityStep r vt v
  | some (lo, hi) =>
    let dir := if vt ≠ 0 then sgn vt else sgn v
    let room := if dir > 0 then hi - pos else if dir < 0 then pos - lo else 0
    if dir ≠ 0 ∧ room ≤ 0 then velocityStep r 0 v
    else
      let a := velocityStep r vt v
      if dir = 0 then a
      else
        let b := positionStep r (dir * room) v
        if b.pub.natAbs < a.pub.natAbs then b else a

/-! ### Moves (R207, R208) -/

/-- The commanded position that leaves a generator, 48.16, rounded to nearest with ties to even (R201). -/
def pubPos (g : MpSt) : Int := roundDiv g.pos 256

/-- The running move of generator `n` ends (R208), and a task that waits for it takes the cause (R169). -/
def endMove (n cause : Nat) (c : Chip) : Chip :=
  let g := c.mp n
  if g.running then
    let c := c.setMp n { g with running := false, cause := cause, endAs := none }
    let c := forAll (tabKeys c.tasks) (fun t c =>
      let k := c.task t
      match k.wait with
      | some (.move mp (some sq) none) =>
        if mp = n ∧ sq = g.runSeq then c.setTask t { k with wait := some (.move mp (some sq) (some cause)) } else c
      | _ => c) c
    raiseEv (if cause = 1 then Event.MOTION_MOVE_DONE else Event.MOTION_MOVE_ABORTED) n [n, cause, g.runSeq] c
  else c

/-- Whether generator `n` drives a retired axis. -/
def mpRetired (c : Chip) (n : Nat) : Bool := decide (n < 32) && (c.ax n).retired

/-- The target in effect from the record, clamped to the soft limits where they act (R211). -/
def takeTarget (n : Nat) (c : Chip) : Chip :=
  let g := c.mp n
  let t := mpTarget c.mem n
  if mB c.mem (mpRec n) 5 ∧ (32 ≤ n ∨ g.homed) then
    let l := softLim c n
    let t' := clampInt l.1 l.2 t
    let c := c.setMp n { g with target := t', soft := decide (t' ≠ t) }
    if t' ≠ t then raiseEv Event.MOTION_SOFT_CLAMP n [n] c else c
  else c.setMp n { g with target := t, soft := false }

/-- The writes of TARGET that apply at one rim form one move (R207). -/
def newMove (n : Nat) (c : Chip) : Chip :=
  let g := c.mp n
  let sq := (g.seq + 1) % 0x10000
  if (g.mode = .hold ∨ g.mode = .position) ∧ g.hFail.isNone ∧ mpConfigured c.mem n ∧ ¬ g.forced ∧ ¬ guardQstop c n ∧ c.dev ≠ .safeIdle
      ∧ ¬ mpRetired c n then
    let c := endMove n 7 c
    let c := wrF (mpRec n) 2 0 1 (c.setMp n { c.mp n with
      seq := sq, runSeq := sq, running := true, mode := .position, cause := 0, endAs := none })
    takeTarget n c
  else
    -- not accepted: the move ends at once under its own number, whatever other move runs
    let c := c.setMp n { g with seq := sq, runSeq := sq, running := true }
    let c := endMove n 8 c
    c.setMp n { c.mp n with running := g.running, runSeq := if g.running then g.runSeq else sq, endAs := g.endAs }

/-- The generator is quick-stopped, or stays at rest in HOLD; a running move will end with `cause` (R206). -/
def quickStop (n cause : Nat) (c : Chip) : Chip :=
  let g := c.mp n
  let c := c.setMp n { g with hFail := if g.mode = .homing then g.hFail.or (some 3) else g.hFail }
  let g := c.mp n
  if g.vel ≠ 0 then c.setMp n { g with mode := .quickStop, endAs := g.endAs.or (some cause) }
  else endMove n ((g.endAs).getD cause) (c.setMp n { g with mode := .hold })

/-- Homing may start (R215). -/
def canHome (c : Chip) (n : Nat) : Bool :=
  decide (n < 32) && decide (c.dev = .run) && mpConfigured c.mem n && mpAxisEn c.mem n && decide ((c.mp n).mode ≠ .quickStop)
    && (c.mp n).hFail.isNone && !(c.mp n).forced

/-- The homing program of generator `n` starts (R215). -/
def startHoming (n : Nat) (c : Chip) : Chip :=
  let g := c.mp n
  c.setMp n { g with
    mode := .homing, homed := false, phase := 0, hStart := true, hEnding := false, hBacking := false, hBacked := false,
    hNeg := false, hEdge := none, hFail := none, endAs := if g.running then g.endAs.or (some 6) else none }

/-- A write of MODE_REQ applies at the rim (R206, R207, R208). -/
def applyMpMode (n : Nat) (c : Chip) : Chip :=
  let g := c.mp n
  let req := mpModeReq c.mem n
  if c.dev = .safeIdle ∨ !mpConfigured c.mem n ∨ g.mode = .quickStop ∨ g.forced ∨ g.hFail.isSome then c
  else if g.mode = .homing then c.setMp n { g with mode := .hold, hFail := some 3 }
  else
    let leave (g : MpSt) : MpSt := { g with endAs := if g.running then g.endAs.or (some 6) else none }
    match req with
    | 0 => c.setMp n { (if g.mode = .position then leave g else g) with mode := .hold }
    | 1 => takeTarget n (c.setMp n { g with mode := .position, endAs := none })
    | 2 => c.setMp n { (if g.mode = .position then leave g else g) with mode := .velocity }
    | _ => if canHome c n then startHoming n c else c

/-- Record a MOTION_REFUSED or a CMD_REFUSED (R223). -/
def refuseMotion (n reason : Nat) (isCmd : Bool) (c : Chip) : Chip :=
  wr32 Reg.MOTION_REFUSE_STAT (Word.ofNat (n + 0x80 * isCmd.toNat + 0x100 * reason)) c

/-- A HOME bit at the rim (R215, R223). -/
def homeCommand (n : Nat) (c : Chip) : Chip :=
  if canHome c n then startHoming n c
  else raiseEv Event.MOTION_CMD_REFUSED n [n, 2] (refuseMotion n 2 true c)

/-- SET_POS_CMD at the rim (R223). -/
def setPosCommand (n : Nat) (c : Chip) : Chip :=
  let g := c.mp n
  if g.mode = .hold ∧ g.vel = 0 ∧ (c.dev = .run ∨ c.dev = .safeIdle) then
    let p := rdI64 c Reg.MOTION_SET_POS
    mpSetTarget n p (c.setMp n { g with pos := 256 * p, target := p, homed := g.homed || decide (n < 32) })
  else raiseEv Event.MOTION_CMD_REFUSED n [n, 3] (refuseMotion n 3 true c)

/-! ### Latching (R212–R214) -/

/-- Record a latched position and raise POS_LATCH. -/
def latchAt (n : Nat) (p : Int) (tick : Nat) (lvl : Bool) (c : Chip) : Chip :=
  let c := c.setMp n { c.mp n with latchPos := p, latchTick := tick, latchLvl := lvl }
  raiseEv Event.MOTION_POS_LATCH n [n, pw p, pw (p / 0x100000000), tick % 0x100000000] c

/-- The fine position that the stepper drive had applied at an instant (R212): the present one, less every change after that instant. -/
def fineAt (f : Int) (t : Nat) : List (Nat × Int) → Int
  | [] => f
  | (k, before) :: rest => if k ≤ t then f else fineAt before t rest

/-- The fine position of an axis changes at an instant. The changes kept reach back over the longest DEBOUNCE (R209, R212). -/
def AxSt.setFine (a : AxSt) (t : Nat) (f : Int) : AxSt :=
  if f = a.f then a else { a with f := f, moved := true, fHist := ((t, a.f) :: a.fHist).take 1024 }

/-- The phase of this tick at which an instant falls: 0 where it lies before the tick. -/
def phaseAt (c : Chip) (t : Nat) : Nat := t - c.cyc

/-- A chatter window closes, once its ticks are over (R213). -/
def closeChatter (n which : Nat) (c : Chip) : Chip :=
  let g := c.mp n
  match g.chatWins.find? (fun w => decide (w.which = which)) with
  | none => c
  | some w =>
    if c.cyc + tickN c ≤ w.close then c else
    let c := atPhase (phaseAt c w.close) (c.setMp n { g with chatWins := g.chatWins.filter (fun x => decide (x.which ≠ which)) })
    if w.count ≠ 0 then raiseEv Event.MOTION_CHATTER n [n, w.count] c else c

/-- Whether a switch's chatter window is open at an instant. -/
def chatterOpen (g : MpSt) (which t : Nat) : Bool :=
  g.chatWins.any (fun w => decide (w.which = which) && decide (t < w.close))

/-- A raw edge of an input counts in every chatter window that is open on it (R213). -/
def chatterEdge (code t : Nat) (c : Chip) : Chip :=
  forEach 32 (fun n c => forEach 3 (fun which c =>
    let g := c.mp n
    if swSrc c.mem n which = code ∧ chatterOpen g which t then
      c.setMp n { g with
        chatter := satInc 16 g.chatter,
        chatWins := g.chatWins.map (fun w => if w.which = which then { w with count := w.count + 1 } else w) }
    else c) c) c

/-- DEBOUNCE of axis `n`, in CK_TIME cycles. -/
def swDeb (c : Chip) (n : Nat) : Nat := 250 * mF c.mem (axCfg n + 4) 7 0

/-- An edge of a switch of axis `n`, with its time stamp, is qualified (R209, R212, R213): the latest raw edge of its input, whose level has
held for DEBOUNCE within this tick. At a SHADOW the inputs move by the owner's edges alone (R222). -/
def edgeQualified (n which : Nat) (level : Bool) (tick phase : Nat) (c : Chip) : Chip :=
  let src := swSrc c.mem n which
  let t := instant c tick phase
  if src = 0xFF ∨ (c.pin src).raw ≠ level ∨ (c.pin src).since ≠ t ∨ c.cyc + tickN c ≤ t + swDeb c n
      ∨ chatterOpen (c.mp n) which t then c else
  let c := atPhase (phaseAt c (t + swDeb c n)) (closeChatter n which c)
  let p := fineAt (c.ax n).f t (c.ax n).fHist
  let active := level != swLow c.mem n which
  let g := c.mp n
  let win := mF c.mem (axCfg n + 4) 15 8
  let c := c.setMp n { g with
    edges := g.edges ++ [⟨which, active, t, p⟩],
    chatWins := if win = 0 then g.chatWins else g.chatWins ++ [⟨which, t + win * tickN c, 0⟩] }
  if which = 0 ∨ g.mode = .homing then latchAt n p tick active c else c

/-- The lead of the Wirid port that places a signal (R307), in CK_TIME cycles. -/
def leadOf (m : Tab Byte) (sig : Nat) : Nat :=
  match (List.range 8).find? (fun p =>
      decide (mF m (0xC090 + 32 * p) 13 0 ≤ sig)
        && decide (sig < mF m (0xC090 + 32 * p) 13 0 + mF m (0xC090 + 32 * p) 26 16)) with
  | some p => mF m (0xC088 + 32 * p) 15 0
  | none => 0

/-- The commanded position at the head at instant `e` (R214): interpolated between the commands kept, latest first, each with its P_APPLY. -/
def commandAt (e : Int) : List (Nat × Int) → Option Int
  | [] => none
  | (k, p) :: rest =>
    if (k : Int) ≤ e then some p
    else match rest with
      | [] => none
      | (j, q) :: _ =>
        if (j : Int) ≤ e then some (q + roundDiv ((p - q) * (e - j)) (k - j)) else commandAt e rest

/-- A read by the profile pass: of the working buffer, ahead of the guard merge (R202). -/
def passRead (c : Chip) (i : Nat) : BoardWord := (tabFind c.unforced i).getD (boardNow c i)

/-- The latch word of a remote generator is judged in its pass (R214). -/
def remoteLatch (n : Nat) (c : Chip) : Chip :=
  if n < 32 ∨ !mB c.mem (mpRec n + 0x34) 14 then c else
  let sig := mF c.mem (mpRec n + 0x34) 13 0
  let w := passRead c sig
  if !w.valid ∨ !wbit w.val 31 then c else
  let g := c.mp n
  let sq := fld w.val 23 16
  match g.lastSeq with
  | none => c.setMp n { g with lastSeq := some sq }
  | some old =>
    if sq = old then c else
    let missed := (sq + 256 - old) % 256 - 1
    let back : Int := leadOf c.mem sig + fld w.val 14 0
    let c := c.setMp n { g with lastSeq := some sq, chatter := min (g.chatter + missed) 0xFFFF }
    match commandAt (c.cyc - back) g.hist with
    | some p => latchAt n p (c.tick - (back + tickN c - 1) / tickN c).toNat (wbit w.val 24) c
    | none => raiseEv Event.MOTION_LATCH_LOST n [n] c

/-! ### Homing (R215–R217) -/

/-- Homing fails (R217): the generator comes to rest, and HOME_FAIL is raised there. -/
def failHoming (n cause : Nat) (quick : Bool) (c : Chip) : Chip :=
  c.setMp n { c.mp n with mode := if quick then .quickStop else .hold, hFail := (c.mp n).hFail.or (some cause) }

/-- The limit in the direction of travel of the present phase: its switch number. -/
def limitAhead (c : Chip) (n : Nat) : Nat :=
  let g := c.mp n
  let v := rdI c (homePh n g.phase)
  if (v > 0) != g.hNeg then 1 else 2

/-- Whether an edge of a switch to a level is the phase's ending edge. -/
def endsPhase (c : Chip) (n which : Nat) (active : Bool) : Bool :=
  match mF c.mem (homePh n (c.mp n).phase + 4) 1 0 with
  | 0 => decide (which = 0) && active
  | 1 => decide (which = 0) && !active
  | _ => decide (which = limitAhead c n) && active

/-- A qualified edge acts in the pass (R210, R215, R216). -/
def actEdge (n : Nat) (e : SwEdge) (c : Chip) : Chip :=
  let g := c.mp n
  let c := c.setMp n (match e.which with
    | 0 => { g with qHome := e.active } | 1 => { g with limP := e.active } | _ => { g with limN := e.active })
  let g := c.mp n
  if g.mode = .homing ∧ ¬ g.hEnding ∧ ¬ g.hStart then
    if endsPhase c n e.which e.active then c.setMp n { g with hEnding := true, hBacking := false, hEdge := some e.pos }
    else if e.which ≠ 0 ∧ e.active ∧ e.which = limitAhead c n then
      match mF c.mem (homePh n g.phase + 4) 3 2 with
      | 0 => failHoming n 1 true c
      | 1 => if g.hBacked then failHoming n 4 true c else c.setMp n { g with hBacking := true, hBacked := true }
      | _ => c.setMp n { g with hEnding := true, hEdge := some e.pos }
    else c
  else c

/-- The present phase has come to rest after its ending edge (R215): re-reference, then the next phase or the end. -/
def phaseDone (n : Nat) (c : Chip) : Chip :=
  let g := c.mp n
  let ctl := homePh n g.phase + 4
  let latch := mB c.mem ctl 4
  if latch ∧ g.hEdge.isNone then failHoming n 2 false c
  else
    let d := if latch then rdI64 c (axCfg n + 8) - g.hEdge.getD 0 else 0
    let c := if latch then mpSetTarget n (sx 64 (unsx 64 (mpTarget c.mem n + d))) c else c
    let g := { g with pos := sx 72 (unsx 72 (g.pos + 256 * d)), target := g.target + d, hEnding := false, hEdge := none,
                      hBacking := false, hBacked := false, hNeg := false }
    if mB c.mem ctl 5 then
      let c := c.setMp n { g with mode := .hold, homed := true }
      let c := if mB c.mem (axCfg n + 4) 24 then
          { c with homeFlags := c.homeFlags ++ [mF c.mem (axCfg n + 4) 23 16] } else c
      raiseEv Event.MOTION_HOME_DONE n [] c
    else if g.phase = 3 then failHoming n 2 false (c.setMp n g)
    else c.setMp n { g with phase := g.phase + 1, hStart := true }

/-! ### The pass (R202) -/

/-- The soft limits that act on generator `n` (R211). -/
def softActs (c : Chip) (n : Nat) : Option (Int × Int) :=
  if mB c.mem (mpRec n) 5 ∧ (32 ≤ n ∨ (c.mp n).homed) then
    some (256 * (softLim c n).1, 256 * (softLim c n).2) else none

/-- The velocity command of R205, with 24 fractional bits. -/
def velCommand (c : Chip) (n : Nat) : Int :=
  let vm := (ratesOf c.mem n).vm
  let v := if mB c.mem (mpRec n) 4 then
      let w := passRead c (mF c.mem (mpRec n + 0x2C) 13 0)
      if w.valid then roundDiv (w.val.toInt * mpI c.mem n 0x30) (2 ^ 20) else 0
    else 256 * mpI c.mem n 0x04
  clampInt (-vm) vm v

/-- The causes that stop a generator act before its step (R206, R210). -/
def stopCauses (n : Nat) (c : Chip) : Chip :=
  let g := c.mp n
  let c := c.setMp n { g with forced := guardQstop c n }
  let g := c.mp n
  if g.forced ∧ g.mode ≠ .quickStop then quickStop n 3 c
  else if c.dev = .safeIdle ∧ g.mode ≠ .quickStop ∧ (g.mode ≠ .hold ∨ g.vel ≠ 0) then quickStop n 10 c
  else if g.mode ≠ .homing ∧ n < 32 then
    let lim (side : Nat) (active : Bool) (dir : Int) (c : Chip) : Chip :=
      let g := c.mp n
      if !active then c else
      let towards := decide (g.mode = .position) && decide (sgn (sx 72 (unsx 72 (256 * g.target - g.pos))) = dir)
      let c := if towards then endMove n 4 (c.setMp n { g with mode := .hold }) else c
      let g := c.mp n
      if sgn g.vel = dir ∧ g.mode ≠ .quickStop then
        let c := quickStop n 4 c
        raiseEv Event.MOTION_LIMIT_STOP n [n, side, pw (pubPos g), pw (pubPos g / 0x100000000)] c
      else c
    lim 1 g.limN (-1) (lim 0 g.limP 1 c)
  else c

/-- A phase that starts finds its level held already, or begins to move (R215). -/
def startPhase (n : Nat) (c : Chip) : Chip :=
  let g := c.mp n
  if g.mode = .homing ∧ g.hStart then
    let c := c.setMp n { g with hStart := false }
    let g := c.mp n
    let held := match mF c.mem (homePh n g.phase + 4) 1 0 with
      | 0 => g.qHome
      | 1 => !g.qHome
      | _ => if limitAhead c n = 1 then g.limP else g.limN
    if held then c.setMp n { g with hEnding := true, hEdge := none } else c
  else c

/-- A generator that a COMMIT leaves unconfigured goes to HOLD, whatever it does (R218): its move and its homing end. -/
def unconfigured (n : Nat) (c : Chip) : Chip :=
  let g := c.mp n
  if mpConfigured c.mem n ∨ g.mode = .hold ∨ g.mode = .quickStop then c
  else c.setMp n { g with
    mode := .hold, endAs := if g.running then g.endAs.or (some 6) else none,
    hFail := if g.mode = .homing then g.hFail.or (some 3) else g.hFail }

/-- The step of the mode in effect. The rates of an unconfigured generator meet no check (R219): one that could not slow it stops it at once. -/
def modeStep (c : Chip) (n : Nat) : StepOut :=
  let g := c.mp n
  let r := ratesOf c.mem n
  match g.mode with
  | .quickStop => if r.ds ≤ 0 then ⟨0, 0, 0, false⟩ else quickStep r g.vel
  | .hold => if r.d1 ≤ 0 ∨ r.d2 ≤ 0 then ⟨0, 0, 0, false⟩ else velocityStep r 0 g.vel
  | .position => positionStep r (sx 72 (unsx 72 (256 * g.target - g.pos))) g.vel
  | .velocity =>
    let vt := velCommand c n
    let vt := if (g.limP ∧ vt > 0) ∨ (g.limN ∧ vt < 0) then 0 else vt
    softVelocity r g.pos vt g.vel (softActs c n)
  | .homing =>
    if g.hBacking then quickStep r g.vel
    else if g.hEnding then velocityStep r 0 g.vel
    else
      let v := 256 * rdI c (homePh n g.phase)
      velocityStep r (if g.hNeg then -v else v) g.vel

/-- A move that another mode has taken over ends where its generator comes to rest, or passes through rest from the velocity `old` (R208). -/
def restMove (n : Nat) (old : Int) (c : Chip) : Chip :=
  let g := c.mp n
  if g.mode ≠ .position ∧ g.running ∧ (g.vel = 0 ∨ (old ≠ 0 ∧ sgn old ≠ sgn g.vel)) then endMove n (g.endAs.getD 6) c else c

/-- What coming to rest brings: the end of a move, of a homing phase, of BACK_OFF or of a failed homing. -/
def atRest (n : Nat) (landed : Bool) (old : Int) (c : Chip) : Chip :=
  let c := restMove n old c
  let g := c.mp n
  if g.vel ≠ 0 then c else
  match g.mode with
  | .position => if landed then endMove n (if g.soft then 5 else 1) c else c
  | .homing =>
    if g.hBacking then c.setMp n { g with hBacking := false, hNeg := !g.hNeg }
    else if g.hEnding then phaseDone n c else c
  | _ =>
    let c := if g.mode = .quickStop then c.setMp n { g with mode := .hold } else c
    match g.hFail with
    | some f => raiseEv Event.MOTION_HOME_FAIL n [n, g.phase, f] (c.setMp n { c.mp n with hFail := none, homed := false })
    | none => c

/-- One generator in the profile pass (R202): the qualified edges whose DEBOUNCE was over by this tick's P_IN (R210), the causes that stop it,
its step, and the latch word of a remote one, which this tick's command may bracket (R214). -/
def mpPass (n : Nat) (c : Chip) : Chip :=
  let g := c.mp n
  let deb := swDeb c n
  let due (e : SwEdge) : Bool := decide (e.stamp + deb ≤ c.cyc)
  let c := c.setMp n { g with edges := g.edges.filter (fun e => !due e) }
  let c := forAll (g.edges.filter due) (actEdge n) c
  let c := startPhase n (stopCauses n (unconfigured n c))
  let s := modeStep c n
  let g := c.mp n
  let old := g.vel
  let c := c.setMp n { g with
    vel := s.vel, pubVel := s.pub,
    pos := if s.land ∧ g.mode = .position then 256 * g.target else sx 72 (unsx 72 (g.pos + s.move)) }
  let c := atRest n s.land old c
  let g := c.mp n
  remoteLatch n (c.setMp n { g with
    hist := if n < 32 then [] else ((c.cyc + pOutPhase c + dApply c, pubPos g) :: g.hist).take 8 })

/-- What a generator publishes, written in the merge cycles (R201, R202). -/
def mpPublish (n : Nat) (c : Chip) : Chip :=
  let g := c.mp n
  let p := unsx 64 (pubPos g)
  let t := 4 * (pOutPhase c - 57)
  boardWr t (Sig.mpPosLo n) (Word.ofNat p) true (boardWr t (Sig.mpPosHi n) (Word.ofNat (p / 0x100000000)) true
    (boardWr t (Sig.mpVel n) (Word.ofInt (roundDiv g.pubVel 256)) true c))

/-- The profile pass (R202). -/
def profilePass (c : Chip) : Chip :=
  let c := atPhase (pOutPhase c - 125) c
  forEach 128 mpPublish (forEach 128 mpPass c)

/-! ### The checks of a COMMIT (Table 4 of R219) -/

/-- Whether a DIO pin is a valve output or belongs to a step/direction channel. -/
def pinUsed (m : Tab Byte) (pin : Nat) : Bool :=
  decide (mF m (Reg.INPUT_DIO_CFG + 4 * pin) 1 0 = 2)
    || (List.range 64).any (fun v =>
      let r := (mrd8 m (Reg.TASK_VALVE_ROUTE + v)).toNat
      decide (128 ≤ r) && decide (r % 64 = pin))

/-- The first LAST phase of a homing program. -/
def lastPhase (m : Tab Byte) (a : Nat) : Option Nat := (List.range 4).find? (fun i => mB m (homePh a i + 4) 5)

/-- Whether a homing program breaks a rule; a program of zeros is none. -/
def homeBad (m : Tab Byte) (a : Nat) : Bool :=
  let used := (List.range 8).any (fun i => decide (mrd32 m (homePh a 0 + 4 * i) ≠ 0))
  used && (match lastPhase m a with
    | none => true
    | some l => (List.range (l + 1)).any (fun i =>
        let v := (mrd32 m (homePh a i)).toInt
        decide (v = 0) || decide ((v.natAbs : Int) > mpI m a 0x14) || decide (mF m (homePh a i + 4) 1 0 = 3)
          || decide (mF m (homePh a i + 4) 3 2 = 3)))

/-- The breaches of Table 4 by the generators whose tables a COMMIT writes. -/
def motionBreaches (m : Tab Byte) (written : List Nat) : List Refused :=
  let conf := written.filter (mpConfigured m)
  let rate := [0x18, 0x1C, 0x20, 0x24, 0x28]
  (conf.filter (fun n => decide (mpI m n 0x08 > mpI m n 0x10) || decide (mpI m n 0x10 > mpI m n 0x14)
      || decide (mpI m n 0x0C > mpI m n 0x10) || decide (mpI m n 0x08 < 0) || decide (mpI m n 0x0C < 0))).map (fun n => ⟨1, n, 0⟩)
  ++ (conf.filter (fun n => rate.any (fun o => decide (mpI m n o ≤ 0)) || decide ((ratesOf m n).vs > (ratesOf m n).vm)
      || decide ((ratesOf m n).ve > (ratesOf m n).vm))).map (fun n => ⟨2, n, 0⟩)
  ++ (written.filter (fun n => sigReserved (mF m (mpRec n + 0x2C) 13 0) || sigReserved (mF m (mpRec n + 0x34) 13 0))).map
      (fun n => ⟨3, n, 0⟩)
  ++ (written.filter (fun n =>
      let s (o : Nat) : Int := sx 64 ((mrd32 m (Reg.MOTION_SOFT_LIM + 16 * n + o)).toNat
        + 0x100000000 * (mrd32 m (Reg.MOTION_SOFT_LIM + 16 * n + o + 4)).toNat)
      decide (s 0 > s 8))).map (fun n => ⟨4, n, 0⟩)
  ++ ((written.filter (fun n => decide (n < 32))).filter (fun n =>
      let src := (List.range 3).map (swSrc m n)
      let named := src.filter (fun x => decide (x ≠ 0xFF))
      src.any (fun x => decide (144 ≤ x) && decide (x ≠ 0xFF)) || decide (named.eraseDups.length ≠ named.length)
        || named.any (fun x => decide (96 ≤ x) && decide (x < 144) && pinUsed m (x - 96)))).map (fun n => ⟨5, n, 0⟩)
  ++ ((written.filter (fun n => decide (n < 32))).filter (homeBad m)).map (fun n => ⟨6, n, 0⟩)
  ++ (written.filter (fun n => decide (3 < mpModeReq m n) || (decide (32 ≤ n) && (decide (mpModeReq m n = 3) || mpAxisEn m n))
      || (decide (n < 32) && decide (mF m (mpRec n + 0x34) 14 0 ≠ 0)))).map (fun n => ⟨7, n, 0⟩)

/-! ### Restart and registers (R221, R223) -/

/-- A generator after a held-output restart or a degraded takeover (R221, R410): at rest in HOLD, its move ended with cause RESTART. -/
def mpRestarted (n : Nat) (raise : Bool) (c : Chip) : Chip :=
  let g := c.mp n
  let moving := decide (g.vel ≠ 0)
  let c := endMove n 9 c
  let g := c.mp n
  let fast := decide ((g.vel.natAbs : Int) > (ratesOf c.mem n).ve)
  let c := c.setMp n { g with
    vel := 0, pubVel := 0, mode := .hold, forced := false, hFail := none, hStart := false, hEnding := false, hBacking := false,
    pos := if n < 32 then 256 * (c.ax n).f else 256 * pubPos g, homed := g.homed && !(decide (n < 32) && fast),
    edges := [], chatWins := [], hist := [] }
  if moving ∧ raise then raiseEv Event.MOTION_RESTART_STOP n [n] c else c

/-- The switches of the local axes take the levels of their inputs, where a configuration or a restart has named them (R209, R220). -/
def takeSwitches (c : Chip) : Chip := forEach 32 (fun n c => forEach 3 (swTake n) c) c

/-- After a COMMIT of the page: a switch with a new input or polarity takes its level. `m` is the memory before it. -/
def switchEffects (m : Tab Byte) (n : Nat) (c : Chip) : Chip :=
  forEach 3 (fun w c => if swSrc m n w = swSrc c.mem n w ∧ swLow m n w = swLow c.mem n w then c else swTake n w c) c

/-- The code of a mode in SEL_STATE. -/
def mpModeCode : MpMode → Nat
  | .hold => 0 | .position => 1 | .velocity => 2 | .homing => 3 | .quickStop => 4

/-- The MOTION page's status registers at the rim (R223). -/
def showMotion (c : Chip) : Chip :=
  let live := tabKeys c.mps
  let moving (n : Nat) : Bool := decide ((c.mp n).vel ≠ 0)
  let c := wr32 Reg.MOTION_MP_COUNT (Word.ofNat ((live.filter moving).length
    + 0x100 * (live.filter (fun n => decide ((c.mp n).mode = .quickStop))).length)) c
  let n := rdF c Reg.MOTION_STAT_SEL 6 0
  let g := c.mp n
  let c := wr32 Reg.MOTION_SEL_STATE (Word.ofNat (mpModeCode g.mode + 8 * (decide (g.vel = 0)).toNat + 0x10 * g.homed.toNat
    + 0x20 * g.limP.toNat + 0x40 * g.limN.toNat + 0x80 * g.forced.toNat + 0x100 * g.phase + 0x1000 * g.cause + 0x10000 * g.seq)) c
  let p := pubPos g
  let c := wr32 Reg.MOTION_SEL_POS (Word.ofInt p) (wr32 (Reg.MOTION_SEL_POS + 4) (Word.ofInt (p / 0x100000000)) c)
  let c := wr32 Reg.MOTION_SEL_VEL (Word.ofInt (roundDiv g.pubVel 256)) c
  let c := wr32 Reg.MOTION_SEL_LATCH (Word.ofInt g.latchPos)
    (wr32 (Reg.MOTION_SEL_LATCH + 4) (Word.ofInt (g.latchPos / 0x100000000)) c)
  let c := wr32 Reg.MOTION_SEL_LATCH_TICK (Word.ofNat g.latchTick) (wr32 Reg.MOTION_SEL_CHATTER (Word.ofNat g.chatter) c)
  let homed (n : Nat) : Bool := (c.mp n).homed
  let lp (n : Nat) : Bool := (c.mp n).limP
  let ln (n : Nat) : Bool := (c.mp n).limN
  wrMap Reg.MOTION_MOVING_MAP 4 moving (wrMap Reg.MOTION_HOMED_MAP 1 homed
    (wrMap Reg.MOTION_LIMP_MAP 1 lp (wrMap Reg.MOTION_LIMN_MAP 1 ln c)))

end Sys2Proof.Machine
end

