-- ==== Sys2Proof/Machine/Task.lean ====
section
/-!
DEFINITION. Machine/Task.lean: tasks, the scheduler, the step engines and the step operations (R163–R199).
-/
namespace Sys2Proof.Machine

open Sys2Proof

/-! ### Task contexts (R178) -/

def taskEntry (m : Tab Byte) (t : Nat) : Nat := mF m (taskCfg t) 16 0
def taskPrio (m : Tab Byte) (t : Nat) : Nat := mF m (taskCfg t) 21 17
def taskRunStart (m : Tab Byte) (t : Nat) : Bool := mB m (taskCfg t) 22

/-- READY, RUNNING, WAITING, BLOCKED and SUSPENDED tasks are live (R165, R197). -/
def stateLive : TaskState → Bool
  | .ready | .running | .waiting | .blocked | .suspended => true
  | .dormant | .cancelled | .done | .faulted => false

/-- A task may be started from these states (Table 5 of R179). -/
def stateStartable (s : TaskState) : Bool := !stateLive s

/-- The tasks with a context that differs from its reset value. -/
def taskList (c : Chip) : List Nat := (tabKeys c.tasks).filter (fun t => decide (1 ≤ t) && decide (t ≤ 255))

/-- The engine that holds a task. -/
def engineOf (c : Chip) (t : Nat) : Option Nat := (List.range 16).find? (fun e => decide ((c.engine e).task = t))

/-- The engine that holds a task becomes idle. -/
def dropTask (t : Nat) (c : Chip) : Chip :=
  match engineOf c t with
  | some e => c.setEngine e { c.engine e with task := 0, count := 0 }
  | none => c

/-- The ready stamp of what becomes ready at CK_SEQ cycle `cyc` of the tick, next after `n` (R182): stamps are ordered by tick, then by cycle,
then by the order in which they are given. -/
def stampAt (n cyc : Nat) : Nat := n / 2 ^ 44 * 2 ^ 44 + cyc * 2 ^ 24 + n % 2 ^ 24

/-- The stamps of a new tick come after all those of the ticks before (R184). -/
def nextTickStamp (n : Nat) : Nat := (n / 2 ^ 44 + 1) * 2 ^ 44

/-- A task becomes READY at a CK_SEQ cycle of the tick, behind the others of its priority (R182, R184). -/
def makeReady (cyc t : Nat) (c : Chip) : Chip :=
  let c := dropTask t c
  { c.setTask t { c.task t with state := .ready, stamp := stampAt c.nextStamp cyc, wait := none, deadline := none } with
    nextStamp := c.nextStamp + 1 }

/-- The CK_SEQ cycle at which the rim of this tick begins. -/
def rimCycle (c : Chip) : Nat := 2 * rimPhase c

/-- A task starts at an entry with a priority and an empty stack (R177, R179, R198). Sources: 0 host, 1 FORK, 2 RUN_START. -/
def startTask (t entry prio source : Nat) (c : Chip) : Chip :=
  let c := c.setTask t { c.task t with pc := entry, prio := prio, stack := [], steps := 0, suspSafe := false, held := false }
  raiseEv Event.TASK_TASK_START t [t, entry, source] (makeReady (rimCycle c) t c)

/-- A task faults (R191); `req` reports it: the engine of its step, or SE0 for the wake pass and the rim (R507). -/
def faultTask (req t cause : Nat) (c : Chip) : Chip :=
  let k := c.task t
  let c := dropTask t c
  let c := c.setTask t { k with state := .faulted, cause := cause, faultPc := k.pc, wait := none, deadline := none }
  raiseVia Event.TASK_TASK_FAULT req t c.phase [t, cause, k.pc] c

/-- The wake pass makes a task READY at a step, or faults it with BAD_TARGET past the last step (R176, R183). -/
def resumeAt (t pc : Nat) (c : Chip) : Chip :=
  if 131071 < pc then faultTask (reqSE 0) t 2 c else makeReady 0 t (c.setTask t { c.task t with pc := pc })

/-- The phase at which the watcher of task `t` is evaluated: the pass takes the 255 contexts in CK_SEQ cycles 1 to 255, in task-number order
(DESIGN CHOICE: R182 and R183 give the pass 264 cycles and its order, not the cycle of each; log entry 24). -/
def watcherPhase (t : Nat) : Nat := t / 2

/-- Ticks since a task's wait step ran, on the count that wraps (R171, R174). -/
def waitAge (c : Chip) (k : TaskCtx) : Nat := (c.tick + 2 ^ 48 - k.ranTick % 2 ^ 48) % 2 ^ 48

/-! ### The wake pass (R171–R174, R183) -/

/-- Whether a blocked task's step is no longer blocked (R188). -/
def released (c : Chip) (t : Nat) : Bool :=
  let w := (recipeStep c.mem (c.task t).pc).2
  !w.tagEn || (blockingGuard c w.tag).isNone

/-- The consuming waiter that takes flag `f` in this pass, among tasks whose wait step ran before this tick (R174). -/
def flagWinner (c : Chip) (f : Nat) : Option Nat :=
  ((taskList c).filter (fun t =>
      let k := c.task t
      decide (k.state = .waiting) && decide (k.wait = some (.event f true)) && decide (waitAge c k ≠ 0))).foldl
    (fun best t => match best with
      | none => some t
      | some b =>
        let x := c.task t
        let y := c.task b
        if x.prio < y.prio ∨ (x.prio = y.prio ∧ waitAge c y < waitAge c x) then some t else some b) none

/-- The outcome of one evaluation. -/
inductive WaitOutcome where
  | success | timeout | wait
  deriving DecidableEq, Repr

/-- Whether a task's timeout has run out at this tick (R171). -/
def timedOut (c : Chip) (k : TaskCtx) : Bool :=
  match k.deadline with
  | some d => tickReached c.tick d
  | none => false

/-- Whether the watcher's condition holds on this evaluation, with the dwell count it leaves (R171, R172). -/
def watch (c : Chip) (t : Nat) (k : TaskCtx) : Bool × Option Wait :=
  match k.wait with
  | some (.sig s lo hi need d) =>
    let w := settledRd c s
    let inBand := w.valid && decide (lo ≤ w.val.toInt) && decide (w.val.toInt ≤ hi)
    let d' := if inBand then d + 1 else 0
    (inBand && decide (need ≤ d'), some (.sig s lo hi need d'))
  | some (.event f consume) => (c.flag f && (!consume || decide (flagWinner c f = some t)), k.wait)
  | some (.move mp sq e) => (e.isSome, some (.move mp sq e))
  | w => (false, w)

/-- A consuming success clears its flag at once, for host reads too (R174). -/
def consumeFlag (f : Nat) (c : Chip) : Chip := setMapBit Reg.TASK_FLAG f false (c.setFlag f false)

/-- One evaluation of a waiting task's watcher, given the chip as it stood at the start of the pass (R171, R174). -/
def evaluate (c0 : Chip) (t : Nat) (c : Chip) : Chip :=
  let k := c.task t
  if k.state ≠ .waiting ∨ waitAge c k = 0 then c else
  let c := atPhase (watcherPhase t) c
  let r := watch c0 t k
  match k.wait with
  | some (.delay _) => c
  | some (.move _ _ (some cause)) => if cause = 1 then resumeAt t (k.pc + 1) c else faultTask (reqSE 0) t 5 c
  | some (.move _ _ none) => c
  | _ =>
    if r.1 then
      let c := match k.wait with | some (.event f true) => consumeFlag f c | _ => c
      resumeAt t (k.pc + 2) c
    else if timedOut c k then
      resumeAt t (k.pc + 1) (raiseEv Event.TASK_WAIT_TIMEOUT t [t, k.pc] c)
    else c.setTask t { k with wait := r.2 }

/-- Whether a task is delayed with its wake tick reached (R173). -/
def delayDue (c : Chip) (t : Nat) : Bool :=
  let k := c.task t
  decide (k.state = .waiting) && (match k.wait with | some (.delay w) => tickReached c.tick w | _ => false)

/-- Insert by wake tick, then task number. -/
def insertWake (c : Chip) (t : Nat) : List Nat → List Nat
  | [] => [t]
  | u :: rest =>
    let wk (x : Nat) : Nat := match (c.task x).wait with | some (.delay w) => w | _ => 0
    if wk t < wk u ∨ (wk t = wk u ∧ t < u) then t :: u :: rest else u :: insertWake c t rest

/-- A delayed task whose wake tick is reached becomes READY (R173). -/
def delayExpiry (t : Nat) (c : Chip) : Chip :=
  if delayDue c t then resumeAt t ((c.task t).pc + 1) (atPhase (watcherPhase t) c) else c

/-- The wake pass of a tick (R183). A SHADOW_BLIND unit keeps its contexts (R196). -/
def wakePass (c : Chip) : Chip :=
  let c := atPhase 0 c
  if roleCode c = 4 then c else
  let c := forAll ((taskList c).filter (fun t => decide ((c.task t).state = .blocked) && released c t))
    (makeReady 0) c
  let due := ((taskList c).filter (delayDue c)).foldl (fun l t => insertWake c t l) []
  let c := forAll due delayExpiry c
  atPhase 0 (forAll (taskList c) (evaluate c) c)

/-- The timeout of one waiting task, if this evaluation is not a success (R171). -/
def waitTimeout (t : Nat) (c : Chip) : Chip :=
  let k := c.task t
  if k.state = .waiting ∧ waitAge c k ≠ 0 ∧ timedOut c k ∧ (watch c t k).1 = false then evaluate c t c else c

/-! ### Dispatch (R185–R188) -/

/-- The head of the highest-priority non-empty ready list at a CK_SEQ cycle of the tick, entry-held tasks left out (R185, R187). -/
def readyHead (cyc : Nat) (c : Chip) : Option Nat :=
  ((taskList c).filter (fun t => decide ((c.task t).state = .ready) && !(c.task t).held
      && decide ((c.task t).stamp < stampAt (c.nextStamp / 2 ^ 44 * 2 ^ 44) (cyc + 1)))).foldl
    (fun best t => match best with
      | none => some t
      | some b =>
        let x := c.task t
        let y := c.task b
        if x.prio < y.prio ∨ (x.prio = y.prio ∧ x.stamp < y.stamp) then some t else some b) none

/-- The last CK_SEQ cycle at which a step may start or a task be delivered: none of the last 16 before the rim (Table 6). -/
def lastStart (c : Chip) : Nat := rimCycle c - 17

/-- Whether the scheduler dispatches (R189, R196). -/
def dispatchOpen (c : Chip) : Bool :=
  decide (c.dev = .run) && decide (roleCode c ≠ 4) && decide (150 ≤ c.phase)

/-- The engines that ask for work at a CK_SEQ cycle (R185). -/
def asking (c : Chip) (cyc : Nat) : List Nat :=
  (List.range 16).filter (fun e => decide ((c.engine e).task = 0) && decide ((c.engine e).free ≤ cyc))

/-- The engine's next step starts, or it asks for work, no earlier than a CK_SEQ cycle. -/
def engineTo (e cyc : Nat) (c : Chip) : Chip := c.setEngine e { c.engine e with free := cyc }

/-- The cycle at which the scheduler can next grant: one request a cycle (R29, R185). -/
def grantCycle (c : Chip) : Nat := max (2 * c.phase) c.seFree

/-- The grant of an idle engine (R185): to the engine whose turn it is under R29, delivered two cycles later. A grant that finds every list
empty, or whose delivery would fall past the last step start, is none. -/
def grantTask (e : Nat) (c : Chip) : Chip :=
  let g := grantCycle c
  if roundRobin c.sePtr (asking c g) ≠ some e ∨ lastStart c < g + 2 then c else
  match readyHead g c with
  | none => c
  | some t =>
    let c := c.setTask t { c.task t with state := .running }
    let c := c.setEngine e { c.engine e with task := t, count := 0, free := g + 2 }
    regInc Reg.TASK_DISPATCH_COUNT { c with sePtr := e + 1, seFree := g + 1 }

/-- The grants of the commit queue's arbiter (R29, R30): in each CK_SEQ cycle from `cyc` one of the entries asked for by then, of the first
engine at or after the pointer; each with the cycle of its grant. -/
def cqGrants : Nat → Nat → Nat → List CtlEntry → List (CtlEntry × Nat)
  | 0, _, _, _ => []
  | n + 1, cyc, ptr, l =>
    match (l.map (·.cyc)).min? with
    | none => []
    | some first =>
      let t := max cyc first
      let want := l.filter (fun k => decide (k.cyc ≤ t))
      match (roundRobin ptr ((List.range 16).filter (fun e => want.any (fun k => decide (k.engine = e))))).bind
          (fun e => want.find? (fun k => decide (k.engine = e))) with
      | none => []
      | some k => (k, t) :: cqGrants n (t + 1) (k.engine + 1) (l.erase k)

/-- The grants of this tick's control-plane entries, in acceptance order (R187). -/
def cqAccepted (c : Chip) : List (CtlEntry × Nat) := cqGrants c.cqueue.length 0 c.cqPtr c.cqueue

/-- A control-plane entry asks to enter the commit queue at the boundary `b` of its step; where its grant comes later, the engine's next step
starts only after it (R187). -/
def stageEntry (e b : Nat) (op : CtlOp) (c : Chip) : Chip :=
  let c := { c.setEngine e { c.engine e with entries := (c.engine e).entries + 1 } with cqueue := c.cqueue ++ [⟨e, op, b⟩] }
  match (cqAccepted c).find? (fun k => decide (k.1.engine = e) && decide (k.1.cyc = b)) with
  | some k => if k.2 = b then c else engineTo e (k.2 + 1) c
  | none => c

/-- What a step does (R167, Table 2), its operands being in order. -/
inductive StepAct where
  | fault (cause : Nat)
  | stage (op : CtlOp) (blocks : Bool)
  | delay (n : Nat)
  | await (w : Wait) (ticks : Nat)
  | jump (pc : Nat)
  | call (pc : Nat)
  | ret
  | mark (num : Word)
  | done
  deriving DecidableEq, Repr

/-- The 64-bit target of a MOVE. -/
def moveTarget (w : StepWord) : Int := sx 64 (w.w2.toNat + 0x100000000 * w.w3.toNat)

/-- The condition of a BRANCH (Table 3 of R175), before NEG; `none` where an operand is reserved. -/
def branchCond (c : Chip) (w : StepWord) : Option Bool :=
  let s := settledRd c (bitsOf w.a 13 0)
  let sigA := decide (w.a < 0x4000)
  let byteA := decide (w.a < 0x100)
  match fld w.w1 19 17 with
  | 1 => if sigA ∧ w.w3 = 0 then some (s.valid && decide (w.w2.toInt < s.val.toInt)) else none
  | 2 => if sigA ∧ w.w3 = 0 then some (s.valid && decide (s.val.toInt < w.w2.toInt)) else none
  | 3 => if sigA then some (s.valid && decide (w.w2.toInt ≤ s.val.toInt) && decide (s.val.toInt ≤ w.w3.toInt)) else none
  | 4 => if byteA ∧ w.w2 = 0 ∧ w.w3 = 0 then some (c.flag w.a) else none
  | 5 => if byteA ∧ fld w.w2 31 9 = 0 ∧ w.w3 = 0 then some (wbit w.w2 (tabGet (fun _ => 0) c.rimTasks w.a)) else none
  | 6 => if byteA ∧ w.w2 = 0 ∧ w.w3 = 0 then some (tabGet (fun _ => false) c.rimGuards w.a) else none
  | 7 => if sigA ∧ w.w2 = 0 ∧ w.w3 = 0 then some s.valid else none
  | _ => none

/-- SET (R167): SP_CONST takes the value and SP_RAMP zero. -/
def actSet (w : StepWord) : StepAct :=
  if 0x800 ≤ w.a ∨ w.w2 ≠ 0 ∨ w.w3 ≠ 0 then .fault 1 else .stage (.setpoint w.a w.w1 0) false

/-- RAMP (R167). -/
def actRamp (w : StepWord) : StepAct :=
  if 0x800 ≤ w.a ∨ w.w2.toInt < 0 ∨ w.w3 ≠ 0 then .fault 1 else .stage (.setpoint w.a w.w1 w.w2) false

/-- VALVE (R168). -/
def actValve (w : StepWord) : StepAct :=
  if 2 ≤ w.a ∨ w.w3 ≠ 0 then .fault 1 else .stage (.valve (decide (w.a = 1)) w.w1 w.w2) false

/-- MOVE (R169). -/
def actMove (t : Nat) (w : StepWord) : StepAct :=
  if 0x80 ≤ w.a ∨ fld w.w1 31 2 ≠ 0 then .fault 1
  else .stage (.move w.a (wbit w.w1 0) (moveTarget w) (if wbit w.w1 1 then some t else none)) (wbit w.w1 1)

/-- MODE (R167): 0b111 is no mode. -/
def actMode (w : StepWord) : StepAct :=
  if 0x800 ≤ w.a ∨ fld w.w1 31 3 ≠ 0 ∨ fld w.w1 2 0 = 7 ∨ w.w2 ≠ 0 ∨ w.w3 ≠ 0 then .fault 1
  else .stage (.mode w.a (fld w.w1 2 0)) false

/-- DELAY (R173). -/
def actDelay (w : StepWord) : StepAct :=
  if w.a ≠ 0 ∨ w.w2 ≠ 0 ∨ w.w3 ≠ 0 then .fault 1 else .delay w.w1.toNat

/-- WAIT_UNTIL (R171, R172). -/
def actWaitUntil (w : StepWord) : StepAct :=
  let unit := 16 ^ bitsOf w.a 15 14
  .await (.sig (bitsOf w.a 13 0) w.w1.toInt w.w2.toInt (max (fld w.w3 15 0 * unit) 1) 0) (fld w.w3 31 16 * unit)

/-- WAIT_EVENT (R171, R174). -/
def actWaitEvent (w : StepWord) : StepAct :=
  if bitsOf w.a 13 8 ≠ 0 ∨ fld w.w1 31 1 ≠ 0 ∨ w.w2 ≠ 0 ∨ fld w.w3 15 0 ≠ 0 then .fault 1
  else .await (.event (bitsOf w.a 7 0) (wbit w.w1 0)) (fld w.w3 31 16 * 16 ^ bitsOf w.a 15 14)

/-- SIGNAL (R174). -/
def actSignal (w : StepWord) : StepAct :=
  if 0x100 ≤ w.a ∨ fld w.w1 31 1 ≠ 0 ∨ w.w2 ≠ 0 ∨ w.w3 ≠ 0 then .fault 1 else .stage (.flag w.a (!wbit w.w1 0)) false

/-- FORK (R177). -/
def actFork (t : Nat) (w : StepWord) : StepAct :=
  if 0x100 ≤ w.a ∨ fld w.w1 31 23 ≠ 0 ∨ w.w2 ≠ 0 ∨ w.w3 ≠ 0 then .fault 1
  else if w.a = 0 then .fault 2
  else .stage (.fork w.a (if wbit w.w1 17 then none else some (fld w.w1 16 0, fld w.w1 22 18)) t) false

/-- CALL (R176). -/
def actCall (depth : Nat) (w : StepWord) : StepAct :=
  if w.a ≠ 0 ∨ fld w.w1 31 17 ≠ 0 ∨ w.w2 ≠ 0 ∨ w.w3 ≠ 0 then .fault 1
  else if 8 ≤ depth then .fault 3 else .call (fld w.w1 16 0)

/-- RETURN (R176). -/
def actReturn (depth : Nat) (w : StepWord) : StepAct :=
  if w.a ≠ 0 ∨ w.w1 ≠ 0 ∨ w.w2 ≠ 0 ∨ w.w3 ≠ 0 then .fault 1 else if depth = 0 then .fault 4 else .ret

/-- JUMP (R176). -/
def actJump (w : StepWord) : StepAct :=
  if w.a ≠ 0 ∨ fld w.w1 31 17 ≠ 0 ∨ w.w2 ≠ 0 ∨ w.w3 ≠ 0 then .fault 1 else .jump (fld w.w1 16 0)

/-- BRANCH (R175). -/
def actBranch (c : Chip) (pc : Nat) (w : StepWord) : StepAct :=
  if fld w.w1 31 21 ≠ 0 then .fault 1 else
  match branchCond c w with
  | none => .fault 1
  | some b =>
    if fld w.w1 19 17 = 5 ∧ w.a = 0 then .fault 2
    else .jump (if b != wbit w.w1 20 then fld w.w1 16 0 else pc + 1)

/-- MARK (R170). -/
def actMark (w : StepWord) : StepAct := if w.a ≠ 0 ∨ w.w2 ≠ 0 ∨ w.w3 ≠ 0 then .fault 1 else .mark w.w1

/-- CAPTURE (R170). -/
def actCapture (phase : Nat) (w : StepWord) : StepAct :=
  if 0x10 ≤ w.a ∨ fld w.w1 31 2 ≠ 0 ∨ fld w.w1 1 0 = 0 ∨ w.w2 ≠ 0 ∨ w.w3 ≠ 0 then .fault 1
  else .stage (.capture w.a (fld w.w1 1 0) phase) false

/-- END (R176). -/
def actEnd (w : StepWord) : StepAct := if w.a ≠ 0 ∨ w.w1 ≠ 0 ∨ w.w2 ≠ 0 ∨ w.w3 ≠ 0 then .fault 1 else .done

/-- What the operation of a step's opcode does (Table 2), the chip's phase being that of the step's boundary; every other opcode is reserved
(R166). -/
def actOf (c : Chip) (t op : Nat) (w : StepWord) : StepAct :=
  let k := c.task t
  match op with
  | 0x01 => actSet w
  | 0x02 => actRamp w
  | 0x03 => actValve w
  | 0x04 => actMove t w
  | 0x05 => actMode w
  | 0x06 => actDelay w
  | 0x07 => actWaitUntil w
  | 0x08 => actWaitEvent w
  | 0x09 => actSignal w
  | 0x0A => actFork t w
  | 0x0B => actCall k.stack.length w
  | 0x0C => actReturn k.stack.length w
  | 0x0D => actJump w
  | 0x0E => actBranch c k.pc w
  | 0x0F => actMark w
  | 0x10 => actCapture c.phase w
  | 0x11 => actEnd w
  | _ => .fault 1

/-- The step pointer that an action of the step at `pc` leads to at once, of a task with a call stack; 0 where the task stays at its step (R176). -/
def actNext (pc : Nat) (stack : List Nat) : StepAct → Nat
  | .stage _ blocks => if blocks then 0 else pc + 1
  | .delay n => if n = 0 then pc + 1 else 0
  | .mark _ => pc + 1
  | .jump p => p
  | .call p => p
  | .ret => stack.getLast?.getD 0
  | _ => 0

/-- Whether an action stages an entry, which the entry check counts (R187). -/
def actStages : StepAct → Bool
  | .stage _ _ => true
  | _ => false

/-- The task goes to WAITING at its step (R171, R173). -/
def waitTask (t : Nat) (w : StepWord) (wt : Wait) (deadline : Option Nat) (c : Chip) : Chip :=
  let c := dropTask t c
  c.setTask t { c.task t with
    state := .waiting, wait := some wt, deadline := deadline, ranTick := c.tick, realignOk := w.realignOk, quiet := w.quiet }

/-- After a non-blocking step: the next one, or the forced yield after the 32nd, at the boundary `b` (R186). -/
def nextStep (e b t pc : Nat) (c : Chip) : Chip :=
  let c := c.setTask t { c.task t with pc := pc }
  let n := (c.engine e).count + 1
  if n = 32 then regInc Reg.TASK_YIELD_COUNT (makeReady b t c)
  else c.setEngine e { c.engine e with count := n }

/-- An engine carries out an action for its task (R166–R176); the step takes 8 CK_SEQ cycles, up to its boundary `b` (Table 6). -/
def doAct (e b t : Nat) (w : StepWord) (a : StepAct) (c : Chip) : Chip :=
  let pc := (c.task t).pc
  let c := engineTo e b (c.setTask t { c.task t with steps := satInc 32 (c.task t).steps })
  match a with
  | .fault cause => faultTask (reqSE e) t cause c
  | .stage op blocks =>
    let c := stageEntry e b op c
    if blocks then waitTask t w (.move w.a none none) none c else nextStep e b t (pc + 1) c
  | .delay 0 => makeReady b t (c.setTask t { c.task t with pc := pc + 1 })
  | .delay n => waitTask t w (.delay (tickAdd c.tick n)) none c
  | .await wt ticks => waitTask t w wt (if ticks = 0 then none else some (tickAdd c.tick ticks)) c
  | .jump p => nextStep e b t p c
  | .call p => nextStep e b t p (c.setTask t { c.task t with stack := (c.task t).stack ++ [pc + 1] })
  | .ret =>
    let s := (c.task t).stack
    nextStep e b t (s.getLast?.getD 0) (c.setTask t { c.task t with stack := s.dropLast })
  | .mark num => nextStep e b t (pc + 1) { c with marks := c.marks ++ [⟨e, t, num, pc, c.phase⟩] }
  | .done =>
    let c := dropTask t c
    let c := c.setTask t { c.task t with state := .done, stack := [] }
    raiseVia Event.TASK_TASK_DONE (reqSE e) t c.phase [t] c

/-- The CK_SEQ cycle at which engine `e` starts its next step: at the present instant, or when it is free. -/
def stepStart (c : Chip) (e : Nat) : Nat := max (2 * c.phase) (c.engine e).free

/-- Whether engine `e` may start a step of a task it holds (R186, R189, Table 6). -/
def mayStep (c : Chip) (e : Nat) : Bool :=
  decide ((c.engine e).task ≠ 0) && dispatchOpen c && decide (stepStart c e ≤ lastStart c)

/-- What a step does once its task may run it: its reserved bits and ranges, then its operation (R166, R167). -/
def stepAct (c : Chip) (t op : Nat) (w : StepWord) : StepAct :=
  let k := c.task t
  let a := if w.rsv15 then .fault 1 else actOf c t op w
  if 131071 < actNext k.pc k.stack a then .fault 2 else a

/-- A step reaches an engine (R166, R187, R188): the block check, the reserved bits and ranges, the entry check, then the operation. The chip's
phase is left at the step's start. -/
def engineStep (e op : Nat) (w : StepWord) (c : Chip) : Chip :=
  if ¬ mayStep c e then c else
  let t := (c.engine e).task
  let s := stepStart c e
  let b := s + 8
  let k := c.task t
  let c := atPhase (s / 2) c
  match (if w.tagEn then blockingGuard c w.tag else none) with
  | some g =>
    let c := engineTo e s (dropTask t c)
    let c := c.setTask t { k with state := .blocked, blockG := g }
    raiseVia Event.TASK_STEP_BLOCKED (reqSE e) t c.phase [t, k.pc, g] c
  | none =>
    let a := stepAct (atPhase (b / 2) c) t op w
    if actStages a ∧ 16 ≤ (c.engine e).entries then
      let c := makeReady s t (engineTo e s c)
      let c := c.setTask t { c.task t with held := true }
      raiseVia Event.TASK_ENTRY_HOLD (reqSE e) t c.phase [e, t] (regInc Reg.TASK_HOLD_COUNT c)
    else atPhase (s / 2) (doAct e b t w a (atPhase (b / 2) c))

/-- An uncorrectable error at the fetch of engine `e`'s step (R191, R192): a hard error of recipe memory, and the task's fault. -/
def fetchError (e : Nat) (c : Chip) : Chip :=
  let t := (c.engine e).task
  if t = 0 then c else
  let pc := (c.task t).pc
  let c := atPhase (stepStart c e / 2) { c with badSteps := if c.badSteps.contains pc then c.badSteps else c.badSteps ++ [pc] }
  let c := permanentOutcome 3 4 1 (countUe 4 (16 * pc) c)
  faultTask (reqSE e) t 6 (raiseVia Event.TASK_RECIPE_MEM_ERR (reqSE e) pc c.phase [pc] c)

/-- The CK_SEQ cycle at which the guards are evaluated, from which their trips count (Table 8 of R130, R188). -/
def judgeCycle (c : Chip) : Nat := 2 * (pOutPhase c - 61)

/-- The engine executes steps of its task until it leaves the engine or the rim is near (R186); `n` bounds the steps. A tagged step that would
start at or after the guard evaluation waits for it (R188): the dispatch goes on when the engine is next driven. -/
def runEngine (e : Nat) : Nat → Chip → Chip
  | 0, c => c
  | n + 1, c =>
    if ¬ mayStep c e then c
    else
      let pc := (c.task (c.engine e).task).pc
      if c.badSteps.contains pc then fetchError e c
      else
        let s := recipeStep c.mem pc
        if s.2.tagEn ∧ ¬ c.guardsDone ∧ judgeCycle c ≤ stepStart c e then c
        else runEngine e n (engineStep e s.1 s.2 c)

/-- An idle engine is granted a task, or a task still RUNNING continues, at a phase of the tick (R185, R186). -/
def taskDispatch (e phase : Nat) (c : Chip) : Chip :=
  let c := atPhase phase c
  if ¬ dispatchOpen c then c else
  runEngine e 32 (if (c.engine e).task = 0 then grantTask e c else c)

/-! ### Commands and forks at the rim (R177, R179–R181, R193) -/

/-- A staged task command: the task, the OP of Table 5, and whether it came through the P-view. -/
structure TaskCmd where
  task : Nat
  op   : Nat
  priv : Bool
  deriving DecidableEq, Repr

/-- The states from which Table 5 allows a command. -/
def cmdAllowed (op : Nat) (s : TaskState) : Bool :=
  match op with
  | 1 => stateStartable s
  | 2 => stateLive s
  | 3 => stateLive s && decide (s ≠ .suspended)
  | 4 => decide (s = .suspended)
  | _ => false

/-- The state that an allowed command leaves, as far as later commands are judged by it. -/
def cmdState (op : Nat) (s prev : TaskState) : TaskState :=
  match op with
  | 1 => .ready
  | 2 => .cancelled
  | 3 => .suspended
  | 4 => if prev = .running then .ready else prev
  | _ => s

/-- Whether a step lies in a sealed segment (R165, R180). -/
def stepSealed (c : Chip) (step : Nat) : Bool := mapBit c Reg.TASK_SEG_SEALED_LO (step / 2048)

/-- The first ground on which a command is refused (R180): its reason, or none. -/
def cmdReason (c : Chip) (k : TaskCmd) (s : TaskState) : Option Nat :=
  if k.task = 0 ∨ k.op = 0 ∨ 4 < k.op then some 4
  else if !k.priv ∧ !stepSealed c (taskEntry c.mem k.task) then some 2
  else if c.dev = .safeIdle ∧ (k.op = 1 ∨ k.op = 4) then some 3
  else if !cmdAllowed k.op s then some 1
  else none

/-- The commands judged in the order written (R193): each with its reason, against the states that the earlier ones leave. -/
def judgeCmds (c : Chip) : List TaskCmd → Tab (TaskState × TaskState) → List (TaskCmd × Option Nat)
  | [], _ => []
  | k :: rest, st =>
    let s := match tabFind st k.task with | some x => x | none => ((c.task k.task).state, (c.task k.task).prev)
    match cmdReason c k s.1 with
    | some r => (k, some r) :: judgeCmds c rest st
    | none => (k, none) :: judgeCmds c rest (tabIns k.task (cmdState k.op s.1 s.2, if k.op = 3 then s.1 else s.2) st)

/-- A readiness discarded because a CANCEL reaches the task at the same rim (R193). Sources: 0 START, 1 FORK, 2 RESUME. -/
def lostReady (t source : Nat) (c : Chip) : Chip :=
  raiseEv Event.TASK_LOST_READY t [0, source] (c.setTask t { c.task t with lostReady := satInc 32 (c.task t).lostReady })

/-- One judged command applies (R179); `cancelled` lists the tasks that a CANCEL reaches at this rim. -/
def applyCmd (cancelled : List Nat) (k : TaskCmd) (reason : Option Nat) (c : Chip) : Chip :=
  let t := k.task
  let x := c.task t
  match reason with
  | some r =>
    let c := wr32 Reg.TASK_CMD_STAT (Word.ofNat (t + 0x100 * k.op + 0x1000 * r)) c
    raiseEv Event.TASK_CMD_REFUSED t [t, k.op, r] c
  | none =>
    let gone := cancelled.contains t
    match k.op with
    | 1 => if gone then lostReady t 0 c else startTask t (taskEntry c.mem t) (taskPrio c.mem t) 0 c
    | 2 =>
      let c := dropTask t c
      let c := c.setTask t { x with state := .cancelled, stack := [], wait := none, deadline := none, suspSafe := false }
      if x.state = .cancelled then c else raiseEv Event.TASK_TASK_CANCELLED t [t, x.pc] c
    | 3 =>
      if gone then c else
      let c := dropTask t c
      let wait := match x.wait with | some (.sig s lo hi need _) => some (.sig s lo hi need 0) | w => w
      c.setTask t { x with state := .suspended, prev := x.state, suspSafe := false, wait := wait }
    | _ =>
      if gone then lostReady t 2 c
      else if x.prev = .running ∨ x.prev = .ready then makeReady (rimCycle c) t (c.setTask t { x with suspSafe := false })
      else c.setTask t { x with state := x.prev, suspSafe := false }

/-- The tasks that a CANCEL reaches at this rim. -/
def cancelledBy (l : List (TaskCmd × Option Nat)) : List Nat :=
  ((l.filter (fun p => decide (p.1.op = 2) && p.2.isNone)).map (fun p => p.1.task)).eraseDups

/-- The task commands of a rim (R193). -/
def applyCmds (l : List TaskCmd) (c : Chip) : List Nat × Chip :=
  let j := judgeCmds c l []
  (cancelledBy j, forAll j (fun p c => applyCmd (cancelledBy j) p.1 p.2 c) c)

/-- A FORK entry applies (R177, R193); one that names the forking task is always refused. -/
def applyFork (cancelled : List Nat) (t : Nat) (entry : Option (Nat × Nat)) (byTask : Nat) (c : Chip) : Chip :=
  if cancelled.contains t then lostReady t 1 c
  else if t ≠ byTask ∧ stateStartable (c.task t).state then
    match entry with
    | some (e, p) => startTask t e p 1 c
    | none => startTask t (taskEntry c.mem t) (taskPrio c.mem t) 1 c
  else raiseEv Event.TASK_FORK_REFUSED byTask [byTask, t, taskStateCode (c.task t).state] c

/-! ### Device states, restart and realignment (R189, R190, R195) -/

/-- Entry to SAFE_IDLE suspends every task in READY, RUNNING, WAITING or BLOCKED (R189). -/
def suspendAll (c : Chip) : Chip :=
  forAll (taskList c) (fun t c =>
    let x := c.task t
    if cmdAllowed 3 x.state then
      let wait := match x.wait with | some (.sig s lo hi need _) => some (.sig s lo hi need 0) | w => w
      (dropTask t c).setTask t { x with state := .suspended, prev := x.state, suspSafe := true, wait := wait }
    else c) c

/-- Tasks with RUN_START start at the rim at which RUN applies, as if by START; one that a CANCEL reaches at this rim stays CANCELLED
(R189, R193). -/
def runStarts (cancelled : List Nat) (c : Chip) : Chip :=
  forEach 256 (fun t c =>
    if 1 ≤ t ∧ taskRunStart c.mem t ∧ stateStartable (c.task t).state then
      if cancelled.contains t then lostReady t 0 c
      else startTask t (taskEntry c.mem t) (taskPrio c.mem t) 2 c
    else c) c

/-- Whether the tasks permit a realignment in RUN (R190). -/
def tasksPermit (c : Chip) : Bool :=
  let ok (t : Nat) : Bool := decide ((c.task t).state = .waiting) && (c.task t).realignOk
  let live := (taskList c).filter (fun t => stateLive (c.task t).state)
  live.any ok && live.all ok

/-- Whether every live task waits at a QUIET step (R414). -/
def tasksQuiet (c : Chip) : Bool :=
  ((taskList c).filter (fun t => stateLive (c.task t).state)).all (fun t =>
    decide ((c.task t).state = .waiting) && (c.task t).quiet)

/-- A realignment adds the jump to every wake tick and deadline (R190), and to the tick in which the wait step ran, from which waiters on a flag
are ordered (R174). -/
def shiftWaits (jump : Int) (c : Chip) : Chip :=
  let sh (w : Nat) : Nat := unsx 48 ((w : Int) + jump)
  forAll (taskList c) (fun t c =>
    let x := c.task t
    c.setTask t { x with
      wait := (match x.wait with | some (.delay w) => some (.delay (sh w)) | w => w), deadline := x.deadline.map sh,
      ranTick := sh x.ranTick }) c

/-- Tasks after a held-output restart (R195): a RUNNING task becomes READY, and the engines start idle. -/
def tasksRestarted (c : Chip) : Chip :=
  let c := { c with engines := [], marks := [] }
  forAll ((taskList c).filter (fun t => decide ((c.task t).state = .running))) (makeReady (rimCycle c)) c

/-! ### The checks of a COMMIT and the registers (R165, R168, R197) -/

/-- Whether a segment is locked (R165). -/
def segLocked (c : Chip) (g : Nat) : Bool :=
  (taskList c).any (fun t =>
    let x := c.task t
    stateLive x.state && (decide (x.pc / 2048 = g) || x.stack.any (fun r => decide (r / 2048 = g))))

/-- The breaches of a TASK COMMIT that writes the segments `segs`; the item is the segment or the valve output. -/
def taskBreaches (c : Chip) (m : Tab Byte) (segs : List Nat) (routes : Bool) : List Refused :=
  let route (v : Nat) : Nat := (mrd8 m (Reg.TASK_VALVE_ROUTE + v)).toNat
  let on := (List.range 64).filter (fun v => decide (128 ≤ route v))
  (segs.filter (segLocked c)).map (fun g => ⟨1, g, 0⟩)
  ++ (if routes then
      (on.filter (fun v => (on.any (fun u => decide (u < v) && decide (route u % 64 = route v % 64)))
          || decide (mF m (Reg.INPUT_DIO_CFG + 4 * (route v % 64)) 1 0 = 2 ∧ route v % 64 < 48))).map (fun v => ⟨2, v, 0⟩)
      ++ (on.filter (fun v => decide (48 ≤ route v % 64))).map (fun v => ⟨3, v, 0⟩)
    else [])

/-- Record a TASK_REFUSED (R197). -/
def refuseTask (r : Refused) (c : Chip) : Chip := wr32 Reg.TASK_REFUSE_STAT (Word.ofNat (r.item + 0x100 * r.reason)) c

/-- The code of a wait in SEL_STATE. -/
def waitKind : Option Wait → Nat
  | none => 0
  | some (.delay _) => 1
  | some (.sig _ _ _ _ _) => 2
  | some (.event _ _) => 3
  | some (.move _ _ _) => 4

/-- The registers of the TASK page that follow the tasks and engines at once: TASK_COUNT, ENGINE_TASK and SEG_LOCK (R165, R197). -/
def showTaskLive (c : Chip) : Chip :=
  let l := taskList c
  let cnt (f : TaskState → Bool) : Nat := (l.filter (fun t => f (c.task t).state)).length
  let busy := ((List.range 16).filter (fun e => decide ((c.engine e).task ≠ 0))).length
  let c := wr32 Reg.TASK_TASK_COUNT (Word.ofNat (cnt stateLive + 0x100 * cnt (fun s => decide (s = .ready)) + 0x10000 * busy)) c
  let c := forEach 16 (fun e c => wr8 (Reg.TASK_ENGINE_TASK + e) (BitVec.ofNat 8 (c.engine e).task) c) c
  wrMap Reg.TASK_SEG_LOCK_LO 2 (segLocked c) c

/-- The TASK page's status registers after the rim (R197). -/
def showTasks (c : Chip) : Chip :=
  let c := wrMap Reg.TASK_FLAG 8 c.flag (showTaskLive c)
  let c := forEach 32 (fun w c => wr32 (Reg.TASK_STATE_MAP + 4 * w)
    (Word.ofNat ((List.range 8).foldl (fun n e =>
      n + (if 8 * w + e = 0 then 0 else taskStateCode (c.task (8 * w + e)).state) * 16 ^ e) 0)) c) c
  let t := max 1 (rdF c Reg.TASK_TASK_SEL 7 0)
  let x := c.task t
  let waiting := decide (x.state = .waiting)
  let c := wr32 Reg.TASK_SEL_STATE (Word.ofNat (taskStateCode x.state + 0x10 * x.prio + 0x200 * x.stack.length
    + 0x2000 * waitKind x.wait + 0x10000 * (waiting && x.realignOk).toNat + 0x20000 * (waiting && x.quiet).toNat
    + 0x40000 * x.suspSafe.toNat + 0x1000000 * taskStateCode x.prev)) c
  let wake := match x.wait with | some (.delay w) => w | _ => x.deadline.getD 0
  let dwell := match x.wait with | some (.sig _ _ _ _ d) => d | _ => 0
  let c := wr32 Reg.TASK_SEL_PC (Word.ofNat x.pc) (wr32 Reg.TASK_SEL_WAKE_LO (Word.ofNat wake)
    (wr32 Reg.TASK_SEL_WAKE_HI (Word.ofNat (wake / 0x100000000)) c))
  let c := wr32 Reg.TASK_SEL_FAULT (Word.ofNat (x.cause + 0x100 * x.faultPc)) (wr32 Reg.TASK_SEL_LOST_READY (Word.ofNat x.lostReady)
    (wr32 Reg.TASK_SEL_STEPS (Word.ofNat x.steps) (wr32 Reg.TASK_SEL_DWELL (Word.ofNat dwell) c)))
  let c := wr32 Reg.TASK_SEL_BLOCK (Word.ofNat (if x.state = .blocked then ((blockingGuard c (recipeStep c.mem x.pc).2.tag).getD x.blockG) else 0)) c
  forEach 8 (fun i c => wr32 (Reg.TASK_SEL_STACK + 4 * i) (Word.ofNat (x.stack[i]?.getD 0)) c) c

end Sys2Proof.Machine
end

