-- ==== Sys2Proof/Machine/Stepper.lean ====
section
/-!
DEFINITION. Machine/Stepper.lean: the stepper drive: table updates, bands, external sources, amplitude, chopper, adaptive offsets and
retirement (R225–R254).
-/
namespace Sys2Proof.Machine

open Sys2Proof

/-! ### The drive record (R252) -/

def drv (a : Nat) : Nat := Reg.STEPDRV_AXIS_DRV + 64 * a
def drvSrc (m : Tab Byte) (a : Nat) : Nat := mF m (drv a) 1 0
def drvIRun (m : Tab Byte) (a : Nat) : Nat := mF m (drv a + 4) 10 0
def drvIHold (m : Tab Byte) (a : Nat) : Nat := mF m (drv a + 4) 24 16
/-- UP_b for b = 1 to 4; zero for any other band. -/
def drvUp (m : Tab Byte) (a b : Nat) : Nat := if 1 ≤ b ∧ b ≤ 4 then (mrd32 m (drv a + 0x14 + 4 * (b - 1))).toNat else 0
def drvHyst (m : Tab Byte) (a : Nat) : Nat := mF m (drv a + 0x0C) 5 0
/-- U, the table updates per tick (R226). -/
def updatesPerTick (c : Chip) : Nat := tickN c / 125

/-! ### Addresses and bands (R225, R229–R231) -/

/-- The output address in band `b` for fine address `a` (R229). -/
def bandAddr (qoff b a : Nat) : Nat :=
  let s := 4 ^ b
  let q := qoff % s
  (((((a : Int) - q) / s) * s + q) % 1024).toNat

/-- Whether an address is an aligned address of band `b` (R229). -/
def bandAligned (qoff b a : Nat) : Bool := decide (((a : Int) - qoff) % (4 ^ b : Nat) = 0)

/-- The first loop of band_target (R230). -/
def bandUp (m : Tab Byte) (a sp : Nat) : Nat → Nat → Nat
  | 0, t => t
  | k + 1, t => if t < 4 ∧ drvUp m a (t + 1) ≠ 0 ∧ drvUp m a (t + 1) ≤ sp then bandUp m a sp k (t + 1) else t

/-- DN_b (R230). -/
def drvDn (m : Tab Byte) (a b : Nat) : Nat := drvUp m a b * (256 - mF m (drv a + 0x24) 7 0) / 256

/-- The second loop of band_target (R230). -/
def bandDown (m : Tab Byte) (a sp : Nat) : Nat → Nat → Nat
  | 0, t => t
  | k + 1, t => if 0 < t ∧ sp < drvDn m a t then bandDown m a sp k (t - 1) else t

/-- The target band for speed `sp` in units of 2^−16 (R230). -/
def bandTarget (m : Tab Byte) (a t sp : Nat) : Nat := bandDown m a sp 4 (bandUp m a sp 4 t)

/-! ### Amplitude (R237) -/

/-- ⌈ms × TPS / 1000⌉ ticks. -/
def msTicks (c : Chip) (ms : Nat) : Nat := (ms * rdF c Reg.TICK_TICKS_PER_SEC 16 0 + 999) / 1000

/-- The amplitude of an axis whose ramp has run `k` ticks (R237): the floor of the exact linear value. -/
def rampAmp (iRun iHold ramp k : Nat) : Nat :=
  if ramp ≤ k then iRun * iHold / 256 else iRun * (256 * ramp - (256 - iHold) * k) / (256 * ramp)

/-- The still count reaches T_STILL, and the reduction starts (R237). -/
def startReduction (n : Nat) (c : Chip) : Chip :=
  let a := c.ax n
  if !a.reduced ∧ drvIHold c.drvMem n ≠ 256 ∧ msTicks c (mF c.drvMem (drv n + 8) 9 0) ≤ a.still then
    c.setAx n { a with reduced := true, rampN := 0 }
  else c

/-! ### Enabling (R247) -/

/-- Whether this unit's local outputs are in standby (Table 1 of R395). -/
def standby (c : Chip) : Bool :=
  decide (roleCode c = 1) || decide (roleCode c = 3) || decide (roleCode c = 4) || decide (roleCode c = 5)

/-- AXn_EN by the conditions of R247. -/
def axEnabled (c : Chip) (n : Nat) : Bool :=
  let a := c.ax n
  mpAxisEn c.mem n && decide (drvIRun c.drvMem n ≠ 0) && !a.tripped && !standby c && !a.safeOff
    && !(c.pf && mB c.drvMem (drv n) 7) && (decide (c.dev ≠ .heldRestart) || a.en)

/-! ### Phases (R236, R239, R240) -/

def phaseOf (a : AxSt) (ph : Nat) : PhaseSt := if ph = 0 then a.phA else a.phB
def setPhase (a : AxSt) (ph : Nat) (p : PhaseSt) : AxSt := if ph = 0 then { a with phA := p } else { a with phB := p }

/-- The learned offset of a phase and band, in 1/16 LSB. -/
def offsOf (a : AxSt) (ph b : Nat) : Int := tabGet (fun _ => 0) a.offs (5 * ph + b)

/-- The applied offset at instant `t` (R242). -/
def appliedOffs (a : AxSt) (ph t : Nat) : Int :=
  roundDiv (if t < a.offsAt then tabGet (fun _ => 0) a.offsOld (5 * ph + a.band) else offsOf a ph a.band) 16

/-- The comparator code D (R236). -/
def phaseCode (a : AxSt) (ph t : Nat) : Int := clampInt 0 1023 ((phaseOf a ph).ref + appliedOffs a ph t)

/-- How far a chopper test moves the thresholds of a phase (R245). -/
def testShift (m : Tab Byte) (n : Nat) (p : PhaseSt) : Int := if p.test = .cycle then drvHyst m n else 0

/-- THI and TLO (R239, R245). -/
def thi (m : Tab Byte) (n : Nat) (a : AxSt) (ph t : Nat) : Int :=
  phaseCode a ph t + (drvHyst m n + 1) / 2 + testShift m n (phaseOf a ph)
def tlo (m : Tab Byte) (n : Nat) (a : AxSt) (ph t : Nat) : Int :=
  max (phaseCode a ph t - drvHyst m n / 2) 0 + testShift m n (phaseOf a ph)

/-- AXn_EN goes high or low; with it low no phase chops, and a chopper test is dropped. -/
def AxSt.withEn (a : AxSt) (b : Bool) : AxSt :=
  if b then { a with en := true }
  else { a with en := false, phA := { a.phA with chop := .idle, test := .none }, phB := { a.phB with chop := .idle, test := .none } }

/-- The levels of P and N of a phase's half-bridges (Tables 1 and 2 of R238): FAST decay drives against the present current, which keeps the
direction of the last on time. With AXn_EN low both are low (R249). -/
def bridgePins (m : Tab Byte) (n : Nat) (a : AxSt) (ph : Nat) : Bool × Bool :=
  let p := phaseOf a ph
  let drive (neg : Bool) : Bool × Bool := (!neg, neg)
  if ¬ a.en then (false, false) else
  match p.chop with
  | .idle => (false, false)
  | .on => drive p.neg
  | .off => if mB m (drv n) 4 then drive (!p.last) else (false, false)
  | .crossing => drive (!p.last)

/-- A phase takes its reference and direction from the table entry at the output address (R235, R236, R240): an on time ends at once where the
direction changes, or where nothing is to be driven. -/
def refPhase (n ph t : Nat) (c : Chip) : Chip :=
  let a := c.ax n
  let e := mrd32 c.drvMem (0x00A02000 + 0x1000 * mF c.drvMem (drv n) 3 2 + 4 * a.addr)
  let mag := fld e (9 + 16 * ph) (16 * ph)
  let neg := wbit e (10 + 16 * ph)
  let ref := (a.amp * mag + 512) / 1024
  let p := phaseOf a ph
  let chop := if ¬ a.en then .idle
    else if p.chop = .idle then ChopState.off
    else if neg != p.neg then .crossing
    else if ref = 0 ∧ p.chop = .on then .off else p.chop
  c.setAx n (setPhase a ph { p with
    ref := ref, neg := neg, chop := chop,
    offAt := if p.chop = .on ∧ chop ≠ .on ∨ (chop = .crossing ∧ neg != p.neg) then t else p.offAt })

def refPhases (n t : Nat) (c : Chip) : Chip := refPhase n 1 t (refPhase n 0 t c)

/-- The on time of a phase ends (R239): the current has reached THI after blanking. The current is in LSB, in the reference's direction. -/
def onTimeEnd (n ph : Nat) (cur : Int) (tick phase : Nat) (c : Chip) : Chip :=
  let c := atPhase phase c
  let a := c.ax n
  let p := phaseOf a ph
  let t := instant c tick phase
  let blank := mF c.drvMem (drv n + 0x0C) 13 8 * 125 / 4
  if a.en ∧ p.chop = .on ∧ p.onAt + blank ≤ t ∧ cur ≥ thi c.drvMem n a ph t then
    c.setAx n (setPhase a ph { p with
      chop := .off, offAt := t,
      onLen := if p.test = .cycle then p.onLen else t - p.onAt, testOn := if p.test = .cycle then t - p.onAt else p.testOn })
  else c

/-- Whether the chopper test may run on an axis: still, the reduction complete, AXn_EN high (R245, R423). -/
def chopEligible (c : Chip) (n : Nat) : Bool :=
  let a := c.ax n
  a.en && a.reduced && !a.retired && decide (msTicks c (mF c.drvMem (drv n + 8) 25 16) ≤ a.rampN)

/-- Whether a chopper test runs on an axis. -/
def chopTesting (a : AxSt) : Bool :=
  decide (a.phA.test = .wait) || decide (a.phA.test = .cycle) || decide (a.phB.test = .wait) || decide (a.phB.test = .cycle)

/-- The tests of both phases are dropped. -/
def AxSt.noTest (a : AxSt) : AxSt := { a with phA := { a.phA with test := .none }, phB := { a.phB with test := .none } }

/-- The chopper test begins on an eligible axis (R245): each phase that is driven moves its thresholds for its next chopper cycle. -/
def chopTest (n : Nat) (c : Chip) : Chip :=
  let a := c.ax n
  if ¬ testTurn 6 (axisUnit 0) 32 (chopEligible c) c n ∨ ¬ checkOn c 6 ∨ chopTesting a ∨ (a.phA.ref = 0 ∧ a.phB.ref = 0) then c else
  let c := testTaken 6 (axisUnit 0) n 64 c
  let begin' (p : PhaseSt) : PhaseSt := { p with test := if p.ref = 0 then .over true else .wait }
  c.setAx n { a with phA := begin' a.phA, phB := begin' a.phB }

/-- The chopper test of an axis has had its cycle on each phase: the outcome is judged (R245, R356). -/
def chopJudge (n : Nat) (c : Chip) : Chip :=
  let a := c.ax n
  match a.phA.test, a.phB.test with
  | .over x, .over y =>
    let c := c.setAx n a.noTest
    if c.dev = .heldRestart ∨ ¬ chopEligible c n ∨ ¬ checkOn c 6 then c else
    let j := judge 6 (axisUnit n) (x && y) c
    if j.1 then
      raiseEv Event.STEPDRV_CHOP_TEST_FAIL n []
        (j.2.setAx n { j.2.ax n with retDue := some Event.STEPDRV_CHOP_TEST_FAIL.code })
    else j.2
  | _, _ => c

/-- The off time of a phase ends (R239, R240), and with it a cycle of a chopper test, of which the specification does not say how the times
must change (R245). A phase with a reference of zero goes on in decay (R236). -/
def offTimeEnd (n ph : Nat) (cur : Int) (tick phase : Nat) (c : Chip) : Chip :=
  let c := atPhase phase c
  let a := c.ax n
  let p := phaseOf a ph
  let t := instant c tick phase
  let toff := mF c.drvMem (drv n + 0x0C) 21 16 * 125 / 2
  let fmax := mF c.drvMem (drv n + 0x0C) 31 24
  let go := (decide (p.chop = .off) && decide (p.offAt + toff ≤ t) && decide (cur ≤ tlo c.drvMem n a ph t)
      && (decide (p.onAt = 0) || decide (250000 ≤ (t - p.onAt) * fmax)))
    || (decide (p.chop = .crossing) && decide (p.offAt + toff ≤ t) && decide (0 ≤ cur))
  if ¬ a.en ∨ ¬ go then c
  else if p.ref = 0 then c.setAx n (setPhase a ph { p with chop := .off })
  else
    let test := match p.test with
      | .wait => .cycle
      | .cycle => .over (Config.chopAsExpected (p.onLen, p.offLen) (p.testOn, t - p.offAt))
      | x => x
    chopJudge n (c.setAx n (setPhase a ph { p with
      chop := .on, onAt := t, last := p.neg, offLen := if p.test = .cycle then p.offLen else t - p.offAt, test := test }))

/-! ### Table updates (R226–R228, R231, R233, R234) -/

/-- Whether coarse inputs of axis `n` are ignored (R234). -/
def extIgnores (c : Chip) (n : Nat) : Bool :=
  let g := c.mp n
  decide (g.mode = .quickStop) || decide (g.mode = .hold) || g.forced || decide (c.dev = .safeIdle) || (c.ax n).retired

/-- Coarse inputs come to be ignored, or are released: then the coarse position is that of the axis, and its segment is over (R234). -/
def extRelease (n : Nat) (c : Chip) : Chip :=
  let a := c.ax n
  let held := decide (a.extSrc ≠ 0) && extIgnores c n
  if held = a.extHeld then c
  else if held then c.setAx n { a with extHeld := true }
  else c.setAx n { a with extHeld := false, cPos := a.f, segTo := a.f, segSpan := 0 }

/-- The fine position at update `i` for SRC = PROFILE (R226). -/
def profileFine (a : AxSt) (i u : Nat) : Int := a.pPrev + (sx 64 (unsx 64 (a.pCur - a.pPrev)) * i) / (u : Int)

/-- The fine position under an external source (R233): the segment's next value. -/
def segFine (a : AxSt) : Int :=
  if a.segSpan = 0 then a.f else
  let v := a.segFrom + ((a.segTo - a.segFrom) * 125 * ((a.segN + 1 : Nat) : Int)) / (a.segSpan : Int)
  if a.segFrom ≤ a.segTo then min v a.segTo else max v a.segTo

/-- A sample of a phase 250 ns after an update (R241). -/
def sample (n ph : Nat) (code : Int) (negChanged : Bool) (c : Chip) : Chip :=
  let a := c.ax n
  let p := phaseOf a ph
  let code := clampInt (-2048) 2047 code
  let limit := decide (code = -2048) || decide (code = 2047)
  let counted := decide (mF c.drvMem (drv n + 0x10) 17 8 ≤ p.ref) && !limit && !negChanged
  let along := if p.neg then -code else code
  let key := 5 * ph + a.band
  let a := setPhase a ph { p with
    n := p.n + 1, sum := p.sum + code, absSum := p.absSum + code.natAbs, refSum := p.refSum + p.ref, satNow := p.satNow || limit }
  let a := if counted then { a with
      errSum := tabPut (fun _ => 0) a.errSum key (tabGet (fun _ => 0) a.errSum key + (2 * p.ref - along)),
      errCnt := tabPut (fun _ => 0) a.errCnt key (tabGet (fun _ => 0) a.errCnt key + 1) } else a
  let c := c.setAx n a
  if limit ∧ ¬ p.satNow then raiseEv Event.STEPDRV_SENSE_SAT n [n, ph] c else c

/-- Table update `i` of an axis, 1 to U, with the converter's samples of phases A and B after it (R226, R231, R241). -/
def tableUpdate (n i : Nat) (sampA sampB : Int) (c : Chip) : Chip :=
  let u := updatesPerTick c
  if i = 0 ∨ u < i ∨ c.dev = .heldRestart then c else
  let c := extRelease n c
  let raw := pOutPhase c + 125 * i
  let c := atPhase (if i = u then pOutPhase c else raw % tickN c) c
  let t := c.cyc + c.phase
  let m := c.drvMem
  let a := c.ax n
  let f := if a.retired then a.f else if a.extSrc ≠ 0 then segFine a else profileFine a i u
  let jump := (f / 0x10000) - (a.f / 0x10000)
  let skipped := decide (256 < jump.natAbs)
  let fine := (f / 0x10000 % 1024).toNat
  let q := mF m (drv n) 23 16
  let here := bandAddr q a.band fine
  let band := if a.target < a.band then a.target
    else if a.band < a.target ∧ bandAligned q a.target here then a.target else a.band
  let addr := if a.retired then a.addr else if a.target < a.band then bandAddr q band fine else here
  let c := c.setAx n { a.setFine t f with
    addr := addr, band := if a.retired then a.band else band, segN := if a.segSpan = 0 then 0 else a.segN + 1,
    skip := if skipped then satInc 32 a.skip else a.skip, skipNow := a.skipNow || skipped }
  let c := if skipped ∧ ¬ a.skipNow then raiseEv Event.STEPDRV_STEP_SKIP n [n, pw jump] c else c
  let c := if band ≠ a.band ∧ ¬ a.retired then raiseEv Event.STEPDRV_BAND_CHANGE n [n, a.band, band] c else c
  let nA := (c.ax n).phA.neg
  let nB := (c.ax n).phB.neg
  let c := refPhases n t c
  let b := c.ax n
  sample n 1 sampB (nB != b.phB.neg) (sample n 0 sampA (nA != b.phA.neg) c)

/-! ### External inputs (R232–R234) -/

/-- A coarse input of axis `n` that moves the coarse position by `d` at instant `t` (R232, R233). -/
def coarseInput (n : Nat) (d : Int) (t : Nat) (c : Chip) : Chip :=
  let c := extRelease n c
  let a := c.ax n
  if a.extSrc = 0 then c
  else if a.extHeld ∨ (d > 0 ∧ (c.mp n).limP) ∨ (d < 0 ∧ (c.mp n).limN) then
    c.setAx n { a with ignored := satInc 32 a.ignored }
  else
    let dest := sx 64 (unsx 64 (a.cPos + d))
    let w := mF c.drvMem (drv n + 0x28) 27 16 * 125
    let gap := match a.tLast with | some t0 => min (t - t0) w | none => w
    c.setAx n { a with
      cPos := dest, tLast := some t,
      spd := match a.tLast with | some t0 => d.natAbs * tickN c / max (t - t0) 1 | none => 0,
      segFrom := a.f, segTo := dest, segSpan := max gap 1, segN := 0 }

/-- A qualified step edge on channel `ch` reaches the axes that name it (R232): `up` is the direction. -/
def stepInput (ch : Nat) (up : Bool) (t : Nat) (c : Chip) : Chip :=
  forEach 32 (fun n c =>
    if (c.ax n).extSrc = 1 ∧ mF c.drvMem (drv n) 12 8 = ch then
      let s : Int := 0x10000 * mF c.drvMem (drv n + 0x28) 8 0
      coarseInput n (if up then s else -s) t c
    else c) c

/-- EXT_SIG pairs are judged at P_IN (R232). -/
def signalInputs (c : Chip) : Chip :=
  forEach 32 (fun n c =>
    if (c.ax n).extSrc = 2 then
      let sig := mF c.drvMem (drv n + 0x2C) 13 0
      let v := sx 64 ((boardNow c sig).val.toNat + 0x100000000 * (boardNow c (sig + 1)).val.toNat)
      let a := c.ax n
      if v = a.extLast then c
      else coarseInput n (sx 64 (unsx 64 (v - a.extLast))) c.cyc (c.setAx n { a with extLast := v })
    else c) c

/-! ### P_OUT (R226, R227, R230, R237, R247) -/

/-- Whether the fine position of an axis changes in the tick that begins at P_OUT, or has changed in the one that ends (R237). -/
def axMoves (a : AxSt) : Bool :=
  if a.extSrc ≠ 0 then a.moved || (decide (a.segSpan ≠ 0) && decide (a.f ≠ a.segTo)) else decide (a.pCur ≠ a.pPrev)

/-- Standstill timing of axis `n` at a P_OUT (R237). -/
def axStill (a : AxSt) (moves : Bool) : AxSt :=
  { a with
    still := if moves then 0 else satInc 32 a.still, reduced := a.reduced && !moves,
    rampN := if a.reduced && !moves then a.rampN + 1 else 0, moved := false }

/-- The amplitude of axis `n` (R237). -/
def axAmp (c : Chip) (n : Nat) (a : AxSt) : Nat :=
  if a.reduced then rampAmp (drvIRun c.drvMem n) (drvIHold c.drvMem n) (msTicks c (mF c.drvMem (drv n + 8) 25 16)) a.rampN
  else drvIRun c.drvMem n

/-- The stepper drive of axis `n` at a P_OUT without an output set (R11, R49, R227): its address, bands, amplitude and enable stay, and the
tick counts as still for an axis that follows its generator. -/
def axisHeld (n : Nat) (c : Chip) : Chip :=
  let a := { c.ax n with pPrev := (c.ax n).pCur, skipNow := false }
  c.setAx n (axStill a (!a.retired && axMoves a))

/-- The field die's P_OUT while a restart holds the logic die (R248): each axis stands, and its standstill timing runs on. -/
def axisAlone (n : Nat) (c : Chip) : Chip :=
  let a := axStill (c.ax n) false
  let atHold := a.retired || c.badMem.contains (0x0A, n) || c.pf || (match c.restart with | some r => r.expired | none => false)
  refPhases n (c.cyc + pOutPhase c) (c.setAx n { a with amp := if atHold then a.amp else axAmp c n a })

/-- The stepper drive of axis `n` at a P_OUT with an output set. -/
def axisPOut (n : Nat) (c : Chip) : Chip :=
  let c := extRelease n c
  let m := c.drvMem
  let a := c.ax n
  let src := drvSrc m n
  -- disabled at hold, by retirement or by an error of its record (R246, R357)
  let atHold := a.retired || c.badMem.contains (0x0A, n)
  let sig := mF m (drv n + 0x2C) 13 0
  -- a source change moves nothing: the external position starts from f
  let a := if src ≠ 0 ∧ src ≠ a.extSrc then { a with
      extSrc := src, cPos := a.f, segTo := a.f, segSpan := 0, tLast := none, spd := 0,
      extLast := sx 64 ((boardNow c sig).val.toNat + 0x100000000 * (boardNow c (sig + 1)).val.toNat) }
    else { a with extSrc := src }
  let a := { a with pPrev := a.pCur, pCur := if atHold then a.pCur else pubPos (c.mp n), skipNow := false }
  let w := mF m (drv n + 0x28) 27 16 * 125
  let recent := match a.tLast with | some t0 => decide (c.cyc + pOutPhase c - t0 < w) | none => false
  let sp := if src ≠ 0 then (if recent then a.spd else 0) else (sx 64 (unsx 64 (a.pCur - a.pPrev))).natAbs
  let moves := !atHold && axMoves a
  let off := decide (c.dev = .safeIdle) && mB m (drv n) 6 && !moves
  -- an axis that SAFE_DIS had disabled comes back at its run amplitude (R247)
  let back := a.safeOff && decide (c.dev = .run)
  let a := axStill a (moves || back)
  let a := { a with
    target := if atHold then a.target else bandTarget m n a.target sp,
    homedOff := a.homedOff || (off && !a.safeOff), safeOff := if c.dev = .run then false else a.safeOff || off,
    amp := if atHold then drvIRun m n * drvIHold m n / 256 else axAmp c n a }
  let a := if moves then a.noTest else a
  let c := c.setAx n a
  refPhases n (c.cyc + pOutPhase c) (c.setAx n (a.withEn (axEnabled c n)))

/-- AX_COUNT and the maps of enabled and retired axes, as they stand (R251). -/
def showAxes (c : Chip) : Chip :=
  let ens := (tabKeys c.axes).filter (fun n => (c.ax n).en)
  let rets := (tabKeys c.axes).filter (fun n => (c.ax n).retired)
  let en (n : Nat) : Bool := (c.ax n).en
  let ret (n : Nat) : Bool := (c.ax n).retired
  wr32 Reg.STEPDRV_AX_COUNT (Word.ofNat (ens.length + 0x100 * rets.length))
    (wrMap Reg.STEPDRV_EN_MAP 1 en (wrMap Reg.STEPDRV_RETIRED_MAP 1 ret c))

/-- The SEL registers describe the axis that STAT_SEL names as it stood at the last P_OUT (R251). -/
def showStepSel (c : Chip) : Chip :=
  let n := rdF c Reg.STEPDRV_STAT_SEL 4 0
  let a := tabGet (fun _ => {}) c.axShown n
  let c := wr32 Reg.STEPDRV_SEL_STATE (Word.ofNat (drvSrc c.drvMem n + 4 * a.band + 0x20 * a.target + 0x100 * a.en.toNat
    + 0x200 * a.reduced.toNat + 0x400 * a.retired.toNat + 0x800 * a.extHeld.toNat + 0x10000 * a.addr)) c
  let c := wr32 Reg.STEPDRV_SEL_FINE (Word.ofInt a.f) (wr32 (Reg.STEPDRV_SEL_FINE + 4) (Word.ofInt (a.f / 0x100000000)) c)
  let c := wr32 Reg.STEPDRV_SEL_AMP (Word.ofNat (a.amp + 0x10000 * min a.still 0xFFFF)) c
  let c := wr32 Reg.STEPDRV_SEL_SENSE (Word.ofNat (unsx 16 a.phA.mean + 0x10000 * unsx 16 a.phB.mean)) c
  let c := wr32 Reg.STEPDRV_SEL_EXT_IGNORED (Word.ofNat a.ignored) (wr32 Reg.STEPDRV_SEL_SKIP (Word.ofNat a.skip) c)
  forEach 10 (fun k c => wrF (Reg.STEPDRV_SEL_OFFS + 4 * (k / 2)) (15 + 16 * (k % 2)) (16 * (k % 2))
    (unsx 16 (offsOf a (k / 5) (k % 5))) c) c

/-- The STEPDRV page's status registers at P_OUT. -/
def showStepdrv (c : Chip) : Chip :=
  let still (n : Nat) : Bool := decide ((c.ax n).still ≠ 0)
  showStepSel (wrMap Reg.STEPDRV_STILL_MAP 1 still (showAxes c))

/-- The stepper drive at P_OUT; staged drive and table changes govern from here (R235, R251), where the field die has an output set. -/
def stepperPOut (fresh : Bool) (c : Chip) : Chip :=
  let c := if fresh then forEach 32 axisPOut { c with drvMem := c.mem } else forEach 32 axisHeld c
  showStepdrv { c with axShown := c.axes }

/-! ### P_IN (R241–R243, R245) -/

/-- The offsets of one phase and band at the end of a window (R242). -/
def learnBand (n ph b : Nat) (c : Chip) : Chip :=
  let a := c.ax n
  let key := 5 * ph + b
  let k := tabGet (fun _ => 0) a.errCnt key
  if k < 8 then c else
  let e := tabGet (fun _ => 0) a.errSum key
  let g := 2 ^ mF c.drvMem (drv n + 0x10) 2 0
  let o := clampInt (-1024) 1024 (roundDiv (offsOf a ph b * (2 * k * g : Nat) + 16 * e) (2 * k * g))
  let limit := decide (o.natAbs = 1024)
  let ep := tabGet (fun _ => false) a.offsEp key
  let c := c.setAx n { a with
    offs := tabPut (fun _ => 0) a.offs key o, offsEp := tabPut (fun _ => false) a.offsEp key limit }
  if limit ∧ ¬ ep then raiseEv Event.STEPDRV_OFFSET_LIMIT n [n, ph, b] c else c

/-- One phase at P_IN: its mean to the board, its open judgement, and a new window (R243, R245). -/
def phaseWindow (n ph : Nat) (c : Chip) : Chip :=
  let a := c.ax n
  let p := phaseOf a ph
  -- the mean in counts of 0.5 LSB; 1023 LSB is 1.0
  let v := if p.n = 0 then 0 else roundDiv (p.sum * (2 ^ 27 : Nat)) (p.n * 1023)
  let isOpen := decide (p.n ≠ 0) && decide (64 * p.n ≤ p.refSum) && decide (4 * p.absSum < 2 * p.refSum)
  let c := c.setAx n (setPhase a ph { p with
    mean := if p.n = 0 then p.mean else roundDiv p.sum p.n, n := 0, sum := 0, absSum := 0, refSum := 0, satNow := false,
    openCnt := if isOpen then p.openCnt + 1 else 0 })
  boardWrI 1000 (Sig.coil n ph) (satWord v) (!a.retired) c

/-- The stepper drive at P_IN (R232, R242, R243). -/
def stepperPIn (c : Chip) : Chip :=
  let c := if c.dev = .heldRestart then c else signalInputs c
  forEach 32 (fun n c =>
    let a := c.ax n
    let learns := mB c.drvMem (drv n) 5 && a.en && !a.retired && !chopTesting a && decide (c.dev ≠ .heldRestart) && !a.blindWin
      && decide (roleCode c ≠ 3) && decide (roleCode c ≠ 4)
    let c := c.setAx n { a with offsOld := a.offs, offsAt := c.cyc + 250 }
    let c := if learns then forEach 10 (fun k c => learnBand n (k / 5) (k % 5) c) c else c
    let c := c.setAx n { c.ax n with errSum := [], errCnt := [], blindWin := false }
    phaseWindow n 1 (phaseWindow n 0 c)) c

/-! ### Faults and retirement (R244–R246) -/

/-- The logic die hears of an overcurrent: a fault and a hard error, which retires the axis at the next rim (R244). -/
def overcurrentFault (n ph : Nat) (c : Chip) : Chip :=
  permanentOutcome 6 (axisUnit n) 1 (raiseEv Event.STEPDRV_OVERCURRENT n [n, ph]
    (c.setAx n { c.ax n with ocDue := none, retDue := some Event.STEPDRV_OVERCURRENT.code }))

/-- OVERCURRENT (R244): the field die drives AXn_EN low by itself; a logic die that a restart holds hears of it at the restart's end. -/
def overcurrent (n ph : Nat) (c : Chip) : Chip :=
  let a := c.ax n
  if ¬ a.en then c else
  let c := c.setAx n { a.withEn false with tripped := true, ocDue := some ph }
  if c.dev = .heldRestart then c else overcurrentFault n ph (showAxes c)

/-- OPEN_COIL after three consecutive open ticks (R245), as the window of the third closes. -/
def openCoil (n ph : Nat) (c : Chip) : Chip :=
  let c := atPhase 0 c
  let a := c.ax n
  if (phaseOf a ph).openCnt < 3 ∨ a.retired ∨ a.retDue.isSome then c else
  permanentOutcome 6 (axisUnit n) 0
    (raiseEv Event.STEPDRV_OPEN_COIL n [n, ph] (c.setAx n { a with retDue := some Event.STEPDRV_OPEN_COIL.code }))

/-- Retirements at the rim, and UNRETIRE and CLR_OFFS (R243, R246). -/
def stepperRim (c : Chip) : Chip :=
  showAxes <| forEach 32 (fun n c =>
    let c := if mapBit c Reg.STEPDRV_CLR_OFFS n then
        setMapBit Reg.STEPDRV_CLR_OFFS n false (c.setAx n { c.ax n with offs := [], offsOld := [], offsEp := [] }) else c
    let c := if mapBit c Reg.STEPDRV_UNRETIRE n then
        let a := c.ax n
        let c := setMapBit Reg.STEPDRV_UNRETIRE n false c
        if a.retired then
          let p := pubPos (c.mp n)
          raiseEv Event.STEPDRV_AXIS_UNRETIRED n [n] ((clearHistory (axisUnit n) c).setAx n { a.setFine (c.cyc + c.phase) p with
            retired := false, tripped := false, pPrev := p, pCur := p, band := 0, target := 0, segTo := p, segSpan := 0, cPos := p })
        else c
      else c
    let a := c.ax n
    let c := match a.retDue with
      | some code =>
        let c := c.setAx n { a with retired := true, retDue := none }
        raiseEv Event.STEPDRV_AXIS_RETIRED n [n, code] (endMove n 11 c)
      | none => c
    let a := c.ax n
    if a.homedOff then (c.setAx n { a with homedOff := false }).setMp n { c.mp n with homed := false } else c) c

/-- A change of SRC, UP or BHYST at a rim puts both bands at 0 (R230). -/
def drvEffects (m : Tab Byte) (n : Nat) (c : Chip) : Chip :=
  if drvSrc m n ≠ drvSrc c.mem n ∨ (List.range 5).any (fun b => decide (drvUp m n b ≠ drvUp c.mem n b))
      ∨ mF m (drv n + 0x24) 7 0 ≠ mF c.mem (drv n + 0x24) 7 0 then
    c.setAx n { c.ax n with band := 0, target := 0 }
  else c

/-- An axis after a held-output restart (R248). -/
def axRestarted (a : AxSt) : AxSt :=
  { a.noTest with band := 0, target := 0, pPrev := a.f, pCur := a.f, segTo := a.f, segSpan := 0, cPos := a.f, blindWin := true,
                  errSum := [], errCnt := [] }

/-- Axis `n` after a held-output restart: what the field die did alone is reported (R244). -/
def axResume (n : Nat) (c : Chip) : Chip :=
  let c := c.setAx n (axRestarted (c.ax n))
  match (c.ax n).ocDue with
  | some ph => overcurrentFault n ph c
  | none => c

/-! ### The checks of a COMMIT (Table 8 of R253) -/

/-- The breaches of Table 8 by the drive records and table words written. -/
def drvBreaches (c : Chip) (m : Tab Byte) (written words : List Nat) : List Refused :=
  let f (n o hi lo : Nat) : Nat := mF m (drv n + o) hi lo
  let out (x lo hi : Nat) : Bool := decide (x < lo) || decide (hi < x)
  let ups (n : Nat) : List Nat := (List.range 4).map (fun b => drvUp m n (b + 1))
  let upsBad (n : Nat) : Bool := (List.range 3).any (fun i =>
    let x := (ups n)[i]?.getD 0
    let y := (ups n)[i + 1]?.getD 0
    decide (y ≠ 0) && decide (y ≤ x ∨ x = 0))
  (written.filter (fun n => decide (drvSrc m n = 3) || decide (23 < f n 0 12 8)
      || (decide (drvSrc m n = 2) && (!sigAssignable (f n 0x2C 13 0) || !sigAssignable (f n 0x2C 13 0 + 1))))).map (fun n => ⟨1, n, 0⟩)
  ++ (written.filter (fun n => out (f n 0x0C 5 0) 1 63 || out (f n 0x0C 13 8) 2 32 || out (f n 0x0C 21 16) 2 32
      || out (f n 0x0C 31 24) 20 200)).map (fun n => ⟨2, n, 0⟩)
  ++ (written.filter upsBad).map (fun n => ⟨3, n, 0⟩)
  ++ (written.filter (fun n => decide (1024 < drvIRun m n) || decide (256 < drvIHold m n) || decide (1000 < f n 8 9 0)
      || decide (1000 < f n 8 25 16))).map (fun n => ⟨4, n, 0⟩)
  ++ (written.filter (fun n => out (f n 0x28 8 0) 1 256 || decide (f n 0x28 27 16 = 0)
      || (decide (drvSrc m n = 2) && decide (f n 0x28 27 16 * 125 < tickN c)))).map (fun n => ⟨5, n, 0⟩)
  ++ (written.filter (fun n => decide (drvSrc m n = 1) && (List.range 32).any (fun q =>
      decide (q ≠ n) && decide (drvSrc m q = 1) && decide (f q 0 12 8 = f n 0 12 8)))).map (fun n => ⟨6, n, 0⟩)
  ++ (written.filter (fun n => decide (drvSrc m n ≠ drvSrc c.mem n) && axMoves (c.ax n))).map (fun n => ⟨7, n, 0⟩)
  ++ (words.filter (fun w => decide ((mrd32 m w &&& 0xF800F800) ≠ 0))).map (fun w => ⟨8, (w - 0x00A02000) / 0x1000 % 32, 0⟩)

/-- Record a DRV_REFUSED (R251). -/
def refuseDrv (r : Refused) (c : Chip) : Chip := wr32 Reg.STEPDRV_REFUSE_STAT (Word.ofNat (r.item + 0x100 * r.reason)) c

end Sys2Proof.Machine
end

