-- ==== Sys2Proof/Machine/Ports.lean ====
section
/-!
DEFINITION. Machine/Ports.lean: the current-loop ports: command, NE 43 levels, measurement, adaptive supply, shortfall, thermal
protection, readback, shared current and retirement (R255–R272, R278–R288).
-/
namespace Sys2Proof.Machine

open Sys2Proof

/-! ### Blocks and records (R286, R287) -/

/-- The per-port block of LPn. -/
def portBlock (n : Nat) : Nat := 0xA400 + 64 * n
def prMode (m : Tab Byte) (n : Nat) : Nat := mF m (portRec n) 1 0
def prNe (m : Tab Byte) (n : Nat) : Bool := mB m (portRec n) 4
def prShared (m : Tab Byte) (n : Nat) : Bool := mB m (portRec n) 7
def prSig (m : Tab Byte) (n : Nat) : Nat := mF m (portRec n) 29 16
def prHead (m : Tab Byte) (n : Nat) : Nat := mF m (portRec n + 4) 7 0
def prSafe (m : Tab Byte) (n : Nat) : Nat := mF m (portRec n + 8) 15 0

/-! ### The command (R257–R259) -/

/-- The DAC code of a command word (R258). -/
def dacCode (w : Int) : Nat := (clampInt 0 65535 (roundDiv w 4096)).toNat

/-- The code that the selected command asks for, before NE 43 (R257, R258), and whether it calls for the fault level (R259). -/
def portCommand (c : Chip) (n : Nat) : Nat × Bool :=
  if prSel c.mem n = 1 then
    let b := boardNow c (prSig c.mem n)
    if b.valid ∧ c.dev ≠ .safeIdle then (dacCode b.val.toInt, false) else (prSafe c.mem n, !b.valid)
  else
    match portLoop c n with
    | none => (0, false)
    | some k =>
      let safe := rdI c (loopRec k + 0xB0)
      let w := if (c.loop k).mode = .off ∨ c.dev = .safeIdle then safe else (boardNow c (Sig.loopOut k)).val.toInt
      (dacCode w, decide ((c.loop k).mode = .fallback))

/-- The port's command and whether it is the NE 43 fault level (R259). -/
def portTarget (c : Chip) (n : Nat) : Nat × Bool :=
  let k := portCommand c n
  if prNe c.mem n then
    if k.2 ∨ rdB c Reg.LPORT_FAULT_FORCE n then (if mB c.mem (portRec n) 5 then 57344 else 9830, true)
    else (min 55979 (max 10377 k.1), false)
  else (k.1, false)

/-- Whether a port of this unit stands by (R278): in a twin pair a port without shared current waits at the shadow. -/
def portStandby (c : Chip) (n : Nat) : Bool :=
  standby c && !(prShared c.mem n && decide (roleCode c = 3))

/-- Whether a port's stage regulates, onto the loop or into its internal load (R278). -/
def PortSt.runs (p : PortSt) : Bool := decide (p.state = .run) || decide (p.state = .standby)

/-- The code in effect for command `d` (R265, R279, R281), by the port's record in `m`. -/
def portCode (m : Tab Byte) (n d : Nat) (p : PortSt) : Nat :=
  if ¬ p.runs then 0
  else if prShared m n then
    if p.dropped then 0
    else min (clampInt 0 65535 ((if p.full then (d : Int) else roundDiv d 2) + p.trim)).toNat p.limit
  else min d p.limit

/-- The rail target in mV (R261), by the port's record in `m`: 0 with the buck stopped. -/
def railTarget (m : Tab Byte) (c : Chip) (n : Nat) (p : PortSt) : Nat :=
  let hi := rdF c Reg.LPORT_VLOOP 15 0 - 1200
  if p.mode = 1 ∧ p.runs then min (max (p.vpk + 100 * (prHead m n - p.cut)) 3000) (max hi 3000) else 0

/-- The state of a port that is neither retired nor shut, in a mode (R256, R272, R278, R284). -/
def portStateIn (c : Chip) (n mode : Nat) : PortState :=
  if mode = 0 ∨ (c.port n).pfOff ∨ (mode = 1 ∧ ¬ c.vloopOk) then .off else if portStandby c n then .standby else .run

/-- Port `n` at P_OUT (R257–R262, R268, R271, R272): the code of the tick's output set, the mode in effect and the predictive rail step, which
in shared current goes by the command, as the total does. -/
def portPOut (n : Nat) (fresh : Bool) (c : Chip) : Chip :=
  let m := c.mem
  let p := c.port n
  if ¬ fresh then c else
  let t := portTarget c n
  let mode := prMode m n
  let q := { p with
    mode := mode, d := if mode = 0 then 0 else t.1, fault := t.2 && decide (mode ≠ 0),
    state := if p.retired then .retired else if p.state = .shut then .shut else portStateIn c n mode,
    full := prShared m n && (p.full || decide (roleCode c = 0)) }
  let code := portCode m n t.1 q
  let was := if prShared m n then p.d else p.code
  let now := if prShared m n then q.d else code
  let vpk := if q.mode = 1 ∧ q.runs ∧ was < now ∧ 2731 ≤ p.meas then max p.vpk (p.vpk * now / p.meas) else p.vpk
  let q := { q with code := code, vpk := vpk, vhold := if p.vpk < vpk then msTicks c 4 else p.vhold }
  c.setPort n { q with target := railTarget m c n q }

/-- Every port at P_OUT. -/
def portsPOut (fresh : Bool) (c : Chip) : Chip := forEach 32 (fun n c => portPOut n fresh c) c

/-! ### Measurement (R260, R261, R263–R266) -/

/-- A thermal step of a window at temperature `temp` (R265), with THERMAL_LIMIT at the first. -/
def thermalStep (n : Nat) (temp : Int) (c : Chip) : Chip :=
  let p := c.port n
  let none := decide (p.cut = 0) && decide (p.limit = 0xFFFF)
  if 140 ≤ temp then
    let c := c.setPort n (if p.mode = 1 ∧ 15 + p.cut < prHead c.drvMem n then { p with cut := p.cut + 1 } else { p with limit := p.limit - 256 })
    if none then raiseEv Event.LPORT_THERMAL_LIMIT n [n, pw temp] c else c
  else if temp < 135 then
    c.setPort n (if p.limit ≠ 0xFFFF then { p with limit := min 0xFFFF (p.limit + 256) } else { p with cut := p.cut - 1 })
  else c

/-- The terminal peak after a window (R261): it follows a rise, holds for 4 ms, then falls by at most 1 V/ms. -/
def peakNext (c : Chip) (p : PortSt) (mv : Nat) : Nat × Nat :=
  if p.vpk ≤ mv then (mv, msTicks c 4)
  else if 0 < p.vhold then (p.vpk, p.vhold - 1)
  else (max mv (p.vpk - 1000000 / rdF c Reg.TICK_TICKS_PER_SEC 16 0), 0)

/-- Port `n` at P_IN: its signals, and what its window shows (R260–R267, R279–R281). A headroom cut starves the stage where the rail has
reached its target (R267). The limit and the trim of the window are in force from here. -/
def portPIn (n : Nat) (x : PortMeas) (vloop : Nat) (c : Chip) : Chip :=
  let p := c.port n
  let shared := prShared c.drvMem n
  let mean := if shared then x.total else x.own
  let c := boardWrI 1000 (0xD0 + n) (satWord mean) (!p.retired) c
  let c := boardWrI 1000 (0xF0 + n) (satWord x.vt) (!p.retired) c
  let mv := ((x.vt * 36000) / (2 ^ 28 : Nat)).toNat
  let pk := ((max x.vt x.peak * 36000) / (2 ^ 28 : Nat)).toNat
  let judged := decide (p.state = .run)
  let want : Int := p.d * 4096
  let high := judged && x.maxed && decide (want - mean > 328 * 4096) && (decide (p.mode = 2) || decide (vloop ≤ x.rail + 1200)
    || (decide (p.cut ≠ 0) && decide (p.target ≤ x.rail)))
  let low := judged && decide (p.mode = 2) && x.off && decide (mean - want > 328 * 4096)
  let isOpen := judged && x.maxed && decide (65536 ≤ 24 * p.d) && decide (2 * mean < want)
  let k := peakNext c p pk
  let own : Int := p.code * 4096
  let c := c.setPort n { p with
    short := high || low, low := low, shortN := if high || low then p.shortN + 1 else 0, shortEp := p.shortEp && (high || low),
    openN := if isOpen then p.openN + 1 else 0, okN := if isOpen then 0 else p.okN + 1,
    meas := dacCode mean, own := dacCode x.own, vt := min 0xFFFF mv, rail := x.rail, temp := x.temp, vpk := k.1, vhold := k.2,
    trim := if shared ∧ judged then clampInt (-1310) 1310 (p.trim + roundDiv (want - mean) 8192) else 0,
    shareN := if shared && judged && !p.full && decide (4 * mean < 3 * want) && decide ((x.own - own).natAbs ≤ 328 * 4096)
      then p.shareN + 1 else 0,
    overN := if shared && judged && p.full && decide (4 * mean > 5 * want) then p.overN + 1 else 0 }
  let c := if p.retired ∨ p.state = .shut then c else thermalStep n x.temp c
  let q := c.port n
  let c := c.setPort n { q with code := portCode c.drvMem n q.d q, target := railTarget c.drvMem c n q }
  let rep := (high || (judged && decide (q.limit < q.d)) || (p.retired && decide (328 ≤ q.d))).toNat + 2 * low.toNat + 4 * p.retired.toNat
  { c with portRep := tabPut (fun _ => 0) c.portRep n rep }

/-- The ports at P_IN, with VLOOP in mV (R272). -/
def portsPIn (xs : List PortMeas) (vloop : Nat) (c : Chip) : Chip :=
  let c := wrF Reg.LPORT_VLOOP 15 0 (min 0xFFFF vloop) c
  (xs.zip (List.range 32)).foldl (fun c x => portPIn x.2 x.1 vloop c) c

/-! ### Events of a port -/

/-- COMP_TICKS windows in shortfall (R263), as the last of them closes. -/
def compliance (n : Nat) (c : Chip) : Chip :=
  let c := atPhase 0 c
  let p := c.port n
  let k := mF c.drvMem (portRec n + 4) 15 8
  if p.short ∧ ¬ p.shortEp ∧ k ≠ 0 ∧ k ≤ p.shortN then
    raiseEv Event.LPORT_COMPLIANCE n [n, p.low.toNat, p.meas, p.d] (c.setPort n { p with shortEp := true })
  else c

/-- A port becomes open, or ceases to be open (R264), as the last window closes. -/
def openLoop (n : Nat) (c : Chip) : Chip :=
  let c := atPhase 0 c
  let p := c.port n
  let k := msTicks c 5
  if ¬ p.isOpen ∧ k ≤ p.openN then raiseEv Event.LPORT_OPEN_LOOP n [n, 1] (c.setPort n { p with isOpen := true })
  else if p.isOpen ∧ k ≤ p.okN then raiseEv Event.LPORT_OPEN_LOOP n [n, 0] (c.setPort n { p with isOpen := false })
  else c

/-- The shutdowns of port `n` within the window of 600 s of operating time (R269). -/
def recentShuts (c : Chip) (n : Nat) : List Nat := (c.port n).shuts.filter (fun t => decide (c.opSec ≤ t + 600))

/-- The logic die hears of a shutdown: the event, and the permanent outcome of a third within 600 s (R268, R269). -/
def shutFault (n : Nat) (c : Chip) : Chip :=
  let third := decide (3 ≤ (recentShuts c n).length)
  let p := c.port n
  let c := raiseEv Event.LPORT_THERMAL_SHUT n [n]
    (c.setPort n { p with shutDue := false, retDue := if third then some Event.LPORT_THERMAL_SHUT.code else p.retDue })
  if third then permanentOutcome 5 (portUnit n) 1 c else c

/-- THERMAL_SHUT (R268): the field die turns the stage off by itself; a logic die that a restart holds hears of it at the restart's end. -/
def thermalShut (n : Nat) (temp : Int) (c : Chip) : Chip :=
  let p := c.port n
  if temp < 160 ∨ p.mode = 0 ∨ p.state = .shut ∨ p.retired then c else
  let c := c.setPort n { p with
    state := .shut, code := 0, target := 0, shuts := recentShuts c n ++ [c.opSec], shutAt := c.cyc + c.phase, temp := temp, shutDue := true }
  if c.dev = .heldRestart then c else shutFault n c

/-- A shut port restarts at a P_OUT, 100 ms or more after its shutdown (R268). Through a restart of the logic die, whose count of ticks stands,
the field die keeps that time. -/
def thermalRestart (n : Nat) (temp : Int) (c : Chip) : Chip :=
  let c := atPhase (pOutPhase c) c
  let p := c.port n
  if p.state = .shut ∧ ¬ p.retired ∧ p.retDue = none ∧ (recentShuts c n).length < 3 ∧ temp < 120
      ∧ (c.dev = .heldRestart ∨ p.shutAt + 25000000 ≤ c.cyc + c.phase) then
    let q := { p with state := portStateIn c n p.mode, cut := prHead c.drvMem n - 15, temp := temp }
    c.setPort n { q with code := portCode c.drvMem n q.d q, target := railTarget c.drvMem c n q }
  else c

/-- The logic die hears that VLOOP has fallen. -/
def vloopFault (mv : Nat) (c : Chip) : Chip :=
  raiseEv Event.LPORT_VLOOP_LOW 0 [mv] (wr32 Reg.LPORT_VLOOP (Word.ofNat (mv + 0x10000 * c.vloopOk.toNat)) { c with vlowDue := none })

/-- VLOOP below 9.0 V for 1 ms (R272): the field die stops the SOURCE ports by itself. -/
def vloopLow (mv : Nat) (c : Chip) : Chip :=
  if 9000 ≤ mv ∨ ¬ c.vloopOk then c else
  let c := forEach 32 (fun n c =>
    let p := c.port n
    if p.mode = 1 then c.setPort n { p with state := if p.runs then .off else p.state, code := 0, target := 0 } else c)
    { c with vloopOk := false, vlowDue := some mv }
  if c.dev = .heldRestart then c else vloopFault mv c

/-- VLOOP at 10.0 V or more for 10 ms: the ports resume at the next P_OUT (R272). -/
def vloopResume (mv : Nat) (c : Chip) : Chip :=
  if mv < 10000 ∨ c.vloopOk then c
  else if c.dev = .heldRestart then { c with vloopOk := true }
  else wr32 Reg.LPORT_VLOOP (Word.ofNat (mv % 0x10000 + 0x10000)) { c with vloopOk := true }

/-- The check converter's return current of a SOURCE port, and in shared-current mode the partner's reported share (R270, R356). -/
def portReadback (n ret share : Nat) (c : Chip) : Chip :=
  let p := c.port n
  let able (k : Nat) : Bool := decide ((c.port k).mode = 1) && decide ((c.port k).state = .run)
  if ¬ testTurn 5 (portUnit 0) 32 able c n ∨ ¬ checkOn c 5 then c else
  let c := testTaken 5 (portUnit 0) n 1 c
  if p.short ∨ p.cut ≠ 0 ∨ p.limit ≠ 0xFFFF then c else
  let want : Int := if prShared c.drvMem n then p.own + share else p.own
  let j := judge 5 (portUnit n) (decide (100 * ((ret : Int) - want).natAbs ≤ 65536)) c
  if j.1 then
    raiseEv Event.LPORT_READBACK_FAIL n []
      (j.2.setPort n { j.2.port n with retDue := some Event.LPORT_READBACK_FAIL.code })
  else j.2

/-- A sharing port takes w = 1 (R280): 0 by declaration, the partner being lost, retired or blind; 1 by report; 2 by measurement, over three
windows. -/
def shareLost (n cause : Nat) (c : Chip) : Chip :=
  let p := c.port n
  if ¬ prShared c.drvMem n ∨ p.full ∨ p.mode ≠ 1 ∨ (cause = 2 ∧ p.shareN < 3) ∨ (cause = 0 ∧ rdF c Reg.TWIN_TWIN_STAT 9 7 < 4) then c else
  let q := { p with full := true, shareN := 0 }
  let c := c.setPort n { q with code := portCode c.drvMem n q.d q }
  raiseEv Event.LPORT_SHARE_LOST n [n, cause] c

/-- OVERSHARE (R281): the port of the twin strapped B sets its own target to zero. -/
def overshare (n : Nat) (c : Chip) : Chip :=
  let c := atPhase 0 c
  let p := c.port n
  if ¬ prShared c.drvMem n ∨ ¬ p.full ∨ p.overN < 2 ∨ p.dropped then c else
  let isB := rdB c Reg.TWIN_TWIN_STAT 3
  let c := c.setPort n { p with dropped := isB, code := if isB then 0 else p.code, overN := 0 }
  raiseEv Event.LPORT_OVERSHARE n [] c

/-- Sharing resumes with w = 1/2 at a rim that twin supervision plans (R281). -/
def shareResume (c : Chip) : Chip :=
  forEach 32 (fun n c =>
    let p := c.port n
    if p.full ∧ ¬ p.retired ∧ p.state ≠ .shut then c.setPort n { p with full := false, dropped := false, shareN := 0, overN := 0 } else c) c

/-! ### The rim (R269, R271, R286) -/

/-- Retirements and UNRETIRE at the rim (R271). -/
def portRim (n : Nat) (c : Chip) : Chip :=
  let c := if rdB c Reg.LPORT_UNRETIRE n then
      let c := wrB Reg.LPORT_UNRETIRE n false c
      if (c.port n).retired then
        raiseEv Event.LPORT_PORT_UNRETIRED n [n]
          ((clearHistory (portUnit n) c).setPort n { c.port n with retired := false, state := .off, shuts := [] })
      else c
    else c
  let p := c.port n
  match p.retDue with
  | some code =>
    raiseEv Event.LPORT_PORT_RETIRED n [n, code]
      (c.setPort n { p with retired := true, retDue := none, state := .retired, code := 0, target := 0, short := false, isOpen := false })
  | none => c

/-- PSTAT's code of a state (R286). -/
def portStateCode : PortState → Nat
  | .off => 0 | .run => 1 | .shut => 2 | .retired => 3 | .standby => 4

/-- The block of port `n` at the rim (R286). -/
def showPort (n : Nat) (c : Chip) : Chip :=
  let p := c.port n
  let a := portBlock n
  let c := wr32 a (Word.ofNat (portStateCode p.state + 8 * p.short.toNat + 0x10 * p.low.toNat + 0x20 * p.isOpen.toNat
    + 0x40 * (decide (p.cut ≠ 0) || decide (p.limit ≠ 0xFFFF)).toNat + 0x80 * p.fault.toNat + 0x100 * p.full.toNat
    + 0x10000 * (recentShuts c n).length)) c
  let c := wr32 (a + 4) (Word.ofNat (p.code + 0x10000 * p.limit)) c
  let c := wr32 (a + 8) (Word.ofNat (p.meas + 0x10000 * p.vt)) c
  wr32 (a + 12) (Word.ofNat (min 0xFFFF p.rail + 0x10000 * (prHead c.drvMem n - p.cut) + 0x1000000 * (clampInt 0 255 (p.temp + 40)).toNat)) c

/-- The LPORT page at the rim (R286). -/
def showPorts (c : Chip) : Chip :=
  let c := forEach 32 showPort c
  let cnt (f : PortSt → Bool) : Nat := ((List.range 32).filter (fun n => f (c.port n))).length
  let word (f : PortSt → Bool) : Word := mapWord 0 (fun n => decide (n < 32) && f (c.port n))
  let c := wr32 Reg.LPORT_PORT_COUNT (Word.ofNat (cnt (fun p => decide (p.state = .run)) + 0x100 * cnt (fun p => p.retired)
    + 0x10000 * cnt (fun p => p.short))) c
  let c := wrB Reg.LPORT_VLOOP 16 c.vloopOk c
  let c := wr32 Reg.LPORT_COMP_MAP (word (fun p => p.short)) c
  let c := wr32 Reg.LPORT_OPEN_MAP (word (fun p => p.isOpen)) c
  let c := wr32 Reg.LPORT_THERM_MAP (word (fun p => decide (p.cut ≠ 0) || decide (p.limit ≠ 0xFFFF))) c
  let c := wr32 Reg.LPORT_RETIRED_MAP (word (fun p => p.retired)) c
  let c := wr32 Reg.LPORT_SHARE_MAP (word (fun p => p.full)) c
  wr32 Reg.LPORT_CD_MAP (mapWord 0 (fun n => (c.modem n).cd)) c

/-! ### Restart and power failure (R283, R284) -/

/-- A port after a held-output restart: the counts of windows start again (R283). -/
def portRestarted (p : PortSt) : PortSt := { p with shortN := 0, openN := 0, okN := 0, shareN := 0, overN := 0 }

/-- Port `n` after a held-output restart: what the field die did alone is reported (R268). -/
def portResume (n : Nat) (c : Chip) : Chip :=
  let c := c.setPort n (portRestarted (c.port n))
  if (c.port n).shutDue then shutFault n c else c

/-- A fall of VLOOP in a restart is reported. -/
def vloopResumed (c : Chip) : Chip := match c.vlowDue with | some mv => vloopFault mv c | none => c

/-- Power failure: a port without PF_HOLD turns its stage off (R284). -/
def portsPowerFail (c : Chip) : Chip :=
  forEach 32 (fun n c =>
    let p := c.port n
    if mB c.drvMem (portRec n) 6 ∨ p.mode = 0 then c
    else c.setPort n { p with pfOff := true, code := 0, target := 0, state := if p.runs then .off else p.state }) c

/-! ### The checks of a COMMIT (Table 7 of R288) -/

/-- The breaches of Table 7 by the records written; `c` holds the values in effect. -/
def portBreaches (c : Chip) (m : Tab Byte) (written : List Nat) : List Refused :=
  let out (x lo hi : Nat) : Bool := decide (x < lo) || decide (hi < x)
  (written.filter (fun n => decide (prMode m n = 3) || decide (2 ≤ prSel m n))).map (fun n => ⟨1, n, 0⟩)
  ++ (written.filter (fun n => out (prHead m n) 15 60)).map (fun n => ⟨2, n, 0⟩)
  ++ (written.filter (fun n => decide (prSel m n = 1) && (sigReserved (prSig m n)
      || (liveLoops c.mem).any (fun k => decide (lrOutKind c.mem k = 1) && decide (lrOutPort c.mem k = n))))).map (fun n => ⟨3, n, 0⟩)
  ++ (written.filter (fun n => out (mF m (portRec n + 12) 4 0) 2 20 || out (mF m (portRec n + 12) 14 8) 1 64)).map (fun n => ⟨4, n, 0⟩)
  ++ (written.filter (fun n => decide (prMode m n ≠ prMode c.mem n) && decide (prMode m n ≠ 0) && decide (prMode c.mem n ≠ 0)
      && decide (prMode m n ≠ 3))).map (fun n => ⟨5, n, 0⟩)
  ++ (written.filter (fun n => prShared m n && decide (prMode m n ≠ 1))).map (fun n => ⟨6, n, 0⟩)

/-- Record a PORT_REFUSED (R286). -/
def refusePort (r : Refused) (c : Chip) : Chip :=
  wr32 Reg.LPORT_REFUSE_STAT (Word.ofNat (r.item + 0x100 * r.reason)) c

end Sys2Proof.Machine
end

