-- ==== Sys2Proof/Machine/Fsk.lean ====
section
/-!
DEFINITION. Machine/Fsk.lean: the FSK modem of each loop port (R273–R277).
-/
namespace Sys2Proof.Machine

open Sys2Proof

/-- Whether port `n` has its modem enabled (R287). -/
def fskOn (c : Chip) (n : Nat) : Bool := mB c.drvMem (portRec n) 8

/-- Whether a message of the modem may run: its port regulates. In a standby it runs without a tone, so that a takeover goes on with it
(R276, R278). -/
def fskRuns (c : Chip) (n : Nat) : Bool := fskOn c n && (c.port n).runs

/-- The receive side of FSK_STAT, which stands as it is at a read (R286). -/
def showFskRx (n : Nat) (c : Chip) : Chip :=
  let f := c.modem n
  wrB (portBlock n + 0x18) 17 f.cd (wrF (portBlock n + 0x18) 14 8 f.rx.length c)

/-- The transmit side and the error counts, at the rim (R286). -/
def showFsk (n : Nat) (c : Chip) : Chip :=
  let f := c.modem n
  let c := wrF (portBlock n + 0x18) 6 0 f.tx.length c
  let c := wrB (portBlock n + 0x18) 16 (f.msg.isSome || f.held.isSome || f.goDue.isSome) c
  wr32 (portBlock n + 0x20) (Word.ofNat (f.rxErr + 0x10000 * f.rxOvr + 0x1000000 * f.txDrop)) c

/-- A character enters the transmit FIFO; a write to a full FIFO is discarded and counted (R275). -/
def fskTxData (n char : Nat) (c : Chip) : Chip :=
  let f := c.modem n
  if f.tx.length < 64 then c.setModem n { f with tx := f.tx ++ [char % 256] } else c.setModem n { f with txDrop := satInc 8 f.txDrop }

/-- TX_GO applies at the rim (R275): it takes effect after the P_OUT that follows. -/
def fskGo (n len : Nat) (c : Chip) : Chip := c.setModem n { c.modem n with goDue := some len }

/-- The modems at P_OUT: a message that applied at the rim may start from the next bit boundary (R275). -/
def fskPOut (c : Chip) : Chip :=
  forEach 32 (fun n c =>
    let f := c.modem n
    if f.goDue.isSome then c.setModem n { f with held := f.goDue, goDue := none } else c) c

/-- An FSK error of port `n` (R275–R277). -/
def fskErr (n code : Nat) (c : Chip) : Chip := raiseEv Event.LPORT_FSK_ERR n [n, code] c

/-- The message in progress ends at instant `t` with the carrier off; the receiver stays blanked for 2 bit times (R277). -/
def fskEnd (n t : Nat) (c : Chip) : Chip :=
  c.setModem n { c.modem n with msg := none, out := none, abort := false, blank := t + 416666 }

/-- TX_ABORT (R275): the message ends at the next character boundary; one that waits for the line ends at once. -/
def fskAbort (n : Nat) (c : Chip) : Chip :=
  let f := c.modem n
  let waits := f.held.isSome || f.goDue.isSome
  let c := c.setModem n { f with tx := [], held := none, goDue := none, abort := f.msg.isSome }
  if waits ∧ f.msg = none then fskErr n 5 c else c

/-- A held message starts at a bit boundary, once the line is free (R274–R276). -/
def fskStart (n : Nat) (c : Chip) : Chip :=
  let f := c.modem n
  let p := c.port n
  let able := fskRuns c n && !f.cd && decide (f.msg = none) && (decide (p.mode ≠ 1) || (decide (65536 ≤ 24 * p.d) && !p.short))
  match f.held with
  | some len =>
    if able then
      c.setModem n { f with
        held := none, msg := some { pre := mF c.drvMem (portRec n + 12) 4 0 - 1, left := len, char := 0xFF, bit := 0, clipped := false, phase := Config.toneStart % 6 } }
    else c
  | none => c

/-- Bit `k` of a character frame (R274): start, eight data bits, odd parity, stop. -/
def frameBit (char k : Nat) : Bool :=
  if k = 0 then false
  else if k ≤ 8 then bitOf char (k - 1)
  else if k = 9 then decide (((List.range 8).filter (fun i => bitOf char i)).length % 2 = 0)
  else true

/-- The constant that a bit adds (R273): opposite to the mean of its tone. A mark runs through one whole cycle and has none; a space runs through
11/6 of a cycle from its phase. -/
def toneConst (mark : Bool) (phase : Nat) : Int :=
  if mark then 0 else ([-1, 1, 2, 1, -1, -2][phase % 6]?).getD 0

/-- Send bit `bit` of the message's character (R273, R274), with the clipping of R276: in shared current half the tone, until the partner is
lost (R279). A standby sends none (R278). -/
def fskSend (n : Nat) (m : FskMsg) (c : Chip) : Chip :=
  let p := c.port n
  let clip := p.short || decide (40 * p.d < 65536)
  let mark := frameBit m.char m.bit
  let tone : Tone := { mark := mark, phase := m.phase, half := prShared c.drvMem n && !p.full, const := toneConst mark m.phase }
  let c := c.setModem n { c.modem n with
    msg := some { m with bit := m.bit + 1, clipped := m.clipped || clip, phase := (m.phase + if mark then 6 else 11) % 6 },
    out := if p.state = .run then some tone else none }
  if clip ∧ ¬ m.clipped then fskErr n 4 c else c

/-- A bit boundary of port `n` (R274, R275). Through a restart of the logic die the message ends at the next character boundary (R283). -/
def fskBit (n tick phase : Nat) (c : Chip) : Chip :=
  let c := atPhase phase c
  let f := c.modem n
  let t := instant c tick phase
  match f.msg with
  | none => c
  | some m =>
    if m.bit < 11 then fskSend n m c
    else if c.dev = .heldRestart then fskEnd n t (c.setModem n { f with cutDue := true })
    else if f.abort then fskErr n 5 (fskEnd n t (c.setModem n { f with tx := [] }))
    else if 0 < m.pre then fskSend n { m with pre := m.pre - 1, char := 0xFF, bit := 0 } c
    else if m.left = 0 then raiseEv Event.LPORT_FSK_TX_DONE n [] (fskEnd n t c)
    else
      match f.tx with
      | [] => fskErr n 3 (fskEnd n t c)
      | ch :: rest => fskSend n { m with left := m.left - 1, char := ch, bit := 0 } (c.setModem n { f with tx := rest })

/-- Whether the receiver is blanked at instant `t` (R277). -/
def fskBlanked (f : FskSt) (t : Nat) : Bool := f.msg.isSome || decide (t < f.blank)

/-- Carrier detect asserts or deasserts (R277). -/
def fskCarrier (n : Nat) (on : Bool) (tick phase : Nat) (c : Chip) : Chip :=
  let c := atPhase phase c
  let f := c.modem n
  if f.cd = on ∨ ¬ fskOn c n ∨ (on ∧ fskBlanked f (instant c tick phase)) then c else
  let f := if on then { f with first := true, errP := false, errF := false, errO := false } else f
  raiseEv Event.LPORT_FSK_CD n [0, on.toNat] (showFskRx n (c.setModem n { f with cd := on }))

/-- A demodulated character (R277). -/
def fskReceive (n char : Nat) (perr ferr : Bool) (tick phase : Nat) (c : Chip) : Chip :=
  let c := atPhase phase c
  let f := c.modem n
  if ¬ f.cd ∨ ¬ fskOn c n ∨ fskBlanked f (instant c tick phase) then c
  else if f.rx.length = 64 then
    let c := c.setModem n { f with rxOvr := satInc 8 f.rxOvr, ovr := true, errO := true }
    if f.errO then c else fskErr n 2 c
  else
    let w := Word.ofNat (char % 256 + 0x100 * perr.toNat + 0x200 * ferr.toNat + 0x400 * f.first.toNat + 0x800 * f.ovr.toNat + 0x80000000)
    let errs := min 0xFFFF (f.rxErr + perr.toNat + ferr.toNat)
    let c := showFskRx n (c.setModem n { f with
      rx := f.rx ++ [w], first := false, ovr := false, rxErr := errs, errP := f.errP || perr, errF := f.errF || ferr })
    let c := if perr ∧ ¬ f.errP then fskErr n 0 c else c
    let c := if ferr ∧ ¬ f.errF then fskErr n 1 c else c
    if f.rx.length + 1 = mF c.drvMem (portRec n + 12) 14 8 then raiseEv Event.LPORT_FSK_RX n [] c else c

/-- RX_FLUSH (R286). -/
def fskFlush (n : Nat) (c : Chip) : Chip := showFskRx n (c.setModem n { c.modem n with rx := [] })

/-- A read of RX_DATA (R286): the head character, which the read removes. -/
def fskRead (n : Nat) (c : Chip) : Word × Chip :=
  match (c.modem n).rx with
  | [] => (0, c)
  | w :: rest => (w, showFskRx n (c.setModem n { c.modem n with rx := rest }))

/-- A modem after a held-output restart (R283). -/
def fskRestarted (n : Nat) (c : Chip) : Chip :=
  let f := c.modem n
  let c := showFskRx n (c.setModem n { f with
    tx := [], goDue := none, held := none, msg := none, out := none, abort := false, cutDue := false })
  if f.msg.isSome ∨ f.cutDue then fskErr n 5 c else c

end Sys2Proof.Machine
end

