-- ==== Sys2Proof/Machine/Inputs.lean ====
section
/-!
DEFINITION. Machine/Inputs.lean: analogue inputs, switch and discrete inputs, step/direction channels, and the discrete and valve outputs
(R168, R289–R299, R315–R317).
-/
namespace Sys2Proof.Machine

open Sys2Proof

/-! ### Analogue inputs (R289–R295) -/

def aiCfg (m : Tab Byte) (i : Nat) : Word := mrd32 m (Reg.INPUT_AI_CFG + 4 * i)
def aiOwEn (m : Tab Byte) (i : Nat) : Bool := wbit (aiCfg m i) 2
def aiOrInv (m : Tab Byte) (i : Nat) : Bool := wbit (aiCfg m i) 3
def aiThr (m : Tab Byte) (i : Nat) : Nat := fld (aiCfg m i) 31 16

/-- The INPUT page's own words, which the field die takes at P_IN (R315). -/
def inputPage (m : Tab Byte) : Tab Byte := m.filter (fun e => decide (Reg.INPUT_AI_CFG ≤ e.1) && decide (e.1 < Reg.INPUT_SD_COUNT))

/-- The instants of conversion, counted from the PTP second in CK_TIME cycles, where the tick begins with `c.cyc` (R289). -/
def conversionsFrom (c : Chip) : Nat := (c.cyc + 1000 - c.tick * tickN c % 1000) % 1000

/-- At a tick that begins with a PTP second the conversions are counted anew (R289). -/
def secondMark (c : Chip) : Chip := if c.tick * tickN c % 250000000 = 0 then { c with convAt := conversionsFrom c } else c

/-- Whether the inputs convert at phase `ph` of the tick (R289). -/
def convertsAt (c : Chip) (ph : Nat) : Bool := decide ((c.cyc + ph) % 1000 = c.convAt)

/-- A conversion of input `i` (R289, R290, R292–R294). -/
def aiConvert (i : Nat) (code : Int) (c : Chip) : Chip :=
  let a := c.ai i
  let code := clampInt (-131072) 131071 code
  let a := { a with last := code }
  c.setAi i (if a.skip then { a with skip := false }
    else if a.owDue then { a with owDue := false, ow := some code }
    else { a with sum := a.sum + code, cnt := a.cnt + 1, ovr := a.ovr || decide (code = 131071) || decide (code = -131072) })

/-- All inputs convert at once, at an exact multiple of 1000 CK_TIME cycles after a PTP second (R289). -/
def aiConversion (codes : List Int) (ph : Nat) (c : Chip) : Chip :=
  let c := atPhase ph c
  if convertsAt c ph then (codes.zip (List.range 64)).foldl (fun c x => aiConvert x.2 x.1 c) c else c

/-- The window of input `i` closes at P_IN (R290, R292, R294). -/
def aiWindow (i : Nat) (c : Chip) : Chip :=
  let a := c.ai i
  let avg := if a.cnt = 0 then 0 else roundDiv (a.sum * 2048) a.cnt
  let valid := !a.isOpen && !a.retired && !(a.ovr && aiOrInv c.inMem i)
  let c := if a.cnt = 0 then c else boardWrI 1000 (Sig.ai i) avg valid c
  let judge := match a.ow with | some code => if a.cnt = 0 then none else some (code, a.sum, a.cnt) | none => none
  let c := c.setAi i { a with sum := 0, cnt := 0, ovr := false, ow := none, judge := judge, orEp := a.ovr }
  let c := setMapBit Reg.INPUT_AI_OR i a.ovr c
  if a.ovr ∧ ¬ a.orEp then raiseEv Event.INPUT_AI_OVERRANGE i [i, pw avg] c else c

/-- The input whose open-wire test the tick makes, chosen at P_OUT (R294). -/
def owChoose (c : Chip) : Chip :=
  let able (i : Nat) : Bool := aiOwEn c.inMem i && !(c.ai i).skip
  match roundRobin c.owNext ((List.range 64).filter able) with
  | some i => { c.setAi i { c.ai i with owDue := true } with owNext := (i + 1) % 64 }
  | none => c

/-- The open-wire test of input `i` is judged against its window (R294). -/
def openWireTest (i : Nat) (c : Chip) : Chip :=
  let c := atPhase 0 c
  let a := c.ai i
  match a.judge with
  | none => c
  | some (code, sum, cnt) =>
    let fail := decide ((code * cnt - sum).natAbs > aiThr c.inMem i * cnt)
    let a := { a with judge := none, fails := if fail then a.fails + 1 else 0, passes := if fail then 0 else a.passes + 1 }
    if fail ∧ ¬ a.isOpen ∧ 2 ≤ a.fails then raiseEv Event.INPUT_AI_OPEN i [i, 1] (c.setAi i { a with isOpen := true })
    else if ¬ fail ∧ a.isOpen ∧ 2 ≤ a.passes then raiseEv Event.INPUT_AI_OPEN i [i, 0] (c.setAi i { a with isOpen := false })
    else c.setAi i a

/-- The check converter measures input `i` in parallel, one input per tick in rotation (R295, R355, R356). -/
def checkAdc (i : Nat) (code : Int) (c : Chip) : Chip :=
  let a := c.ai i
  if ¬ checkOn c 4 ∨ ¬ testTurn 4 (aiUnit 0) 64 (fun k => !(c.ai k).retired) c i then c else
  let j := judge 4 (aiUnit i) (decide ((code - a.last).natAbs ≤ 64)) (testTaken 4 (aiUnit 0) i 1 c)
  if j.1 then j.2.setAi i { j.2.ai i with retDue := true } else j.2

/-- Retirement and AI_UNRETIRE of input `i` at the rim (R295). -/
def aiRim (i : Nat) (c : Chip) : Chip :=
  let c := if mapBit c Reg.INPUT_AI_UNRETIRE i then
      let c := setMapBit Reg.INPUT_AI_UNRETIRE i false c
      if (c.ai i).retired then
        raiseEv Event.INPUT_AI_UNRETIRED i [i] ((clearHistory (aiUnit i) c).setAi i { c.ai i with retired := false })
      else c
    else c
  if (c.ai i).retDue then raiseEv Event.INPUT_AI_RETIRED i [i] (c.setAi i { c.ai i with retired := true, retDue := false }) else c

/-- A range change that a rim applies: the first conversion after it is excluded (R293), and an open-wire test that was to use that conversion
moves to the next input (R294). `m` is the memory after the change. -/
def aiEffects (m : Tab Byte) (i : Nat) (c : Chip) : Chip :=
  if fld (aiCfg m i) 1 0 = fld (aiCfg c.mem i) 1 0 then c else
  let a := c.ai i
  let c := c.setAi i { a with skip := true, owDue := false }
  if a.owDue then owChoose c else c

/-! ### Switch and discrete inputs (R296, R297) -/

/-- The signal of pin `n`: SWn below 96, DIO(n − 96) above. -/
def pinSig (n : Nat) : Nat := if n < 96 then Sig.sw n else Sig.dio (n - 96)
/-- DEB of pin `n`, in µs. -/
def pinDeb (m : Tab Byte) (n : Nat) : Nat :=
  if n < 96 then (mrd8 m (Reg.INPUT_SW_DEB + n)).toNat else mF m (Reg.INPUT_DIO_CFG + 4 * (n - 96)) 15 8
/-- FUNC of DIO pin `j`. -/
def dioFunc (m : Tab Byte) (j : Nat) : Nat := mF m (Reg.INPUT_DIO_CFG + 4 * j) 1 0
/-- Whether step/direction channel `ch` is enabled (R299). -/
def sdOn (m : Tab Byte) (ch : Nat) : Bool := decide (dioFunc m (2 * ch) = 2) && decide (dioFunc m (2 * ch + 1) = 2)
def sdCfg (m : Tab Byte) (ch : Nat) : Word := mrd32 m (Reg.INPUT_SD_CFG + 4 * ch)

/-- The debounced level of pin `n` at instant `t` (R296). -/
def debouncedAt (m : Tab Byte) (n t : Nat) (p : PinSt) : Bool := if 250 * pinDeb m n ≤ t - p.since then p.raw else p.deb

/-- The level that DIR of channel `ch` has held for MIN_PULSE before instant `t` (R299). -/
def dirLevel (c : Chip) (ch t : Nat) : Bool :=
  let d := c.pin (96 + 2 * ch + 1)
  if 5 * fld (sdCfg c.inMem ch) 7 0 ≤ 2 * (t - d.since) then d.raw else !d.raw

/-- Whether a level change of pin `n` to `level` is a step edge in the direction that EDGE selects (R299). -/
def isStepEdge (m : Tab Byte) (n : Nat) (level : Bool) : Bool :=
  decide (96 ≤ n) && decide ((n - 96) % 2 = 0) && sdOn m ((n - 96) / 2) && (level != wbit (sdCfg m ((n - 96) / 2)) 8)

/-- A raw edge of pin `n` (R296, R297). -/
def rawEdge (n : Nat) (level : Bool) (tick phase : Nat) (c : Chip) : Chip :=
  let c := atPhase phase c
  let p := c.pin n
  if p.raw = level then c else
  let t := instant c tick phase
  let step := isStepEdge c.inMem n level
  let c := c.setPin n { p with
    raw := level, since := t, deb := debouncedAt c.inMem n t p, edges := p.edges + 1,
    stamps := if p.stamps.length < 4 then p.stamps ++ [(tick, phase)] else p.stamps,
    dirAt := if step then dirLevel c ((n - 96) / 2) t else p.dirAt, stepDue := step }
  let c := if n < 96 then setMapBit Reg.INPUT_SW_RAW n level c else setMapBit Reg.INPUT_DIO_RAW (n - 96) level c
  chatterEdge n t c

/-- Pin `n` at P_IN: its debounced level, and its edge records (R296, R297). -/
def pinWindow (n : Nat) (c : Chip) : Chip :=
  let p := c.pin n
  let deb := debouncedAt c.inMem n (instant c c.tick 0) p
  let c := boardWrI 1000 (pinSig n) (if deb then 0x10000000 else 0) true c
  let c := if 4 < p.edges then
      wr32 Reg.INPUT_EDGE_LOST_COUNT (Word.ofNat (min 0xFFFFFFFF (rdN c Reg.INPUT_EDGE_LOST_COUNT + (p.edges - 4)))) c
    else c
  c.setPin n { p with deb := deb, edges := 0, stamps := [], count := p.edges % 0x10000, recs := p.stamps }

/-- The discrete inputs at P_IN, with EDGE_LOST once per tick (R297). -/
def pinsPIn (c : Chip) : Chip :=
  let lost := (List.range 144).find? (fun n => decide (4 < (c.pin n).edges))
  let c := forEach 144 pinWindow c
  match lost with
  | some n => raiseEv Event.INPUT_EDGE_LOST n [n] c
  | none => c

/-- A step edge of channel `ch` that STEP has held for MIN_PULSE is qualified (R299, R232). -/
def stepEdge (ch tick phase : Nat) (c : Chip) : Chip :=
  let c := atPhase phase c
  let p := c.pin (96 + 2 * ch)
  let k := sdCfg c.inMem ch
  if ¬ p.stepDue ∨ ¬ sdOn c.inMem ch ∨ 2 * (instant c tick phase - p.since) < 5 * fld k 7 0 then c else
  let up := p.dirAt != wbit k 9
  let a := Reg.INPUT_SD_COUNT + 4 * ch
  let c := wr32 a (if up then rd32 c a + 1 else rd32 c a - 1) (c.setPin (96 + 2 * ch) { p with stepDue := false })
  stepInput ch up p.since c

/-! ### Outputs (R168, R298) -/

/-- The level of valve output `v` (R168): power failure, guard force, SAFE_IDLE, then VALVE_CMD. -/
def valveLevel (c : Chip) (v : Nat) : Bool :=
  if c.pf then mapBit c Reg.TASK_VALVE_SAFE_LO v else
  match valveForce c v with
  | some b => b
  | none => if c.dev = .safeIdle then mapBit c Reg.TASK_VALVE_SAFE_LO v else mapBit c Reg.TASK_VALVE_CMD_LO v

/-- The valve outputs at P_OUT. -/
def valvesPOut (c : Chip) : Chip :=
  let level (v : Nat) : Bool := valveLevel c v
  wrMap Reg.TASK_VALVE_STATE_LO 2 level c

/-- The valve output that a route binds to DIO pin `j` (R168). -/
def valveOnPin (c : Chip) (j : Nat) : Option Nat :=
  (List.range 64).find? (fun v =>
    let r := (mrd8 c.drvMem (Reg.TASK_VALVE_ROUTE + v)).toNat
    bitOf r 7 && decide (r % 64 = j))

/-- DIO pin `j` at P_OUT (R298), by the configuration that the field die took last. -/
def dioPOut (j : Nat) (c : Chip) : Chip :=
  let w := mrd32 c.drvMem (Reg.INPUT_DIO_CFG + 4 * j)
  let p := c.pin (96 + j)
  let safe := wbit w 2
  if fld w 1 0 = 1 then
    let b := boardNow c (fld w 29 16)
    let on := if c.dev = .safeIdle ∨ ¬ b.valid ∨ c.pf then safe else decide (0x08000000 ≤ b.val.toInt)
    c.setPin (96 + j) { p with driven := some on }
  else if fld w 1 0 = 0 then
    match valveOnPin c j with
    | some v => c.setPin (96 + j) { p with driven := some (mapBit c Reg.TASK_VALVE_STATE_LO v) }
    | none => c.setPin (96 + j) { p with driven := none }
  else c.setPin (96 + j) { p with driven := none }

/-- Valve and discrete outputs at a P_OUT with an output set (R298). -/
def diosPOut (c : Chip) : Chip := forEach 48 dioPOut (valvesPOut c)

/-! ### The rim and the checks of a COMMIT (R315, R317) -/

/-- The INPUT page's maps at the rim. -/
def showInputs (c : Chip) : Chip :=
  let opens (i : Nat) : Bool := (c.ai i).isOpen
  let rets (i : Nat) : Bool := (c.ai i).retired
  wrMap Reg.INPUT_AI_OPEN 2 opens (wrMap Reg.INPUT_AI_RETIRED 2 rets c)

/-- An analogue input after a held-output restart (R295): its window starts again. -/
def aiRestarted (a : AiSt) : AiSt := { a with sum := 0, cnt := 0, ovr := false, ow := none, judge := none, owDue := false, skip := false }

/-- The breaches of Table 10 by the DIO pins and channels written; `c` holds the values in effect. -/
def inputBreaches (c : Chip) (m : Tab Byte) (dios chans : List Nat) : List Refused :=
  let routed (j : Nat) : Bool := (List.range 64).any (fun v =>
    let r := (rd8 c (Reg.TASK_VALVE_ROUTE + v)).toNat
    bitOf r 7 && decide (r % 64 = j))
  let sdNamed (j : Nat) : Bool := (List.range 32).any (fun n => decide (drvSrc c.mem n = 1) && decide (mF c.mem (drv n) 12 8 = j / 2))
  (dios.filter (fun j => routed j && decide (dioFunc m j ≠ 0))).map (fun j => ⟨1, j, 0⟩)
  ++ (dios.filter (fun j => (decide (dioFunc m j = 2) != decide (dioFunc m (2 * (j / 2) + 1 - j % 2) = 2)))).map (fun j => ⟨2, j, 0⟩)
  ++ (dios.filter (fun j => sdNamed j && decide (dioFunc m j ≠ dioFunc c.mem j))).map (fun j => ⟨3, j, 0⟩)
  ++ (dios.filter (fun j => sigReserved (mF m (Reg.INPUT_DIO_CFG + 4 * j) 29 16))).map (fun j => ⟨4, j, 0⟩)
  ++ (dios.filter (fun j => decide (dioFunc m j = 3))).map (fun j => ⟨5, j, 0⟩)
  ++ (chans.filter (fun k => decide (fld (sdCfg m k) 7 0 < 10))).map (fun k => ⟨5, k, 0⟩)

/-- Record an INPUT_REFUSED (R315). -/
def refuseInput (r : Refused) (c : Chip) : Chip := wr32 Reg.INPUT_REFUSE_STAT (Word.ofNat (r.item + 0x100 * r.reason)) c

end Sys2Proof.Machine
end

