-- ==== Sys2Proof/Machine/Wirid.lean ====
section
/-!
DEFINITION. Machine/Wirid.lean: the Wirid field link: link start, timing, tick frames, returns and losses (R300–R319, R426).
-/
namespace Sys2Proof.Machine

open Sys2Proof

/-! ### Blocks and maps (R318) -/

/-- The block of port `p`. -/
def wb (p : Nat) : Nat := 0xC080 + 32 * p
/-- The state of port `p`: 0 DOWN, 1 STARTING, 2 RUNNING, 3 DEGRADED, 4 HELD, 5 FAILED. -/
def wlState (c : Chip) (p : Nat) : Nat := rdF c (wb p + 4) 2 0
/-- Whether port `p` runs. -/
def wlRuns (c : Chip) (p : Nat) : Bool := decide (wlState c p = 2) || decide (wlState c p = 3)
/-- OUT_MAP and IN_MAP of head `k`: offset and length. -/
def headOut (m : Tab Byte) (p k : Nat) : Nat × Nat :=
  (mF m (Reg.WLINK_HEAD_MAP + 128 * p + 8 * k) 10 0, mF m (Reg.WLINK_HEAD_MAP + 128 * p + 8 * k) 26 16)
def headIn (m : Tab Byte) (p k : Nat) : Nat × Nat :=
  (mF m (Reg.WLINK_HEAD_MAP + 128 * p + 8 * k + 4) 10 0, mF m (Reg.WLINK_HEAD_MAP + 128 * p + 8 * k + 4) 26 16)
/-- IN_SIG of port `p`. -/
def inSig (m : Tab Byte) (p : Nat) : Nat := mF m (wb p + 16) 13 0
/-- The payload words of the tick frame. -/
def outLen (m : Tab Byte) (p : Nat) : Nat := ((outRuns m p).map (fun x => if x.2.1 then 1 else x.2.2)).sum
/-- The input words of the return frame: the end of the last head's IN map, over the first `heads` heads. -/
def inLen (m : Tab Byte) (p heads : Nat) : Nat :=
  (List.range heads).foldl (fun n k => if (headIn m p k).2 = 0 then n else max n ((headIn m p k).1 + (headIn m p k).2)) 0
/-- The capacity of a port in words (R307). -/
def wlCapacity (n : Nat) : Nat := min 1024 (n * 1024 / 5000)

/-! ### Timing (R307) -/

/-- The largest T_SAMP of a port's heads, in CK_TIME cycles. -/
def tSamp (hs : List HeadSt) : Nat := hs.foldl (fun n h => max n (fld h.id3 11 0)) 0
/-- D_LAST in CK_TIME cycles, rounded up. -/
def dLast (hs : List HeadSt) : Nat := ((hs.getLast?.map (·.dk)).getD 0 + 1) / 2
/-- The lead (R307): `len` return words, with the partner's lead in a twin pair. -/
def wlLead (len : Nat) (hs : List HeadSt) (partner : Nat) : Nat :=
  max (max (2 * (len + 22) + dLast hs + tSamp hs - 725) 125) partner
/-- The partner's lead on port `p`, as exchanged over the TWIN link; 0 without a partner (R307). -/
def partnerLead (c : Chip) (p : Nat) : Nat := if rdF c Reg.TWIN_TWIN_STAT 9 7 = 6 then 0 else (c.wl p).partner
/-- The port's minimum D_APPLY (R307). -/
def wlApplyMin (len : Nat) (hs : List HeadSt) : Nat := 2 * (len + 8) + dLast hs + 25
/-- FS_OFF (R302). -/
def fsOff (c : Chip) (p : Nat) : Nat := tickN c - pOutPhase c - rdF c (wb p + 8) 15 0
/-- TURN_OFF (R302, R307). -/
def turnOff (c : Chip) (p : Nat) : Nat := fsOff c p + tSamp (c.wl p).heads

/-! ### Status (R318) -/

/-- LINK_STAT, DAPPLY_MIN and the head that SEL names. -/
def showWlink (c : Chip) : Chip :=
  let runs (s : Nat) : Nat := (List.range 8).foldl (fun n p => n + (if wlState c p = s then 2 ^ p else 0)) 0
  let c := wr32 Reg.WLINK_LINK_STAT (Word.ofNat (runs 2 + 0x100 * runs 3)) c
  let mins := (List.range 8).foldl (fun n p => if wlRuns c p then max n (rdF c (wb p + 8) 31 16) else n) 0
  let c := wr32 Reg.WLINK_DAPPLY_MIN (Word.ofNat mins) c
  let h : HeadSt := ((c.wl (rdF c Reg.WLINK_SEL 2 0)).heads[rdF c Reg.WLINK_SEL 7 4]?).getD {}
  let c := wr32 Reg.WLINK_SEL_ID h.id0 (wr32 (Reg.WLINK_SEL_ID + 4) h.id1 (wr32 (Reg.WLINK_SEL_ID + 8) h.id2 (wr32 (Reg.WLINK_SEL_ID + 12) h.id3 c)))
  wr32 Reg.WLINK_SEL_DELAY (Word.ofNat (h.dk + 0x10000 * h.ta)) (wr32 Reg.WLINK_SEL_HSTAT h.hstat c)

/-- Put port `p` in a state. -/
def setWlState (p s : Nat) (c : Chip) : Chip := showWlink (wrF (wb p + 4) 2 0 s c)

/-- Raise an event of port `p`, which WLp reports (R507). -/
def raiseWl (d : EvDef) (p : Nat) (ps : List Nat) (c : Chip) : Chip := raiseVia d (reqWl p) p c.phase ps c

/-! ### Link start and stop (R305, R308, R312, R318) -/

/-- Link start begins on port `p`: it stops sending and its heads hold (R305). -/
def beginLink (p : Nat) (c : Chip) : Chip :=
  let c := c.setWl p { c.wl p with judged := true, retEp := false, restart := false }
  emit (.linkStart p) (setWlState p 1 (wrF (wb p + 4) 15 12 0 (wrF (wb p + 4) 11 8 0 c)))

/-- START at the rim: accepted in SAFE_IDLE, and in RUN only for a port that is DOWN or FAILED (R305). -/
def linkStart (p : Nat) (c : Chip) : Chip :=
  if rdB c (wb p) 0 ∧ (c.dev = .safeIdle ∨ wlState c p = 0 ∨ wlState c p = 5) then beginLink p c else c

/-- STOP at the rim (R318). -/
def linkStop (p : Nat) (c : Chip) : Chip := setWlState p 0 c

/-- AUTO_START at entry to SAFE_IDLE (R312). -/
def autoStarts (c : Chip) : Chip := forEach 8 (fun p c => if rdB c (wb p) 3 then linkStart p c else c) c

/-- Link start has failed (R308). -/
def linkFail (p reason pos : Nat) (c : Chip) : Chip :=
  raiseWl Event.WLINK_WL_START_FAIL p [p, reason, pos] (setWlState p 5 (wrF (wb p + 4) 15 12 reason c))

/-- D_k of R306 in units of 2 ns: (RTT − TA) / 2, averaged over the exchanges and rounded up, as R307 rounds its quantities (DESIGN CHOICE: R306
names no rounding; log entry 32). -/
def headDelay (l : List (Nat × Nat)) : Nat :=
  let n := 2 * max 1 l.length
  ((l.map (fun e => e.1 - e.2)).sum + n - 1) / n

/-- A head found becomes the head's state; its turnaround reads as in the last exchange (DESIGN CHOICE, log entry 32). -/
def headFound (h : HeadFound) : HeadSt :=
  { id0 := h.id0, id1 := h.id1, id2 := h.id2, id3 := h.id3, dk := headDelay h.exchanges, ta := (h.exchanges.getLast?.map (·.2)).getD 0 }

/-- The heads found, with the maps that link start writes to them (R305). -/
def headsFound (m : Tab Byte) (p : Nat) (l : List HeadFound) : List HeadSt :=
  (l.zip (List.range l.length)).map (fun x => { headFound x.1 with inOff := (headIn m p x.2).1, inLen := (headIn m p x.2).2 })

/-- The address and data pairs of the CONFIG frames to head `k`: the standard registers of Table 6, the port's list, and ACTIVATE (R305). -/
def configPairs (m : Tab Byte) (p k : Nat) (hs : List HeadSt) : List (Nat × Word) :=
  let last := (hs.getLast?.map (·.dk)).getD 0
  let entry (e : Nat) : Nat := Reg.WLINK_HEAD_CFG + 256 * p + 8 * e
  [(0x02, Word.ofNat (((hs[k]?).getD {}).dk)), (0x03, mrd32 m (Reg.WLINK_HEAD_MAP + 128 * p + 8 * k)),
   (0x04, mrd32 m (Reg.WLINK_HEAD_MAP + 128 * p + 8 * k + 4)), (0x05, Word.ofNat (mF m (wb p + 28) 23 0)), (0x06, Word.ofNat last)]
  ++ ((List.range 32).filter (fun e => mB m (entry e) 15 && decide (mF m (entry e) 3 0 = k))).map
      (fun e => (mF m (entry e) 31 16, mrd32 m (entry e + 4)))
  ++ [(0x07, 1)]

/-- CONFIG frames leave for heads 0 to `n` − 1, each with at most 32 pairs (Table 5). -/
def sendConfigs (p n : Nat) (hs : List HeadSt) (c : Chip) : Chip :=
  forEach n (fun k c =>
    let l := configPairs c.mem p k hs
    let c := emit (.config p k (l.take 32)) c
    if 32 < l.length then emit (.config p k (l.drop 32)) c else c) c

/-- The first failure of Table 13 that a link start meets, with its position. -/
def linkFailure (c : Chip) (p : Nat) (r : LinkResult) : Option (Nat × Nat) :=
  let hs := r.heads.map headFound
  let pos := List.range hs.length
  let at0 (k : Nat) : HeadSt := (hs[k]?).getD {}
  let beyond (k : Nat) : Bool := decide (fld (at0 k).id2 10 0 < (headOut c.mem p k).2) || decide (fld (at0 k).id2 26 16 < (headIn c.mem p k).2)
  let lead := wlLead (inLen c.mem p hs.length) hs (partnerLead c p)
  if ¬ r.locked then some (1, 0)
  else if 16 < hs.length then some (2, 16)
  else match pos.find? (fun k => decide (fld (at0 k).id3 15 12 < 2)) with
    | some k => some (3, k)
    | none => match pos.find? beyond with
      | some k => some (4, k)
      | none => match r.nak with
        | some k => some (6, k)
        | none => if tickN c < lead + 250 then some (5, hs.length - 1) else none

/-- A port runs or is held by its minimum D_APPLY (R308). -/
def runOrHold (p : Nat) (c : Chip) : Chip :=
  if dApply c < rdF c (wb p + 8) 31 16 then setWlState p 4 c
  else raiseWl Event.WLINK_WL_UP p [] (setWlState p 2 c)

/-- Link start ends (R306–R308). -/
def linkStartDone (p : Nat) (r : LinkResult) (c : Chip) : Chip :=
  if wlState c p ≠ 1 then c else
  let w := c.wl p
  let hs := headsFound c.mem p r.heads
  if w.restart then
    -- after a held-output restart: identities are compared, and the retained timing stands (R313)
    let same := decide (hs.map (fun h => (h.id0, h.id1, h.id2, h.id3)) = w.heads.map (fun h => (h.id0, h.id1, h.id2, h.id3)))
    let c := c.setWl p { w with restart := false }
    if r.locked ∧ same then runOrHold p c else linkFail p 7 0 c
  else
    match linkFailure c p r with
    | some f =>
      let c := if f.1 = 5 then sendConfigs p hs.length hs c else if f.1 = 6 then sendConfigs p (min hs.length (f.2 + 1)) hs c else c
      linkFail p f.1 f.2 (wrF (wb p + 4) 7 3 (min 31 hs.length) c)
    | none =>
      let c := sendConfigs p hs.length hs c
      let len := inLen c.mem p hs.length
      let two := hs.any (fun h => decide (fld h.id3 15 12 = 2))
      let c := c.setWl p { w with heads := hs, version := if two then 2 else 3 }
      let c := wrF (wb p + 4) 7 3 hs.length (wrF (wb p + 4) 11 8 0 c)
      let c := wr32 (wb p + 8) (Word.ofNat (wlLead len hs (partnerLead c p) + 0x10000 * wlApplyMin (outLen c.mem p) hs)) c
      let c := wrF (wb p + 16) 26 16 len c
      let c := wr32 (wb p + 12) (Word.ofNat (turnOff c p + 0x10000 * fsOff c p)) c
      runOrHold p c

/-- After a TICK commit: held ports are judged again, and running ports take the new offsets (R308). -/
def rejudgeLinks (c : Chip) : Chip :=
  forEach 8 (fun p c =>
    let c := if wlRuns c p ∨ wlState c p = 4 then wr32 (wb p + 12) (Word.ofNat (turnOff c p + 0x10000 * fsOff c p)) c else c
    if wlState c p = 4 then runOrHold p c else c) c

/-! ### Tick frames (R302, R304, R314, R426) -/

/-- Whether port `p` sends its tick frame: by the role, on a version 2 port only as owner, and after a takeover not within 1 µs of the decision on
a version 2 port, in MIGRATION or after a degraded takeover (R407, R410, R426, R431). -/
def sendsFrames (c : Chip) (p : Nat) : Bool :=
  wlRuns c p
    && !c.twin.framesAt.any (fun f => decide (instant c c.tick c.phase < f.1) && (f.2 || decide ((c.wl p).version = 2)))
    && (decide (roleCode c = 0) || decide (roleCode c = 2)
    || (decide (roleCode c = 3) && decide ((c.wl p).version = 3) && !rdB c Reg.TWIN_TWIN_STAT 11))

/-- The payload of port `p` (R304). -/
def framePayload (c : Chip) (p : Nat) : List Word :=
  (outRuns c.mem p).flatMap (fun x =>
    if x.2.1 then [rd32 c (if x.1 % 2 = 0 then Reg.TASK_VALVE_STATE_LO else Reg.TASK_VALVE_STATE_HI)]
    else (sigRange x.1 x.2.2).map (fun s => (boardNow c s).val))

/-- The words of a tick frame before its payload (Table 2 of R302). -/
def frameHeader (c : Chip) (p len : Nat) (rep : Bool) : List Word :=
  let v3 := decide ((c.wl p).version = 3)
  let line := (rdB c Reg.TWIN_TWIN_STAT 3).toNat
  let flags := if v3 then roleCode c + 8 * (decide (c.dev = .safeIdle)).toNat + 16 * rep.toNat else 0
  [Word.ofNat (0xFB + 0x100 + 0x10000 * (if v3 then 3 else 2) + 0x1000000 * (p + 8 * line)),
   Word.ofNat c.tick,
   Word.ofNat (c.tick / 0x100000000 % 0x10000 + 0x10000 * (if v3 then rdF c Reg.TWIN_TWIN_STAT 31 16 else 0)),
   Word.ofNat (flags + 0x10000 * len),
   Word.ofNat (dApply c + 0x10000 * turnOff c p),
   Word.ofNat (fsOff c p + 0x10000 * tickN c)]

/-- The CRC-32 of a frame's words after its start, least significant byte first (R301). -/
def wordsCrc (l : List Word) : Nat := crc32 (l.flatMap (fun w => leBytes 4 w.toNat))

/-- The tick frames at P_OUT; after an early overrun they repeat the previous payload (R49). -/
def wlinkPOut (rep : Bool) (c : Chip) : Chip :=
  forEach 8 (fun p c =>
    if sendsFrames c p then
      let pay := if rep then (c.wl p).sent else framePayload c p
      let head := frameHeader c p pay.length rep
      emit (.tickFrame p head pay (Word.ofNat (wordsCrc (head.drop 1 ++ pay)))) (c.setWl p { c.wl p with sent := pay })
    else c) c

/-! ### Returns (R303, R304, R310, R311) -/

/-- A new tick expects a return on each port. -/
def wlinkTick (c : Chip) : Chip := forEach 8 (fun p c => c.setWl p { c.wl p with judged := false }) c

/-- The lowest lost position, and whether the port is degraded (R310). -/
def showLost (p : Nat) (c : Chip) : Chip :=
  let hs := (c.wl p).heads
  match (List.range hs.length).find? (fun k => ((hs[k]?).getD {}).lost) with
  | some k => setWlState p 3 (wrF (wb p + 4) 11 8 k c)
  | none => setWlState p 2 (wrF (wb p + 4) 11 8 0 c)

/-- The status word of head `k` in a good return (R310). -/
def headReturn (p k : Nat) (w : Word) (c : Chip) : Chip :=
  let x := c.wl p
  let h := (x.heads[k]?).getD {}
  let fresh := wbit w 0
  let stale := if fresh then 0 else h.stale + 1
  let lost := if fresh then false else h.lost || decide (3 ≤ stale)
  let c := c.setWl p { x with heads := x.heads.set k { h with hstat := w, stale := stale, lost := lost, safe := wbit w 3 } }
  let c := if lost ∧ ¬ h.lost then raiseWl Event.WLINK_HEAD_LOST p [p, k] c
    else if h.lost ∧ ¬ lost then raiseWl Event.WLINK_HEAD_REGAINED p [] c else c
  if wbit w 3 ∧ ¬ h.safe then raiseWl Event.WLINK_HEAD_SAFE p [] c else c

/-- The fresh slots of head `k`, by the map that it took at link start, reach the board at P_IN + 3.0 µs (R304, R318). -/
def headSlots (p k : Nat) (w : Word) (payload : List Word) (c : Chip) : Chip :=
  if ¬ wbit w 0 then c else
  let h := ((c.wl p).heads[k]?).getD {}
  forAll (sigRange h.inOff h.inLen) (fun s c =>
    match payload[s]? with
    | some v => if sigAssignable (inSig c.mem p + s) then boardWr 3000 (inSig c.mem p + s) v true c else c
    | none => c) c

/-- The words of a return frame that its CRC covers (Table 3 of R303). -/
def returnWords (f : ReturnFrame) : List Word :=
  [Word.ofNat f.seq, Word.ofNat (f.seq / 0x100000000 % 0x10000 + 0x10000 * f.epochSeen), Word.ofNat (f.turnPos + 0x10000 * f.payload.length)]
  ++ (List.range 16).map (fun k => (f.hstat[k]?).getD 0) ++ f.payload

/-- Whether the CRC of a return frame is good, and whether it is stomped: the inverse of the right one (R301). -/
def crcGood (f : ReturnFrame) : Bool := decide (f.crc = Word.ofNat (wordsCrc (returnWords f)))
def crcStomped (f : ReturnFrame) : Bool := decide (f.crc = ~~~ Word.ofNat (wordsCrc (returnWords f)))

/-- A return frame arrives on port `p`, complete at phase `ph` (R304, R310). -/
def returnFrame (p : Nat) (f : ReturnFrame) (ph : Nat) (c : Chip) : Chip :=
  let c := atPhase ph c
  if ¬ wlRuns c p then c
  else if crcStomped f then wrF (wb p + 20) 31 16 (satInc 16 (rdF c (wb p + 20) 31 16)) c
  else if ¬ crcGood f ∨ 725 < ph ∨ (c.wl p).judged ∨ f.seq ≠ c.tick then c
  else
    let c := c.setWl p { c.wl p with judged := true, retEp := false }
    let n := (c.wl p).heads.length
    let stat (k : Nat) : Word := (f.hstat[k]?).getD 0
    let c := forEach n (fun k c => headSlots p k (stat k) f.payload (headReturn p k (stat k) c)) c
    showLost p c

/-- No good return by P_IN + 2.9 µs (R310). -/
def returnLost (p : Nat) (c : Chip) : Chip :=
  let c := atPhase 725 c
  let w := c.wl p
  if ¬ wlRuns c p ∨ w.judged then c else
  let c := wrF (wb p + 20) 15 0 (satInc 16 (rdF c (wb p + 20) 15 0)) (regInc (wb p + 24) c)
  let c := c.setWl p { w with judged := true, retEp := true }
  if w.retEp then c else raiseWl Event.WLINK_RETURN_LOST p [] c

/-- The receive link has been out of lock for 1 ms (R311). -/
def wlDown (p : Nat) (c : Chip) : Chip :=
  if wlRuns c p ∨ wlState c p = 4 then raiseWl Event.WLINK_WL_DOWN p [] (setWlState p 0 c) else c

/-- The ports after a held-output restart: they relock and repeat enumeration (R313). -/
def wlinkRestarted (c : Chip) : Chip :=
  forEach 8 (fun p c =>
    if wlRuns c p ∨ wlState c p = 4 then
      setWlState p 1 (c.setWl p { c.wl p with restart := true, judged := true, retEp := false })
    else c) c

/-! ### The checks of a COMMIT (R319) -/

/-- The inbound signals that a port's maps place. -/
def inboundRange (m : Tab Byte) (p : Nat) : Nat × Nat := (inSig m p, inSig m p + inLen m p 16)

/-- The breaches of R319 by the ports written; `taken` says whether another producer writes a signal. -/
def wlinkBreaches (c : Chip) (m : Tab Byte) (written : List Nat) (taken : Nat → Nat → Bool) : List Refused :=
  let heads := List.range 16
  let meets (a b : Nat × Nat) : Bool := decide (0 < a.2) && decide (0 < b.2) && decide (a.1 < b.1 + b.2) && decide (b.1 < a.1 + a.2)
  (written.filter (fun p =>
    let r := inboundRange m p
    decide (r.1 < r.2) && (decide (r.1 < 0x2000) || decide (0x4000 < r.2)
      || (List.range 8).any (fun q => decide (q ≠ p) && decide ((inboundRange m q).1 < r.2) && decide (r.1 < (inboundRange m q).2))
      || (sigRange r.1 (r.2 - r.1)).any (taken p)))).map (fun p => ⟨1, p, 0⟩)
  ++ (written.filter (fun p =>
    decide (wlCapacity (tickN c) < ((heads.map (fun k => (headOut m p k).2)).sum))
      || decide (wlCapacity (tickN c) < ((heads.map (fun k => (headIn m p k).2)).sum)))).map (fun p => ⟨2, p, 0⟩)
  ++ (written.filter (fun p => heads.any (fun k => heads.any (fun j => decide (j < k) && meets (headIn m p j) (headIn m p k))))).map (fun p => ⟨3, p, 0⟩)
  ++ (written.filter (fun p => (outRuns m p).any (fun x => !x.2.1 && (sigRange x.1 x.2.2).any sigReserved)
      || (List.range 32).any (fun e => mB m (Reg.WLINK_HEAD_CFG + 256 * p + 8 * e) 15
          && decide (mF m (Reg.WLINK_HEAD_CFG + 256 * p + 8 * e) 31 16 < 0x0100)))).map (fun p => ⟨4, p, 0⟩)

end Sys2Proof.Machine
end

