-- ==== Sys2Proof/Machine/Capture.lean ====
section
/-!
DEFINITION. Machine/Capture.lean: the capture sets, their item streams, triggers and records, watch bins and the sync bus (R320–R345).
-/
namespace Sys2Proof.Machine

open Sys2Proof

def Chip.cap (c : Chip) (s : Nat) : CapSt := tabGet (fun _ => {}) c.caps s
def Chip.setCap (c : Chip) (s : Nat) (x : CapSt) : Chip := { c with caps := tabPut (fun _ => {}) c.caps s x }

/-! ### Configuration (Table 8 of R344) -/

def capCtl (m : Tab Byte) (s : Nat) : Word := mrd32 m (Reg.CAPTURE_SET_CFG + 32 * s)
def capEn (m : Tab Byte) (s : Nat) : Bool := wbit (capCtl m s) 0
/-- The reduction: 0 RAW, 1 AVERAGE, 2 CHANGE. -/
def capRed (m : Tab Byte) (s : Nat) : Nat := fld (capCtl m s) 2 1
def capStream (m : Tab Byte) (s : Nat) : Bool := wbit (capCtl m s) 3
def capDma (m : Tab Byte) (s : Nat) : Nat := fld (capCtl m s) 6 4
def capAvgN (m : Tab Byte) (s : Nat) : Nat := fld (capCtl m s) 31 16
def capPre (m : Tab Byte) (s : Nat) : Nat := mF m (Reg.CAPTURE_SET_CFG + 32 * s + 4) 23 0
def capPost (m : Tab Byte) (s : Nat) : Nat := mF m (Reg.CAPTURE_SET_CFG + 32 * s + 8) 23 0
def capRearm (m : Tab Byte) (s : Nat) : Nat := mF m (Reg.CAPTURE_SET_CFG + 32 * s + 12) 23 0
def capTrigEn (m : Tab Byte) (s : Nat) : Word := mrd32 m (Reg.CAPTURE_SET_CFG + 32 * s + 16)
def capSel (m : Tab Byte) (s : Nat) : Word := mrd32 m (Reg.CAPTURE_SET_CFG + 32 * s + 20)
/-- Base and size of a set's ring, in bytes. -/
def capBase (m : Tab Byte) (s : Nat) : Nat := 0x100000 * mF m (Reg.CAPTURE_SET_CFG + 32 * s + 24) 12 0
def capSize (m : Tab Byte) (s : Nat) : Nat := 0x100000 * mF m (Reg.CAPTURE_SET_CFG + 32 * s + 24) 29 16

/-- The runs in use: SIG, COUNT and DB, up to the first with COUNT = 0 (R321). -/
def capUsedRuns (m : Tab Byte) (s : Nat) : List (Nat × Nat × Int) :=
  ((List.range 4).map (fun r =>
    let a := Reg.CAPTURE_RUNS + 32 * s + 8 * r
    (mF m a 13 0, mF m a 30 16, (mrd32 m (a + 4)).toInt))).takeWhile (fun x => decide (x.2.1 ≠ 0))

/-- The selection: signals in order, with their deadbands. -/
def capSelection (m : Tab Byte) (s : Nat) : List (Nat × Int) :=
  (capUsedRuns m s).flatMap (fun x => (sigRange x.1 x.2.1).map (fun i => (i, x.2.2)))

/-- N, the length of the selection. -/
def capN (m : Tab Byte) (s : Nat) : Nat := ((capUsedRuns m s).map (fun x => x.2.1)).sum

/-- The bytes of a RAW or AVERAGE frame (R323, R324). -/
def capFrameBytes (m : Tab Byte) (s : Nat) : Nat :=
  if capRed m s = 0 then 8 + 8 * ((capN m s + 1) / 2) else 8 + 8 * ((5 * capN m s + 7) / 8)

/-- The least power of two not below `n`, for n ≤ 2^24. -/
def pow2Above (n : Nat) : Nat := (((List.range 25).map (2 ^ ·)).find? (fun p => decide (n ≤ p))).getD (2 ^ 24)

/-- KEYINT (R325). -/
def capKeyInt (m : Tab Byte) (s : Nat) : Nat := pow2Above (max (capPre m s) 1)

/-- Whether a set records: ARMED, POST, REARM or STREAM. -/
def capLive (x : CapSt) : Bool := decide (x.mode ≠ .idle) && decide (x.mode ≠ .stopped) && !x.drain

/-- Whether tick `n`, with beat `b`, is a key tick of CHANGE set `s` (R325). -/
def capKeyTick (m : Tab Byte) (s : Nat) (x : CapSt) (n b : Nat) : Bool :=
  decide (b = x.firstAt) || (match x.gap with | some g => decide (g.2 = b) | none => false)
    || (!capStream m s && decide ((n + 2 ^ 48 - x.first) % capKeyInt m s = 0))

/-! ### Items (R322) -/

/-- A header item. -/
def headerItem (tick kind : Nat) (flag : Bool) : Nat :=
  tick % 0x100000000 + kind * 2 ^ 32 + flag.toNat * 2 ^ 46 + 2 ^ 47 + (tick / 0x100000000 % 0x10000) * 2 ^ 48
/-- A CHANGE value item. -/
def valueItem (sig : Nat) (v : Word) (valid : Bool) (delta : Nat) : Nat :=
  v.toNat + sig * 2 ^ 32 + (!valid).toNat * 2 ^ 46 + delta * 2 ^ 48
/-- The bytes of an item. -/
def itemBytes (i : Nat) : List Byte := leBytes 8 i
/-- Bytes padded with zeros to whole items. -/
def padItems (l : List Byte) : List Byte := l ++ List.replicate ((8 - l.length % 8) % 8) 0

/-- Write bytes to record memory from `a` on. -/
def recWrite (a : Nat) : List Byte → Tab Byte → Tab Byte
  | [], m => m
  | b :: l, m => recWrite (a + 1) l (tabPut (fun _ => 0) m a b)

/-- Bytes of record memory. -/
def recRead (m : Tab Byte) (a n : Nat) : List Byte := (List.range n).map (fun i => tabGet (fun _ => 0) m (a + i))

/-- The set writes bytes of its stream at its ring pointer, wrapping at the ring's end (R332). -/
def capWrite (s : Nat) (l : List Byte) (c : Chip) : Chip :=
  let x := c.cap s
  let size := max (capSize c.mem s) 1
  let base := capBase c.mem s
  let fit := min l.length (size - x.wptr)
  let c := { c with recMem := recWrite base (l.drop fit) (recWrite (base + x.wptr) (l.take fit) c.recMem) }
  c.setCap s { x with wptr := (x.wptr + l.length) % size, total := x.total + l.length }

/-- Write a header item; the items after it count their DELTA from its tick. -/
def capHeader (s tick kind : Nat) (flag : Bool) (c : Chip) : Chip :=
  let c := capWrite s (itemBytes (headerItem tick kind flag)) c
  c.setCap s { c.cap s with base := tick }

/-! ### Frames (R320, R323–R325) -/

/-- The bytes of a RAW frame. -/
def rawBytes (c : Chip) (s n : Nat) : List Byte :=
  let sel := capSelection c.mem s
  let bad := sel.any (fun x => !(settledRd c x.1).valid)
  itemBytes (headerItem n 1 bad) ++ padItems (sel.flatMap (fun x => leBytes 4 (settledRd c x.1).val.toNat))

/-- An AVERAGE set takes the samples of a tick. -/
def avgTake (s : Nat) (c : Chip) : Chip :=
  let x := c.cap s
  let ks := (capSelection c.mem s).zip (List.range (capN c.mem s))
  let good := ks.filter (fun k => (settledRd c k.1.1).valid)
  c.setCap s { x with
    sums := good.foldl (fun t k => tabPut (fun _ => 0) t k.2 (tabGet (fun _ => 0) t k.2 + (settledRd c k.1.1).val.toInt)) x.sums,
    cnts := good.foldl (fun t k => tabPut (fun _ => 0) t k.2 (tabGet (fun _ => 0) t k.2 + 1)) x.cnts }

/-- The bytes of an AVERAGE frame (R324). -/
def avgBytes (c : Chip) (s n : Nat) : List Byte :=
  let x := c.cap s
  let val (k : Nat) : Nat :=
    let cnt := tabGet (fun _ => 0) x.cnts k
    if cnt = 0 then 0x8000000000 else unsx 40 (roundDiv (tabGet (fun _ => 0) x.sums k * 256) cnt)
  itemBytes (headerItem n 1 false) ++ padItems ((List.range (capN c.mem s)).flatMap (fun k => leBytes 5 (val k)))

/-- The bytes of a CHANGE frame (R325): a KEY and every word at a key tick, otherwise the marked words; and the tick base after it. -/
def changeBytes (c : Chip) (s n b : Nat) : List Byte × Nat :=
  let x := c.cap s
  let sel := (capSelection c.mem s).map (fun k => k.1)
  let item (delta i : Nat) : List Byte := itemBytes (valueItem i (settledRd c i).val (settledRd c i).valid delta)
  if capKeyTick c.mem s x n b then (itemBytes (headerItem n 7 false) ++ sel.flatMap (item 0), n)
  else
    match sel.filter (fun i => tabGet (fun _ => false) c.chgSettled (16384 * s + i)) with
    | [] => ([], x.base)
    | i :: rest =>
      let d := (n + 2 ^ 48 - x.base) % 2 ^ 48
      ((if 0xFFFF < d then itemBytes (headerItem n 2 false) ++ item 0 i else item d i) ++ rest.flatMap (item 0), n)

/-- Keep the newest frame starts that a record may need. -/
def keepStarts (m : Tab Byte) (s : Nat) (l : List (Nat × Nat × Nat)) : List (Nat × Nat × Nat) :=
  if capRed m s = 0 then l.take (capPre m s + 1)
  else if capRed m s = 1 then l.take ((capPre m s + capAvgN m s - 1) / max 1 (capAvgN m s) + 1)
  else l.take 4

/-- Whether a set governs the frame with beat `b`: live since a tick at or before it and, after a restart, from the first tick on (R342); or
disarmed at the rim of that tick (R335). -/
def capGoverns (x : CapSt) (b : Nat) : Bool :=
  let from0 := match x.gap with | some (true, g) => max x.firstAt g | _ => x.firstAt
  (capLive x && decide (from0 ≤ b) && decide (x.ovf = none)) || decide (x.disarm = some b)

/-- Frame `n`, with beat `b`, of set `s` (R320): the GAP item that is due, then the frame; an overflow drops it (R334). -/
def capFrame (s n b : Nat) (c : Chip) : Chip :=
  let x := c.cap s
  let m := c.mem
  if ¬ capGoverns x b then c.setCap s { x with wrote := false } else
  let c := if capRed m s = 1 then avgTake s c else c
  let due := decide (capRed m s ≠ 1) || decide (n % capAvgN m s = capAvgN m s - 1)
  let gap := match x.gap with | some g => if g.2 = b then itemBytes (headerItem n 5 g.1) else [] | none => []
  let key := decide (capRed m s = 2) && capKeyTick m s x n b
  let f : List Byte × Nat := if ¬ due then ([], x.base) else if capRed m s = 0 then (rawBytes c s n, n)
    else if capRed m s = 1 then (avgBytes c s n, n) else changeBytes c s n b
  let bytes := gap ++ f.1
  let size := capSize m s
  let tooMuch := if capStream m s then decide (size < x.total + bytes.length - x.sent)
    else match x.opn with
      | some r => decide (capRed m s = 2) && decide (size ≤ (x.wptr + size - r.start) % size + bytes.length)
      | none => false
  if tooMuch then c.setCap s { c.cap s with ovf := some n, wrote := false } else
  let at0 := (x.wptr + gap.length) % max size 1
  let c := capWrite s bytes c
  let y := c.cap s
  c.setCap s { y with
    base := if bytes = [] then x.base else f.2, wrote := due, gap := if gap = [] then y.gap else none,
    starts := if due && (decide (capRed m s ≠ 2) || key) then keepStarts m s ((n, at0, b) :: y.starts) else y.starts,
    sums := if due then [] else y.sums, cnts := if due then [] else y.cnts }

/-- The board sweep of the tick (R320): every set's frame of the tick before. The sets that record ask for the record memory together, and are granted in
the order of R29 (R336). -/
def boardSweep (c : Chip) : Chip :=
  let c := atPhase 512 c
  let n := c.boardTick
  let b := c.beat - 1
  let ask (s : Nat) : Bool := capGoverns (c.cap s) b
  let sets := (List.range 16).filter ask
  let c' := forAll ((List.range 16).filter (fun s => !ask s)) (fun s c => capFrame s n b c) c
  { forAll (rrOrder c.recPtr sets) (fun s c => capFrame s n b c) c' with recPtr := rrAfter c.recPtr sets }

/-! ### CHANGE strands (R325) -/

/-- The CHANGE strand of set `s` runs at lane-cycle `t`. -/
def changeRun (s t : Nat) (c : Chip) : Chip :=
  let x := c.cap s
  let key := capLive x && capKeyTick c.mem s x c.tick c.beat
  (capSelection c.mem s).foldl (fun c k =>
    let w := boardRd c t k.1
    let id := 16384 * s + k.1
    let l := tabGet (fun _ => (0, false)) c.chgLast id
    if key ∨ l.2 ≠ w.valid ∨ k.2 < ((w.val.toInt - l.1).natAbs : Int) then
      { c with chgLast := tabPut (fun _ => (0, false)) c.chgLast id (w.val.toInt, w.valid), chgMarks := tabPut (fun _ => false) c.chgMarks id true }
    else c) c

/-! ### Watch bins (R337) -/

/-- A complex product as a lane in complex mode forms it (R62): ac − bd and ad + bc, exact. -/
def complexMul (x y : Int × Int) : Int × Int := (x.1 * y.1 - x.2 * y.2, x.1 * y.2 + x.2 * y.1)

/-- The rotation of a watch bin in Q6.26: exact at whole quarter turns. -/
def watchRotor (th : Nat) : Int × Int :=
  let one : Int := 2 ^ 26
  if th = 0 then (one, 0) else if th = 0x40000000 then (0, -one) else if th = 0x80000000 then (-one, 0) else if th = 0xC0000000 then (0, one)
  else ((Config.watchRotor th).1.toInt, (Config.watchRotor th).2.toInt)

/-- The rotated sample, with 54 fraction bits. -/
def watchSample (s : Int) (th : Nat) : Int × Int := complexMul (s, 0) (watchRotor th)

/-- 2·|X| as a signal word (R64, R337): the square root rounded to nearest, ties to even. -/
def watchMag (re im : Int) : Int × Bool :=
  let q := 4 * (re.natAbs * re.natAbs + im.natAbs * im.natAbs)
  let r := Nat.sqrt q
  store32 (2 * r + (decide (r * r ≠ q)).toNat : Nat) 27

/-- arg(X) / π as a signal word. -/
def watchPhase (re im : Int) : Int :=
  if im = 0 then (if 0 ≤ re then 0 else 0x10000000)
  else if re = 0 then (if 0 < im then 0x08000000 else -0x08000000)
  else Config.watchArg re im

/-- Watch bin `k` runs at lane-cycle `t`, released at `done` (R337). -/
def watchBin (k t done : Nat) (c : Chip) : Chip :=
  let a := Reg.CAPTURE_WATCH + 8 * k
  let w := boardRd c t (rdF c a 13 0)
  let lg := rdF c a 19 16
  let b := tabGet (fun _ => ({} : WatchSt)) c.watch k
  let x := watchSample w.val.toInt (rdN c (a + 4) * c.tick % 0x100000000)
  let b' : WatchSt := if w.valid then
      { re := b.re + (x.1 - b.re) / (2 ^ lg : Nat), im := b.im + (x.2 - b.im) / (2 ^ lg : Nat), n := min (2 ^ lg) (b.n + 1) }
    else { b with n := 0 }
  let c := { c with watch := tabPut (fun _ => {}) c.watch k b' }
  let valid := decide (2 ^ lg ≤ b'.n)
  let mag := watchMag b'.re b'.im
  countBoardSat (Sig.binMag k) mag.2 (boardWrI done (Sig.binMag k) mag.1 valid
    (boardWrI done (Sig.binPhase k) (satWord (watchPhase b'.re b'.im)) valid c))

/-- A WATCH strand: bins UNIT to UNIT + COUNT − 1. -/
def watchRun (st : Strand) (t done : Nat) (c : Chip) : Chip := forAll (sigRange st.unit st.count) (fun k c => watchBin k t done c) c

/-! ### Triggers (R326–R328) -/

/-- Whether signal condition `k` of set `s` holds between a frame value and the one before it (R327). -/
def condHolds (m : Tab Byte) (s k : Nat) (was now : Int × Bool) : Bool :=
  let a := Reg.CAPTURE_COND + 32 * s + 16 * k
  let ty := mF m a 18 16
  let inv := mB m a 19
  let ta := (mrd32 m (a + 4)).toInt
  let tb := (mrd32 m (a + 8)).toInt
  was.2 && now.2 &&
    (match ty, inv with
     | 1, false => decide (now.1 > ta)
     | 1, true => decide (now.1 < ta)
     | 2, false => decide (ta ≤ now.1) && decide (now.1 ≤ tb)
     | 2, true => decide (now.1 < ta) || decide (now.1 > tb)
     | 3, false => decide (was.1 ≤ ta) && decide (ta < now.1)
     | 3, true => decide (was.1 ≥ ta) && decide (ta > now.1)
     | 4, false => decide (now.1 - was.1 > ta)
     | 4, true => decide (now.1 - was.1 < -ta)
     | _, _ => false)

/-- Whether set `s` takes a cause (Table 3 of R326). -/
def causeTaken (m : Tab Byte) (s : Nat) (x : Cause) : Bool :=
  let sel := capSel m s
  wbit (capTrigEn m s) x.bit &&
    (if x.bit = 16 then wbit sel 16 || decide (x.sel = fld sel 15 0)
     else if x.bit = 17 then wbit sel 25 || decide (x.sel = fld sel 24 17)
     else if x.bit = 18 then decide (x.sel = s) else true)

/-- The signal conditions of set `s` as causes of the frame with beat `b`, against the frame before it (R327). -/
def condCauses (s b : Nat) (c : Chip) : List Cause :=
  let val (t : Tab BoardWord) (k : Nat) : Int × Bool :=
    let w := tabGet (fun _ => ⟨0, false⟩) t (mF c.mem (Reg.CAPTURE_COND + 32 * s + 16 * k) 13 0)
    (w.val.toInt, w.valid)
  ((List.range 2).filter (fun k => condHolds c.mem s k (val c.lastFrame k) (val c.settled k))).map (fun k => ⟨b, 12 + k, pOutPhase c, 0, false⟩)

/-- The trigger that causes form: the OR of their bits, the earliest phase, and whether a burst collided (R328). -/
def trigOf (l : List Cause) : Option (Nat × Nat × Bool) :=
  match l with
  | [] => none
  | x :: _ => some (l.foldl (fun m k => m ||| 2 ^ k.bit) 0, l.foldl (fun p k => min p k.phase) x.phase, l.any (fun k => k.coll))

/-! ### Records (R330–R332) -/

/-- Whether the unit drives TB lines (R343). -/
def drivesLines (c : Chip) : Bool := decide (roleCode c = 0) || decide (roleCode c = 2)

/-- The bits of a burst (R339): a start bit, UNIT with its least significant bit first, odd parity over UNIT and a stop bit. -/
def burstBits (unit : Nat) : List Bool :=
  let u := (List.range 5).map (fun i => bitOf unit i)
  true :: u ++ [decide ((u.filter id).length % 2 = 0), false]

/-- The unit drives a burst of 64 ns onto a TB line, once the line carries none (R339). -/
def driveLine (line : Nat) (c : Chip) : Chip :=
  let t := max (instant c c.tick c.phase) (tabGet (fun _ => 0) c.tbFree line)
  emit (.lineTrigger line c.tick (t - c.cyc) (burstBits (rdF c Reg.CAPTURE_SYNC_CTL 4 0)))
    { c with tbFree := tabPut (fun _ => 0) c.tbFree line (t + 16) }

/-- A set with TB_OUT_EN drives its line when it takes a trigger (R339). -/
def capDrive (s : Nat) (c : Chip) : Chip :=
  if wbit (capCtl c.mem s) 7 ∧ drivesLines c then driveLine (fld (capCtl c.mem s) 10 8) c else c

/-- A record opens for frame `n`, with beat `b` (R330). -/
def openRecord (s n b : Nat) (t : Nat × Nat × Bool) (c : Chip) : Chip :=
  let m := c.mem
  let x := c.cap s
  let an := max 1 (capAvgN m s)
  let older := x.starts.filter (fun f => decide (f.2.2 < b))
  let held := if capRed m s = 1 then older.take ((capPre m s + an - 1) / an) else older.take (capPre m s)
  let here := ((x.starts.find? (fun f => decide (f.2.2 = b))).getD (n, x.wptr, b))
  let from0 : Nat × Nat × Nat :=
    if capRed m s = 2 then
      match x.starts.find? (fun f => decide (f.2.2 + capPre m s ≤ b)) with
      | some f => f
      | none => x.starts.getLastD here
    else held.getLastD here
  let pre := if capRed m s = 1 then held.length * an else b - from0.2.2
  let r : CapRec := { tick := n, start := from0.2.1, pre := pre, first := from0.1, mask := t.1, phase := t.2.1, missed := x.missedC, coll := t.2.2,
                      left := if capRed m s = 1 then (capPost m s + an - 1) / an else capPost m s, held := 0 }
  capDrive s (c.setCap s { x with mode := .post, opn := some r, missedC := 0, early := none })

/-- The open record closes at frame `n`, with beat `b`, by its DESCRIPTOR (R330, R332): the flags of item 5 without EARLY and COLLIDED. -/
def closeRecord (s n b flags : Nat) (next : CapMode) (c : Chip) : Chip :=
  let x := c.cap s
  match x.opn with
  | none => c.setCap s { x with mode := next }
  | some r =>
    let m := c.mem
    let postAct := if capRed m s = 1 then r.held * max 1 (capAvgN m s) else r.held
    let fl := flags ||| (decide (r.pre < capPre m s)).toNat ||| 16 * r.coll.toNat
    let at0 := x.wptr
    let items : List Nat := [headerItem r.tick 6 false, r.start + r.pre % 0x1000000 * 2 ^ 40,
      x.last.getD 0xFFFFFFFFFF + postAct % 0x1000000 * 2 ^ 40,
      r.mask + r.phase % 0x10000 * 2 ^ 32 + r.missed * 2 ^ 48,
      r.first % 2 ^ 48 + s * 2 ^ 48 + capRed m s * 2 ^ 56,
      n % 2 ^ 48 + fl * 2 ^ 48,
      (x.recs + 1) % 0x100000000 + capN m s * 2 ^ 32]
    let c := capWrite s (items.flatMap itemBytes) c
    let size := max (capSize m s) 1
    let len := ((c.cap s).wptr + size - r.start) % size
    let fit := min len (size - r.start)
    let crc := crc32 (recRead c.recMem (capBase m s + r.start) fit ++ recRead c.recMem (capBase m s) (len - fit))
    let c := capWrite s (itemBytes crc) c
    let c := c.setCap s { c.cap s with
      mode := next, opn := none, last := some at0, recs := x.recs + 1, base := r.tick, missEv := false,
      rearmTo := b + capRearm m s }
    raiseEv Event.CAPTURE_CAP_DONE s [s, at0 % 0x100000000] c

/-- The state a triggered set enters when its record is complete (R330). -/
def afterRecord (m : Tab Byte) (s : Nat) : CapMode :=
  if wbit (capCtl m s) 11 then .stopped else if capRearm m s = 0 then .armed else .rearm

/-- A trigger inside REARM (R331). -/
def capMiss (s : Nat) (c : Chip) : Chip :=
  let x := c.cap s
  let c := c.setCap s { x with missedN := satInc 32 x.missedN, missedC := min 0xFFFF (x.missedC + 1), missEv := true }
  if x.missEv then c else raiseEv Event.CAPTURE_CAP_MISSED s [s] c

/-- A streaming set takes a trigger (R330, R331). -/
def streamTrigger (s n b : Nat) (t : Nat × Nat × Bool) (c : Chip) : Chip :=
  let x := c.cap s
  let c := capHeader s n 3 t.2.2 c
  let c := capWrite s (itemBytes (t.1 + t.2.1 % 0x10000 * 2 ^ 32 + x.missedC * 2 ^ 48)) c
  let c := c.setCap s { c.cap s with missedC := 0, missEv := false, rearmTo := b + capRearm c.mem s, early := none }
  capDrive s (raiseEv Event.CAPTURE_CAP_TRIGGER s [s, t.1, n % 0x100000000] c)

/-- Set `s` judges the trigger of frame `n`, with beat `b` (R328, R330, R331). -/
def judgeTrigger (s n b : Nat) (t : Option (Nat × Nat × Bool)) (c : Chip) : Chip :=
  let x := c.cap s
  if ¬ capLive x ∨ x.ovf.isSome then c else
  if b < x.firstAt then
    match t with
    | some _ => c.setCap s { x with early := t }
    | none => c
  else
    let t := match x.early, t with
      | some e, some k => some (e.1 ||| k.1, e.2.1, e.2.2 || k.2.2)
      | some e, none => some e
      | none, k => k
    let again := decide (x.rearmTo < b)
    match t with
    | none => c
    | some k =>
      match x.mode with
      | .armed => openRecord s n b k c
      | .rearm => if again then openRecord s n b k c else capMiss s c
      | .stream => if again ∨ x.early.isSome then streamTrigger s n b k c else capMiss s c
      | _ => c

/-- Frame `n` counts among the post-trigger frames; the last of them closes the record (R330). -/
def postFrame (s n b : Nat) (c : Chip) : Chip :=
  let x := c.cap s
  match x.mode, x.opn with
  | .post, some r =>
    if x.wrote then
      let c := c.setCap s { x with opn := some { r with left := r.left - 1, held := r.held + 1 } }
      if r.left ≤ 1 then closeRecord s n b 0 (afterRecord c.mem s) c else c
    else c
  | _, _ => c

/-- A set that an ARM governs from tick `n`, with beat `b`, on (R329, R335). -/
def armedFrom (m : Tab Byte) (s n b : Nat) (x : CapSt) : CapSt :=
  { x with
    mode := if capStream m s then .stream else .armed, first := n, firstAt := b, starts := [], opn := none, rearmTo := b - 1, again := false,
    early := none, gap := none, drain := false, ovf := none, sums := [], cnts := [], ended := false, missEv := false }

/-- A set disarmed at the rim of the frame `n` with beat `b`: its record closes with DISARMED, and a stream ends (R333, R335). Where an ARM
followed at that rim, it governs from the next frame. -/
def finishDisarm (s n b : Nat) (c : Chip) : Chip :=
  let x := c.cap s
  if x.disarm ≠ some b then c else
  let c := c.setCap s { x with disarm := none }
  let c := if capStream c.mem s then
      let c := capHeader s n 8 false c
      c.setCap s { c.cap s with ended := true }
    else
      match x.opn with
      | some r => closeRecord s n b 4 .idle (c.setCap s { c.cap s with opn := some { r with held := r.held + x.wrote.toNat } })
      | none => c
  if x.again then c.setCap s (armedFrom c.mem s c.tick (b + 1) (c.cap s)) else c

/-- The code of a set's state (R344); one that is to arm anew has left its old state. -/
def capStateCode (m : Tab Byte) (s : Nat) (x : CapSt) : Nat :=
  if ¬ capEn m s then 0 else if x.again then (if capStream m s then 5 else 2) else
  match x.mode with
  | .idle => 1 | .armed => 2 | .post => 3 | .rearm => 4 | .stream => 5 | .stopped => 6

/-- CAP_STATE (R344). -/
def showCapState (c : Chip) : Chip :=
  let nib (k : Nat) : Nat := (List.range 8).foldl (fun n i => n + capStateCode c.mem (8 * k + i) (c.cap (8 * k + i)) * 16 ^ i) 0
  wr32 Reg.CAPTURE_CAP_STATE (Word.ofNat (nib 0)) (wr32 (Reg.CAPTURE_CAP_STATE + 4) (Word.ofNat (nib 1)) c)

/-- The trigger judgement of the tick (R328), by which the trigger logic has taken the ring's entries (R28; DESIGN CHOICE: the rules do not say
when it takes one, log entry 33); `edges` are the rising edges of TRIG_IN lines in the previous tick, with their phases. -/
def triggerJudgement (edges : List (Nat × Nat)) (c : Chip) : Chip :=
  let c := atPhase 625 c
  let c := { c with ring := { c.ring with dataSeq := c.ring.nextSeq } }
  let n := c.boardTick
  let b := c.beat - 1
  let ins : List Cause := edges.map (fun e => ⟨b, e.1 % 4, e.2, 0, false⟩)
  let all := ins ++ c.causes.filter (fun x => decide (x.beat = b))
  let c := forEach 16 (fun s c =>
    let t := trigOf ((all ++ condCauses s b c).filter (causeTaken c.mem s))
    finishDisarm s n b (postFrame s n b (judgeTrigger s n b t c))) c
  showCapState { c with causes := c.causes.filter (fun x => decide (b < x.beat)), lastFrame := c.settled }

/-- The REARM count has ended (R331). -/
def rearmEnd (s : Nat) (c : Chip) : Chip :=
  let x := c.cap s
  if x.mode = .rearm ∧ x.rearmTo < c.beat then showCapState (c.setCap s { x with mode := .armed }) else c

/-- A set overflows (R334): at the frame the sweep dropped, or at the previous tick's. -/
def capOverflow (s : Nat) (c : Chip) : Chip :=
  let x := c.cap s
  if ¬ capLive x then c else
  let n := x.ovf.getD c.boardTick
  let c := capHeader s n 4 false c
  let c := closeRecord s n (c.beat - 1) 2 .stopped c
  let c := c.setCap s { c.cap s with mode := .stopped, ovfTick := n % 0x100000000, ovf := none, early := none }
  raiseEv Event.CAPTURE_CAP_OVERFLOW s [s, n % 0x100000000] (showCapState c)

/-- Every item of a disarmed streaming set has reached the host (R333). -/
def streamDrained (s : Nat) (c : Chip) : Chip :=
  let x := c.cap s
  if x.drain ∧ x.disarm = none ∧ x.sent = x.total then showCapState (c.setCap s { x with mode := .idle, drain := false }) else c

/-! ### Commands at the rim (R329, R333, R335) -/

/-- The control block of DMA channel `ch` (R471). -/
def dmaBlock (ch : Nat) : Nat := 0x14100 + 64 * ch

/-- Whether an armed set other than `s` streams to a channel. -/
def dmaTaken (c : Chip) (s ch : Nat) : Bool :=
  (List.range 16).any (fun q => decide (q ≠ s) && decide ((c.cap q).mode = .stream) && decide (capDma c.mem q = ch))

/-- Whether the active bank holds a CHANGE strand of set `s` with DIV = 0 (R325). -/
def capStrand (c : Chip) (s : Nat) : Bool :=
  (bankStrands c.mem c.bankActive).any (fun p => decide (p.2.kind = 4) && decide (p.2.unit = s) && decide (p.2.div = 0))

/-- A refused ARM, or the record of any CAP_REFUSED (R345). -/
def recordCapRefusal (r : Refused) (c : Chip) : Chip := wr32 Reg.CAPTURE_REFUSE_STAT (Word.ofNat (r.item + 0x100 * r.reason)) c

/-- ARM at the rim of the present tick (R325, R333, R335). -/
def capArm (s : Nat) (c : Chip) : Chip :=
  let x := c.cap s
  let here := decide (x.disarm = some c.beat)
  if ¬ capEn c.mem s ∨ ¬ (x.mode = .idle ∨ x.mode = .stopped ∨ here) ∨ x.again then c
  else if capRed c.mem s = 2 ∧ ¬ capStrand c s then raiseEv Event.CAPTURE_CAP_REFUSED s [s, 5] (recordCapRefusal ⟨5, s, 0⟩ c)
  else if capStream c.mem s ∧ (dmaTaken c s (capDma c.mem s) ∨ ¬ rdB c (dmaBlock (capDma c.mem s)) 0) then
    raiseEv Event.CAPTURE_CAP_REFUSED s [s, 6] (recordCapRefusal ⟨6, s, 0⟩ c)
  else c.setCap s (if here then { x with again := true } else armedFrom c.mem s (tickAdd c.tick 1) (c.beat + 1) x)

/-- DISARM at the rim of the present tick (R333, R335). -/
def capDisarm (s : Nat) (c : Chip) : Chip :=
  let x := c.cap s
  if x.again then c.setCap s { x with again := false }
  else if ¬ capLive x then c
  else c.setCap s { x with
    mode := if x.mode = .stream then .stream else .idle, drain := decide (x.mode = .stream), disarm := some c.beat, early := none }

/-- A CAPTURE step's entry at the rim (R170, R335): 1 ARM, 2 TRIGGER, 3 DISARM. -/
def capStep (s op phase : Nat) (c : Chip) : Chip :=
  match op with
  | 1 => capArm s c
  | 3 => capDisarm s c
  | _ => { c with causes := c.causes ++ [⟨c.beat, 18, phase, s, false⟩] }

/-- Host ARM and DISARM commands at the rim, in the order written, and AUTO_ARM at the first rim in SAFE_IDLE (R335, R341). -/
def capHostCmds (c : Chip) : Chip :=
  let cmds := c.capCmds
  let auto := c.autoArm && decide (c.dev = .safeIdle)
  let c := wr32 Reg.CAPTURE_ARM 0 (wr32 Reg.CAPTURE_DISARM 0 { c with capCmds := [], autoArm := c.autoArm && !auto })
  let c := forAll cmds (fun k c => if k.2 then capArm k.1 c else capDisarm k.1 c) c
  if auto then forEach 16 (fun s c => if wbit (capCtl c.mem s) 12 then capArm s c else c) c else c

/-- A bank swap that leaves an armed CHANGE set without its strand disarms it (R325). -/
def capAfterSwap (c : Chip) : Chip :=
  forEach 16 (fun s c => if capLive (c.cap s) ∧ capRed c.mem s = 2 ∧ ¬ capStrand c s then capDisarm s c else c) c

/-- The causes that a rim adds: the MARK events and guard trips of the tick (R12, R326); `before` are the latches at the last rim. A MARK that
EVT_EN suppresses is no event (R462). -/
def capRimCauses (before : Tab Bool) (c : Chip) : Chip :=
  let marks : List Cause := (if evEnabled c Event.TASK_MARK then c.marks else []).map (fun k => ⟨c.beat, 16, k.phase, k.num.toNat, false⟩)
  let guards : List Cause := ((tabTrue c.tripped).filter (fun g => !tabGet (fun _ => false) before g)).map
    (fun g => ⟨c.beat, 17, pOutPhase c - 61, g, false⟩)
  { c with causes := c.causes ++ marks ++ guards }

/-- The change masks are exchanged with the board at the rim (R325). -/
def capExchange (c : Chip) : Chip := { c with chgSettled := c.chgMarks, chgMarks := [] }

/-- A write of SW_TRIG gives cause 18 (R326). -/
def swTrig (bits : Word) (c : Chip) : Chip :=
  { c with causes := c.causes ++ ((onesBelow 16 bits.toNat).map (fun s => (⟨c.beat, 18, c.phase, s, false⟩ : Cause))) }

/-! ### Status (R344) -/

/-- The demand of set `s` in bytes per second as a fraction (R336). -/
def capDemand (m : Tab Byte) (tps s : Nat) : Nat × Nat :=
  if ¬ capEn m s then (0, 1) else
  let twice := if capStream m s then 2 else 1
  if capRed m s = 2 then (twice * (8 * capN m s + 8) * tps, 1)
  else if capRed m s = 1 then (twice * capFrameBytes m s * tps, max 1 (capAvgN m s))
  else (twice * capFrameBytes m s * tps, 1)

/-- The total demand as a fraction. -/
def capDemands (m : Tab Byte) : Nat × Nat :=
  (List.range 16).foldl (fun t s =>
    let d := capDemand m (mF m Reg.TICK_TICKS_PER_SEC 16 0) s
    (t.1 * d.2 + d.1 * t.2, t.2 * d.2)) (0, 1)

/-- The CAPTURE page at the rim. -/
def showCapture (c : Chip) : Chip :=
  let c := showCapState c
  let d := capDemands c.mem
  let c := wrF Reg.CAPTURE_BW_DEMAND 15 0 ((d.1 + 1000000 * d.2 - 1) / (1000000 * d.2)) c
  let x := c.cap (rdF c Reg.CAPTURE_STAT_SEL 3 0)
  let l := x.last.getD 0xFFFFFFFFFF
  let c := wr32 Reg.CAPTURE_SEL_WPTR (Word.ofNat x.wptr) (wr32 (Reg.CAPTURE_SEL_WPTR + 4) (Word.ofNat (x.wptr / 0x100000000)) c)
  let c := wr32 Reg.CAPTURE_SEL_LAST (Word.ofNat l) (wr32 (Reg.CAPTURE_SEL_LAST + 4) (Word.ofNat (l / 0x100000000)) c)
  wr32 Reg.CAPTURE_SEL_RECS (Word.ofNat x.recs) (wr32 Reg.CAPTURE_SEL_MISSED (Word.ofNat x.missedN)
    (wr32 Reg.CAPTURE_SEL_OVF_TICK (Word.ofNat x.ovfTick) c))

/-! ### The sync bus (R338–R340) -/

/-- d to unit `u`, in 0.5 ns, if it is valid; this unit's own is 0 (R339). -/
def tbDelay (c : Chip) (u : Nat) : Option Nat :=
  if u = rdF c Reg.CAPTURE_SYNC_CTL 4 0 then some 0
  else if rdB c (Reg.CAPTURE_TB_DELAY + 4 * u) 31 then some (rdF c (Reg.CAPTURE_TB_DELAY + 4 * u) 15 0) else none

/-- A burst arrives on line `line` at `ns` nanoseconds of the tick (R339): `ok` is its parity and framing. Its act time is formed in units of
0.5 ns. -/
def tbBurst (line unit : Nat) (ok : Bool) (ns : Nat) (c : Chip) : Chip :=
  let c := atPhase (ns / 4) c
  let dmax := rdF c Reg.CAPTURE_SYNC_CTL 15 8
  let d := if ok then tbDelay c unit else none
  let act := 2 * (ns + dmax) - d.getD 0
  let next := decide (8 * c.tickLen ≤ act)
  let cause : Cause := ⟨c.beat + next.toNat, 4 + line % 8, (if next then act - 8 * c.tickLen else act) / 8, unit, d = none⟩
  let busy := max (tabGet (fun _ => 0) c.tbFree (line % 8)) (c.cyc + (ns + 67) / 4)
  let c := { c with causes := c.causes ++ [cause], tbFree := tabPut (fun _ => 0) c.tbFree (line % 8) busy }
  if d = none then raiseEv Event.CAPTURE_TB_COLLISION 0 [] (regInc Reg.CAPTURE_TB_COLL_COUNT c) else c

/-- A receiver loses SYNC_REF, or fails to lock to it (R338). -/
def syncLost (c : Chip) : Chip :=
  if rdB c Reg.CAPTURE_SYNC_CTL 5 ∨ ¬ rdB c Reg.CAPTURE_SYNC_CTL 6 then c
  else raiseEv Event.CAPTURE_SYNC_LOST 0 [] (wrB Reg.CAPTURE_SYNC_STAT 0 false c)

/-- A receiver locks its converter clock to SYNC_REF (R338). -/
def syncLocked (c : Chip) : Chip :=
  if rdB c Reg.CAPTURE_SYNC_CTL 5 ∨ ¬ rdB c Reg.CAPTURE_SYNC_CTL 6 then c else wrB Reg.CAPTURE_SYNC_STAT 0 true c

/-- The PTP time in ns. -/
def busTime (c : Chip) : Nat := c.time.base / 2 ^ 32 + 4 * c.phase

/-- PING applies at a rim in SAFE_IDLE: the ping begins at the first PTP second at least 2 s later (R340). -/
def startPing (c : Chip) : Chip :=
  if c.dev ≠ .safeIdle then c
  else
    let c := forEach 32 (fun u c => wrB (Reg.CAPTURE_TB_DELAY + 4 * u) 31 false c) c
    wrB Reg.CAPTURE_SYNC_STAT 1 false (wrB Reg.CAPTURE_SYNC_STAT 2 true { c with ping := { due := true, start := (busTime c + 2999999999) / 1000000000 * 1000000000 } })

/-- The results of the ping for one unit that has answered. -/
def pingUnit (u : Nat) (c : Chip) : Chip :=
  let k := tabGet (fun _ => 0) c.ping.counts u
  let d := (roundDiv (tabGet (fun _ => 0) c.ping.sums u : Nat) (max k 1)).toNat
  if k < 6 ∨ 2 * (rdF c Reg.CAPTURE_SYNC_CTL 15 8 - 10) < d then raiseEv Event.CAPTURE_PING_FAIL u [u] c
  else wr32 (Reg.CAPTURE_TB_DELAY + 4 * u) (Word.ofNat (0x80000000 + d % 0x10000)) c

/-- A ping round, 100 ms after the one before (R340): by unit that answered, the round trip less the answer delay, in ns; its half is the delay in 0.5 ns units. -/
def pingRound (answers : List (Nat × Nat)) (c : Chip) : Chip :=
  if ¬ c.ping.due ∨ busTime c < c.ping.start + 100000000 * c.ping.rounds then c else
  let p := answers.foldl (fun (p : PingSt) a => { p with
    counts := tabPut (fun _ => 0) p.counts (a.1 % 32) (tabGet (fun _ => 0) p.counts (a.1 % 32) + 1),
    sums := tabPut (fun _ => 0) p.sums (a.1 % 32) (tabGet (fun _ => 0) p.sums (a.1 % 32) + a.2) }) c.ping
  let c := emit (.ping p.rounds) { c with ping := { p with rounds := p.rounds + 1 } }
  if p.rounds + 1 < 8 then c else
  let units := tabKeys p.counts
  let c := forAll units pingUnit c
  let good := units.all (fun u => rdB c (Reg.CAPTURE_TB_DELAY + 4 * u) 31)
  raiseEv Event.CAPTURE_PING_DONE 0 [] (wrB Reg.CAPTURE_SYNC_STAT 1 good (wrB Reg.CAPTURE_SYNC_STAT 2 false { c with ping := {} }))

/-! ### Restart and realignment (R342) -/

/-- A gap in every running set (R342); `tick` is the first tick recorded after it, and `b` its beat. A set that has just armed has no frame before
it. -/
def capGap (restart : Bool) (tick b : Nat) (c : Chip) : Chip :=
  let c := { c with watch := [], lastFrame := if restart then [] else c.lastFrame }
  forEach 16 (fun s c =>
    let x := c.cap s
    if ¬ capLive x then c
    else if restart ∧ x.mode ≠ .stream then
      let c := closeRecord s c.boardTick (b - 1) 8 .armed c
      c.setCap s { c.cap s with first := tick, firstAt := b, starts := [], gap := some (restart, b), early := none, rearmTo := b - 1 }
    else if x.firstAt = b then c.setCap s { x with first := tick }
    else c.setCap s { x with gap := some (restart, b) }) c

/-! ### The checks of a COMMIT (Table 7 of R345) -/

/-- The breaches of Table 7 by the sets written; one that is ARMED, POST, REARM or STREAM may not change. -/
def capBreaches (c : Chip) (m : Tab Byte) (written : List Nat) : List Refused :=
  let runs (s : Nat) : List (Nat × Nat × Int) := capUsedRuns m s
  let overlap (s : Nat) : Bool := (List.range (runs s).length).any (fun i => (List.range i).any (fun j =>
    match (runs s)[i]?, (runs s)[j]? with
    | some a, some b => decide (a.1 < b.1 + b.2.1) && decide (b.1 < a.1 + a.2.1)
    | _, _ => false))
  let d := capDemands m
  let frames (s : Nat) : Nat := if capRed m s = 1 then
      (capPre m s + capAvgN m s - 1) / max 1 (capAvgN m s) + (capPost m s + capAvgN m s - 1) / max 1 (capAvgN m s)
    else capPre m s + capPost m s
  let meets (s q : Nat) : Bool := decide (0 < capSize m s) && decide (0 < capSize m q)
    && decide (capBase m s < capBase m q + capSize m q) && decide (capBase m q < capBase m s + capSize m s)
  let ringBad (s : Nat) : Bool := decide (0x200000000 < capBase m s + capSize m s)
    || (List.range 16).any (fun q => decide (q ≠ s) && meets s q) || (capEn m s && decide (capSize m s = 0))
    || (capEn m s && !capStream m s && decide (capRed m s ≠ 2) && decide (capSize m s < frames s * capFrameBytes m s + 64))
  (written.filter (fun s => overlap s || (runs s).any (fun x => decide (16384 < x.1 + x.2.1)))).map (fun s => ⟨1, s, 0⟩)
  ++ (if 40000000000 * d.2 < d.1 then written.map (fun s => ⟨2, s, 0⟩) else [])
  ++ (written.filter ringBad).map (fun s => ⟨3, s, 0⟩)
  ++ (written.filter (fun s => decide ((c.cap s).mode ≠ .idle) && decide ((c.cap s).mode ≠ .stopped))).map (fun s => ⟨4, s, 0⟩)
  ++ (written.filter (fun s => decide (capRed m s = 3) || decide (4 < mF m (Reg.CAPTURE_COND + 32 * s) 18 16)
      || decide (4 < mF m (Reg.CAPTURE_COND + 32 * s + 16) 18 16) || decide (fld (capTrigEn m s) 31 19 ≠ 0) || decide (fld (capTrigEn m s) 15 14 ≠ 0)
      || decide (capAvgN m s = 0) || decide (capPost m s = 0))).map (fun s => ⟨7, s, 0⟩)

/-- A change of a set's ring moves its pointer to the ring's start. -/
def capEffects (m : Tab Byte) (s : Nat) (c : Chip) : Chip :=
  if capBase m s ≠ capBase c.mem s ∨ capSize m s ≠ capSize c.mem s then
    c.setCap s { c.cap s with wptr := 0, last := none, starts := [], sent := (c.cap s).total }
  else c

end Sys2Proof.Machine
end

