-- ==== Sys2Proof/Machine/Time.lean ====
section
/-!
DEFINITION. Machine/Time.lean: the time base, the PTP ports and the servo (R33, R34, R51, R370–R381, R390–R393).
-/
namespace Sys2Proof.Machine

open Sys2Proof

/-! ### The time base (R33, R34, R381) -/

/-- RATE in effect, in ppb. -/
def rateNow (c : Chip) : Int := rdI c Reg.TIME_RATE

/-- What the time base gains in `n` CK_TIME cycles at a rate, in 2^−32 ns. -/
def timeGain (rate : Int) (n : Nat) : Nat := ((4 * 2 ^ 32 * n : Nat) * (1000000000 + rate) / 1000000000).toNat

/-- The PTP time at the present phase, in 2^−32 ns. -/
def ptpNow (c : Chip) : Nat := c.time.base + timeGain (rateNow c) c.phase

/-- The PTP time in whole nanoseconds. -/
def ptpNs (c : Chip) : Nat := ptpNow c / 2 ^ 32

/-- PTP seconds (48 bits). -/
def ptpSec (c : Chip) : Nat := ptpNs c / 1000000000 % 2 ^ 48

/-- TS32 (R381). -/
def ts32 (c : Chip) : Nat := ptpNs c % 2 ^ 32

/-- T_tick in 2^−32 ns. -/
def tickSpan (c : Chip) : Nat := 4 * tickN c * 2 ^ 32

/-- The cycles from PTP time `base` to the first edge at or after `goal`, at a rate (R34). -/
def cyclesTo (rate : Int) (base goal : Nat) : Nat :=
  let step := (4 * 2 ^ 32 * (1000000000 + rate)).toNat
  ((goal - base) * 1000000000 + step - 1) / max step 1

/-- The length of the tick that starts at the present base (R34). -/
def predictLen (c : Chip) : Nat := cyclesTo (rateNow c) c.time.base ((c.time.base / tickSpan c + 1) * tickSpan c)

/-! ### Registers (R393) -/

/-- Port `p`'s block. -/
def ptpBlock (p : Nat) : Nat := 0xE0C0 + 32 * p
def ptpPort (t : TimeSt) (p : Nat) : PtpPort := if p = 0 then t.p0 else t.p1
def setPtpPort (t : TimeSt) (p : Nat) (x : PtpPort) : TimeSt := if p = 0 then { t with p0 := x } else { t with p1 := x }
def jumpThr (c : Chip) : Nat := rdF c Reg.TIME_SERVO_CFG 15 0
def lockN (c : Chip) : Nat := rdF c Reg.TIME_SERVO_CFG 27 24

/-- TSTATE. -/
def tstateCode : TState → Nat
  | .free => 0 | .locking => 1 | .locked => 2 | .holdover => 3

/-- The mean of offsets, to the nearest. -/
def meanOf (l : List Int) : Int := if l = [] then 0 else roundDiv l.sum l.length

/-- The spread of offsets: maximum less minimum. -/
def spreadOf (l : List Int) : Nat := match l with
  | [] => 0
  | x :: t => (t.foldl max x - t.foldl min x).toNat

/-- A filtered path delay in whole nanoseconds. -/
def mpdNs (p : PtpPort) : Int := (p.mpd.getD 0) / 65536

/-- The TIME page's status. -/
def showTime (c : Chip) : Chip :=
  let t := c.time
  let c := wr32 Reg.TIME_TIME_STAT (Word.ofNat ((if roleCode c = 3 then c.twin.tstate else tstateCode t.state) + 4 * t.port + 8 * t.master.isSome.toNat + 16 * t.step.isSome.toNat
    + 32 * t.disagree.toNat + 64 * t.slewing.toNat)) c
  let c := wr32 Reg.TIME_MPD (Word.ofInt (mpdNs (ptpPort t t.port))) c
  let c := match t.master with
    | some m => wr32 Reg.TIME_GM_ID (Word.ofNat m.gmId) (wr32 (Reg.TIME_GM_ID + 4) (Word.ofNat (m.gmId / 0x100000000))
        (wr32 Reg.TIME_UTC (Word.ofNat (m.utcOffset % 0x10000 + 0x10000 * m.utcValid.toNat)) c))
    | none => c
  forEach 2 (fun p c =>
    let x := ptpPort t p
    wr32 (ptpBlock p + 4) (Word.ofInt (meanOf x.offs)) (wr32 (ptpBlock p + 8) (Word.ofNat (spreadOf x.offs))
      (wr32 (ptpBlock p + 12) (Word.ofInt (mpdNs x)) c))) c

/-- Replace the servo's state and show it. -/
def setTime (t : TimeSt) (c : Chip) : Chip := showTime { c with time := t }

/-- Whether realignment is permitted (R51, R190, R220). -/
def realignPermitted (c : Chip) : Bool :=
  decide (c.dev = .safeIdle) || (tasksPermit c && (tabKeys c.mps).all (fun n => decide ((c.mp n).vel = 0)))

/-- REALIGN_STAT.PERMITTED. -/
def showRealign (c : Chip) : Chip := wrB Reg.TICK_REALIGN_STAT 0 (realignPermitted c) c

/-- A step is asked for (R51): held, with REALIGN_DEFERRED, where realignment is not permitted. -/
def askStep (r : StepReq) (c : Chip) : Chip :=
  let c := setTime { c.time with step := some r } c
  if realignPermitted c then c
  else raiseEv Event.TICK_REALIGN_DEFERRED 0 [] (wrB Reg.TICK_REALIGN_STAT 1 true c)

/-- A step that was asked for while realignment was permitted finds it no longer permitted at its rim: it is held from now on (R51). -/
def holdStep (c : Chip) : Chip :=
  if rdB c Reg.TICK_REALIGN_STAT 1 then c
  else raiseEv Event.TICK_REALIGN_DEFERRED 0 [] (wrB Reg.TICK_REALIGN_STAT 1 true c)

/-- A pending step is withdrawn. -/
def withdrawStep (c : Chip) : Chip := wrB Reg.TICK_REALIGN_STAT 1 false (setTime { c.time with step := none, slewing := false } c)

/-! ### The servo (R372–R378) -/

/-- Whether this unit adjusts its time base (R392). -/
def adjustsTime (c : Chip) : Bool := decide (roleCode c = 0) || decide (roleCode c = 2)

/-- PSTATE of port `p`. -/
def ptpState (c : Chip) (p : Nat) : Nat := rdF c (ptpBlock p) 2 0
def setPtpState (p s : Nat) (c : Chip) : Chip := wrF (ptpBlock p) 2 0 s c

/-- The ports' states while a master is selected: the port in use is SLAVE once locked, the other PASSIVE (R370). -/
def showPtpStates (c : Chip) : Chip :=
  let t := c.time
  if t.master = none then c else
  forEach 2 (fun p c =>
    if ptpState c p = 0 then c
    else if p = t.port then setPtpState p (if t.state = .locked ∨ t.state = .holdover then 3 else 2) c
    else if (ptpPort t p).best.isSome then setPtpState p 5 c else c) c

/-- FREE becomes LOCKING with a master selected and its path delay measured (R373). -/
def tryLocking (c : Chip) : Chip :=
  let t := c.time
  if t.state = .free ∧ t.master.isSome ∧ (ptpPort t t.port).mpd.isSome ∧ adjustsTime c then
    setTime { t with state := .locking, collect := [], rateNext := 0 } c
  else c

/-- One servo update (R374). -/
def servo (kp ki : Nat) (i o : Int) : Int × Int :=
  let i' := clampInt (-500000 * 65536) (500000 * 65536) (i + o * 65536 / (2 ^ ki : Nat))
  (i', -(roundDiv (clampInt (-500000 * 65536) (500000 * 65536) (i' + o * 65536 / (2 ^ kp : Nat))) 65536))

/-- The servo enters LOCKED. -/
def enterLocked (c : Chip) : Chip :=
  let c := wrB Reg.TICK_REALIGN_STAT 1 false c
  showPtpStates (setTime { c.time with state := .locked, collect := [], refused := [], disagree := false, step := none, slewing := false } c)

/-- An offset in LOCKING (R375). -/
def lockingOffset (o : Int) (c : Chip) : Chip :=
  let t := c.time
  let n := lockN c
  if t.step.isSome then
    if o.natAbs ≤ jumpThr c then raiseEv Event.TIME_LOCKED 0 [0, 0] (enterLocked c)
    else
      let slew : Int := 2000 * rdF c Reg.TIME_PATH_CFG 27 20
      let waits := rdB c Reg.TICK_REALIGN_STAT 1
      setTime { t with rateNext := if waits then -(Int.sign o) * slew else t.rateNext, slewing := waits } c
  else
    let l := t.collect ++ [o]
    if l.length < n then setTime { t with collect := l } c
    else if jumpThr c < spreadOf l then setTime { t with collect := l.drop 1 } c
    else
      let m := meanOf l
      if m.natAbs ≤ jumpThr c then raiseEv Event.TIME_LOCKED 0 [0, 0] (enterLocked c)
      else askStep (.first m) (setTime { t with collect := l } c)

/-- An offset in LOCKED or HOLDOVER (R374, R376, R377). -/
def judgeOffset (o : Int) (c : Chip) : Chip :=
  let t := c.time
  if o.natAbs ≤ jumpThr c then
    let back := decide (t.state = .holdover)
    let s := servo (rdF c Reg.TIME_SERVO_CFG 19 16) (rdF c Reg.TIME_SERVO_CFG 23 20) t.i o
    let c := setTime { t with state := .locked, i := s.1, rateNext := s.2, refused := [], disagree := false } c
    if back then raiseEv Event.TIME_LOCK_REGAINED 0 [] c else c
  else
    let l := (t.refused ++ [o]).reverse.take 8 |>.reverse
    let first := decide (t.state = .locked)
    let c := regInc Reg.TIME_REFUSED_COUNT c
    let c := setTime { t with
      state := .holdover, refused := l, rateNext := if first then -(roundDiv t.i 65536) else t.rateNext } c
    let c := if first then raiseEv Event.TIME_OFFSET_JUMP 0 [pw o] c else c
    if l.length = 8 ∧ spreadOf l ≤ jumpThr c ∧ ¬ t.disagree then
      raiseEv Event.TIME_MASTER_DISAGREE 0 [pw (meanOf l)] (setTime { c.time with disagree := true } c)
    else c

/-- The servo moves to port `p` (R372). -/
def switchPort (p : Nat) (c : Chip) : Chip :=
  let t := c.time
  let t := { t with port := p, p0 := { t.p0 with below := 0 }, p1 := { t.p1 with below := 0 } }
  raiseEv Event.TIME_PORT_SWITCH 0 [p] (showPtpStates (setTime t c))

/-- offsetFromMaster in ns, where `o` is what the port's own time stamps give (R371; DEDUCED, log entry 35): the arrival is corrected by RX_LAT, and
ASYM adds to delayAsymmetry. -/
def trueOffset (c : Chip) (p : Nat) (o : Int) : Int :=
  clampInt (-0x80000000) 0x7FFFFFFF (o - rdF c (ptpBlock p + 16) 31 16 - rdI c (ptpBlock p + 20))

/-- The mean path delay in units of 2^−16 ns, where `d` ns is what the port's own time stamps give: the departure is corrected by TX_LAT and the
arrival by RX_LAT (R371). -/
def trueDelay (c : Chip) (p : Nat) (d : Int) : Int :=
  d * 65536 - 32768 * ((rdF c (ptpBlock p + 16) 15 0 : Nat) + (rdF c (ptpBlock p + 16) 31 16 : Nat) : Int)

/-- A measured offset of port `p` (R372, R375–R377). -/
def offsetMeasurement (p : Nat) (o : Int) (c : Chip) : Chip :=
  let t := c.time
  let o := trueOffset c p o
  if ptpState c p = 0 then c else
  let x := ptpPort t p
  let offs := (x.offs ++ [o]).reverse.take 16 |>.reverse
  let used := ptpPort t t.port
  let lower := decide (p ≠ t.port) && decide (offs.length = 16) && decide (used.offs.length = 16)
    && decide (4 * spreadOf offs < 3 * spreadOf used.offs)
  let x := { x with offs := offs, usable := true, below := if lower then x.below + 1 else 0 }
  let c := regInc (ptpBlock p + 24) (setTime (setPtpPort t p x) c)
  if p ≠ t.port then
    if 16 ≤ x.below ∧ 2 * (meanOf offs - meanOf used.offs).natAbs ≤ jumpThr c then switchPort p c else c
  else
    let c := wr32 Reg.TIME_OFFSET (Word.ofInt o) (setTime { c.time with recent := (c.time.recent ++ [o]).reverse.take 15 |>.reverse } c)
    if ¬ adjustsTime c then c else
    match t.state with
    | .free => c
    | .locking => lockingOffset o c
    | _ => judgeOffset o c

/-- A path delay measurement of port `p`, in ns (R379). -/
def pathDelay (p : Nat) (d : Int) (c : Chip) : Chip :=
  let t := c.time
  if ptpState c p = 0 then c else
  let x := ptpPort t p
  let thr : Int := 65536 * (rdF c Reg.TIME_PATH_CFG 15 0 : Nat)
  let d := trueDelay c p d
  match x.mpd with
  | none => tryLocking (setTime (setPtpPort t p { x with mpd := some d }) c)
  | some f =>
    if (d - f).natAbs ≤ thr.natAbs then
      setTime (setPtpPort t p { x with mpd := some (f + (d - f) / (2 ^ rdF c Reg.TIME_PATH_CFG 19 16 : Nat)), pathEp := false, pathNew := [] }) c
    else
      let l := if x.pathNew.all (fun y => decide ((y - d).natAbs ≤ thr.natAbs)) then x.pathNew ++ [d] else [d]
      let done := decide (4 ≤ l.length)
      let c := setTime (setPtpPort t p { x with
        mpd := if done then some d else some f, pathNew := if done then [] else l, pathEp := !done }) c
      if x.pathEp then c else raiseEv Event.TIME_PATH_CHANGE 0 [p, pw (d / 65536)] c

/-- The order of Announce data sets under the default BMCA: the earlier in this order is the better. -/
def announceKey (a : Announce) : List Nat :=
  [a.priority1, a.clockClass, a.accuracy, a.variance, a.priority2, a.gmId, a.steps, a.sender]

/-- Whether the first list precedes the second. -/
def keyLess : List Nat → List Nat → Bool
  | [], _ => false
  | _, [] => false
  | a :: l, b :: k => decide (a < b) || (decide (a = b) && keyLess l k)

/-- The selection of the BMCA across both ports (R370, R378). -/
def selectMaster (c : Chip) : Chip :=
  let t := c.time
  let a := t.p0.best
  let b := t.p1.best
  let pick : Option (Announce × Nat) := match a, b with
    | some x, some y => if keyLess (announceKey y) (announceKey x) then some (y, 1)
        else if keyLess (announceKey x) (announceKey y) then some (x, 0)
        else some (x, t.port)
    | some x, none => some (x, 0)
    | none, some y => some (y, 1)
    | none, none => none
  let cfg := rd32 c Reg.TIME_PTP_CFG
  match pick with
  | none => c
  | some (m, p) =>
    let own := [fld cfg 23 16, rdF c Reg.TIME_PTP_CFG2 7 0]
    let ownBest := !wbit cfg 10 && adjustsTime c && keyLess own [m.priority1, m.clockClass]
    if ownBest then
      forEach 2 (fun q c => if ptpState c q = 0 then c else setPtpState q 4 c) (setTime { t with master := none } c)
    else
      let changed := match t.master with | some o => decide (o.gmId ≠ m.gmId) | none => false
      let port := match t.master with
        | none => p
        | some o => if o.gmId = m.gmId then t.port else p
      let c := setTime { t with master := some m, port := port } c
      let c := if changed then raiseEv Event.TIME_GM_CHANGE 0 [m.gmId % 0x100000000, m.gmId / 0x100000000] c else c
      tryLocking (showPtpStates c)

/-- An Announce message on port `p` (R370, R378). -/
def announce (p : Nat) (a : Announce) (c : Chip) : Chip :=
  let t := c.time
  if ptpState c p = 0 ∨ a.domain ≠ rdF c Reg.TIME_PTP_CFG 6 0 then c else
  let x := ptpPort t p
  let best := match x.best with
    | none => a
    | some b => if b.sender = a.sender ∨ keyLess (announceKey a) (announceKey b) then a else b
  selectMaster (setTime (setPtpPort t p { x with best := some best }) c)

/-- The servo's state when its master is lost (R373, R375). -/
def loseMaster (c : Chip) : Chip :=
  let t := c.time
  let t := { t with master := none, p0 := { t.p0 with best := none, usable := false }, p1 := { t.p1 with best := none, usable := false } }
  let c := forEach 2 (fun p c => if ptpState c p = 0 then c else setPtpState p 1 c) c
  match t.state with
  | .locking => withdrawStep (setTime { t with state := .free, i := 0, rateNext := 0, collect := [] } c)
  | .locked => setTime { t with state := .holdover, rateNext := -(roundDiv t.i 65536) } c
  | _ => setTime t c

/-- A clock that may be master and hears no better one becomes MASTER at its ports (R370; PRESUMED, IEEE 1588-2019, log entry 36). -/
def becomeMaster (c : Chip) : Chip :=
  if rdB c Reg.TIME_PTP_CFG 10 ∨ ¬ adjustsTime c then c
  else forEach 2 (fun p c => if ptpState c p = 0 then c else setPtpState p 4 c) c

/-- MASTER_LOST (R372). -/
def masterLost (c : Chip) : Chip :=
  becomeMaster (if c.time.master = none then c else raiseEv Event.TIME_MASTER_LOST 0 [] (loseMaster c))

/-- Port `p` has received no usable Sync for 16 intervals (R372). -/
def syncTimeout (p : Nat) (c : Chip) : Chip :=
  let t := c.time
  let c := setTime (setPtpPort t p { ptpPort t p with usable := false }) c
  if p = t.port ∧ (ptpPort t (1 - p)).usable then switchPort (1 - p) c else c

/-! ### Commands (R380) -/

/-- RESTEP applies at a rim (R380). -/
def restep (c : Chip) : Chip :=
  if c.time.recent = [] ∨ c.time.step.isSome then c else askStep .restep c

/-- CANCEL withdraws a pending re-step (R380). -/
def cancelStep (c : Chip) : Chip := if c.time.step = some .restep then withdrawStep c else c

/-- SET loads SET_SEC and SET_NS (R380): only in FREE, or with SLAVE_ONLY = 0 while no port is SLAVE. -/
def setTimeCmd (c : Chip) : Chip :=
  let ok := decide (c.time.state = .free)
    || (!rdB c Reg.TIME_PTP_CFG 10 && decide (ptpState c 0 ≠ 3) && decide (ptpState c 1 ≠ 3))
  if ok then
    let sec := rdN c Reg.TIME_SET_SEC + 0x100000000 * rdF c (Reg.TIME_SET_SEC + 4) 15 0
    askStep (.set (sec * 1000000000 + rdF c Reg.TIME_SET_NS 29 0)) c
  else c

/-- What a rim makes of a pending step (R375, R380): the new PTP time at the end of the tick that ends at `endT`, in 2^−32 ns, with what
is raised after TICK_REALIGN; or its withdrawal. -/
def resolveStep (endT : Nat) (c : Chip) : Option Nat × Chip :=
  match c.time.step with
  | none => (none, c)
  | some r =>
  if ¬ realignPermitted c then (none, holdStep c) else
  match r with
  | .set ns => (some (ns * 2 ^ 32), withdrawStep c)
  | .first m => (some ((endT : Int) - m * 2 ^ 32).toNat, withdrawStep c)
  | .restep =>
    let l := (c.time.recent.reverse.take (lockN c))
    if l.all (fun o => decide (o.natAbs ≤ jumpThr c)) then
      (none, raiseEv Event.TIME_RESTEP_DONE 0 [0] (enterLocked c))
    else (some ((endT : Int) - meanOf l * 2 ^ 32).toNat, withdrawStep c)

/-- What follows a step that was made. -/
def afterStep (r : Option StepReq) (m : Int) (c : Chip) : Chip :=
  match r with
  | some (.first _) => raiseEv Event.TIME_LOCKED 0 [0, pw m] (enterLocked (setTime { c.time with recent := [] } c))
  | some .restep => raiseEv Event.TIME_RESTEP_DONE 0 [pw m] (enterLocked (setTime { c.time with recent := [] } c))
  | _ => c

/-! ### Messages and links (R366, R371, R390) -/

/-- Whether the MAC address is set (R366). -/
def macSet (c : Chip) : Bool := decide (rdN c Reg.NET_MAC_LO ≠ 0) || decide (rdF c Reg.NET_MAC_HI 15 0 ≠ 0)

/-- The ports' states follow their links, the MAC address and their enables (R390). -/
def ptpPorts (c : Chip) : Chip :=
  forEach 2 (fun p c =>
    let on := rdB c Reg.NET_LINK_STAT p && macSet c && rdB c Reg.TIME_PTP_CFG (11 + p)
    if on then (if ptpState c p = 0 then setPtpState p 1 c else c)
    else setPtpState p 0 (setTime (setPtpPort c.time p { ptpPort c.time p with best := none, usable := false }) c)) c

/-! ### The checks and effects of a COMMIT (R390) -/

/-- Whether a TIME COMMIT breaks a rule. -/
def timeBreach (m : Tab Byte) : Bool :=
  decide (mF m Reg.TIME_SERVO_CFG 15 0 = 0) || decide (mF m Reg.TIME_PATH_CFG 15 0 = 0) || decide (mF m Reg.TIME_SERVO_CFG 27 24 = 0)
    || decide (mF m Reg.TIME_PATH_CFG 27 20 = 0) || decide (250 < mF m Reg.TIME_PATH_CFG 27 20) || decide (mF m Reg.TIME_PTP_CFG 9 8 = 3)

/-- After a TIME COMMIT: a change of DOMAIN, TRANSPORT or P2P restarts both ports, which counts as master lost (R390). -/
def timeEffects (before : Word) (c : Chip) : Chip :=
  let c := if fld before 9 0 ≠ rdF c Reg.TIME_PTP_CFG 9 0 then
      loseMaster (if c.time.master = none then c else raiseEv Event.TIME_MASTER_LOST 0 [] (loseMaster c))
    else c
  ptpPorts c

end Sys2Proof.Machine
end

