-- ==== Sys2Proof/Machine/Net.lean ====
section
/-!
DEFINITION. Machine/Net.lean: the network ports, PRP, host frames and signal frames (R366–R369, R382–R394, R425, R428).
-/
namespace Sys2Proof.Machine

open Sys2Proof

/-! ### Groups (R383, R394) -/

/-- Publish group `g` and subscribe group `h`. -/
def pg (g : Nat) : Nat := 0xF100 + 32 * g
def sg (h : Nat) : Nat := 0xF200 + 32 * h
def pgOn (m : Tab Byte) (g : Nat) : Bool := mB m (pg g) 0
def sgOn (m : Tab Byte) (h : Nat) : Bool := mB m (sg h) 0
/-- Whether the group at `a` is due on a tick (R385, R389). -/
def groupDue (m : Tab Byte) (a tick : Nat) : Bool := decide (tick % 2 ^ mF m a 10 8 = mF m a 17 11)
/-- FMT of a publish group: whether it sends format 2 and format 1 (R425). -/
def pgFormats (m : Tab Byte) (g : Nat) : List Nat :=
  match mF m (pg g) 2 1 with | 0 => [2] | 1 => [1] | 2 => [2, 1] | _ => []
/-- The words of publish group `g`: RUN0, then RUN1. -/
def pgSignals (m : Tab Byte) (g : Nat) : List Nat :=
  sigRange (mF m (pg g + 16) 13 0) (mF m (pg g + 16) 24 16) ++ sigRange (mF m (pg g + 20) 13 0) (mF m (pg g + 20) 24 16)
/-- The words of subscribe group `h`. -/
def sgSignals (m : Tab Byte) (h : Nat) : List Nat := sigRange (mF m (sg h + 16) 13 0) (mF m (sg h + 16) 24 16)
/-- The payload of a frame of `n` words (R384). -/
def framePayloadBytes (fmt n : Nat) : Nat := if fmt = 2 then 16 + 4 * ((n + 31) / 32) + 4 * n else 16 + 4 * n
/-- B of R386, over the frames of one tick of group `g`. -/
def pgBytes (m : Tab Byte) (g : Nat) : Nat :=
  ((pgFormats m g).map (fun f => 44 + 4 * (mB m (pg g) 3).toNat + max (framePayloadBytes f (pgSignals m g).length) 40)).sum
/-- The bytes due in a tick of residue `t` from groups `gs`. -/
def lineBytes (m : Tab Byte) (gs : List Nat) (t : Nat) : Nat := ((gs.filter (fun g => groupDue m (pg g) t)).map (pgBytes m)).sum
/-- The enabled publish groups. -/
def pubGroups (m : Tab Byte) : List Nat := (List.range 8).filter (pgOn m)
/-- The largest ΣB over all ticks; DIV is at most 7. -/
def maxLine (m : Tab Byte) (gs : List Nat) : Nat := (List.range 128).foldl (fun n t => max n (lineBytes m gs t)) 0
/-- Whether groups `gs` meet R386. -/
def pubFits (m : Tab Byte) (gs : List Nat) : Bool :=
  decide (4 * mF m Reg.TICK_P_OUT_PHASE 14 0 + 8 * maxLine m gs + mF m Reg.NET_PRP_CFG 31 16 + 1000 ≤ 4 * mF m Reg.TICK_TICK_PERIOD 14 0)
/-- The groups that fit, taken in group order. -/
def fitting (m : Tab Byte) : List Nat := (pubGroups m).foldl (fun l g => if pubFits m (l ++ [g]) then l ++ [g] else l) []

/-! ### Registers -/

def Chip.sub (c : Chip) (h : Nat) : SubSt := tabGet (fun _ => {}) c.net.subs h
def Chip.setSub (c : Chip) (h : Nat) (s : SubSt) : Chip :=
  { c with net := { c.net with subs := tabPut (fun _ => {}) c.net.subs h s } }

/-- TX_END and the head of the receive queue. -/
def showNet (c : Chip) : Chip :=
  let c := wr32 Reg.NET_TX_END (Word.ofNat (2 * maxLine c.mem (pubGroups c.mem) % 0x10000)) c
  match c.net.hrx with
  | [] => wr32 Reg.NET_HRX_STAT 0 c
  | f :: _ =>
    let c := wr32 Reg.NET_HRX_STAT (Word.ofNat (f.bytes.length + 0x800 * f.port + 0x1000 * c.net.hrx.length + 0x40000)) c
    let c := wr32 Reg.NET_HRX_TS (Word.ofNat f.ts) c
    forEach f.bytes.length (fun i c => wr8 (Reg.NET_HRX_BUF + i) ((f.bytes[i]?).getD 0) c) c

/-- The next RCT sequence number (R367); none with PRP_EN = 0. -/
def takeRct (c : Chip) : Option Nat × Chip :=
  if rdB c Reg.NET_NET_CFG 2 then (some c.net.rct, { c with net := { c.net with rct := (c.net.rct + 1) % 0x10000 } })
  else (none, c)

/-- Whether some network port is up. -/
def netUp (c : Chip) : Bool := rdB c Reg.NET_LINK_STAT 0 || rdB c Reg.NET_LINK_STAT 1

/-- The present time in whole ms. -/
def nowMs (c : Chip) : Nat := instant c c.tick c.phase / 250000

/-! ### Transmission (R367, R369, R371) -/

def Chip.tx (c : Chip) (p : Nat) : TxPort := tabGet (fun _ => {}) c.net.tx p
def Chip.setTx (c : Chip) (p : Nat) (x : TxPort) : Chip := { c with net := { c.net with tx := tabPut (fun _ => {}) c.net.tx p x } }

/-- Whether a publish group is due in this tick, and the publish end TX_END of its frames (R386). -/
def pubDue (c : Chip) : Bool := (pubGroups c.mem).any (fun g => groupDue c.mem (pg g) c.tick)
def txEnd (c : Chip) : Nat := pOutPhase c + 2 * lineBytes c.mem (pubGroups c.mem) c.tick

/-- The first phase from `t` on at which a frame of `n` bytes that is no signal frame may start (R369): with a publish group due it ends by
P_OUT or starts at the publish end. -/
def txStart (c : Chip) (t n : Nat) : Nat := if pubDue c ∧ pOutPhase c < t + 2 * n ∧ t < txEnd c then txEnd c else t

/-- The requesters with a frame waiting at a port, each with the phase at which its first frame may start. -/
def txHeads (c : Chip) (x : TxPort) : List (Nat × Nat) :=
  (List.range 4).filterMap (fun w => (x.wait.find? (fun f => decide (f.who = w))).map (fun f => (w, txStart c (max x.free f.since) f.line)))

/-- The next grant of a port's transmit arbiter (R29, R369): the requester and the phase. -/
def txGrant (c : Chip) (x : TxPort) : Option (Nat × Nat) :=
  let l := txHeads c x
  match (l.map (·.2)).min? with
  | none => none
  | some t => (roundRobin x.ptr ((l.filter (fun e => decide (e.2 = t))).map (·.1))).map (fun w => (w, t))

/-- A PTP event message departs from port `p` (R371): `turn` is the turnaround of a Pdelay_Resp in ns, had it left when it was asked for, and
`late` the ns since. -/
def ptpDeparts (p : Nat) (k : PtpKind) (corr turn late : Nat) (c : Chip) : Emission :=
  let now := ptpNow c + rdF c (ptpBlock p + 16) 15 0 * 2 ^ 32
  let sec := now / 2 ^ 32 / 1000000000 % 2 ^ 48
  let ns := now / 2 ^ 32 % 1000000000
  match k with
  | .sync => .ptp p k sec ns (now % 2 ^ 32 / 2 ^ 16)
  | .pdelayResp => .ptp p k 0 0 (corr + (turn + late) * 65536)
  | _ => .ptp p k sec ns corr

/-- A frame leaves port `p` at phase `t`; of a host frame on both ports HTX_TS takes the departure on NET0 (R382). -/
def txDepart (p : Nat) (f : TxFrame) (t : Nat) (c : Chip) : Chip :=
  let at0 := { c with phase := t }
  match f.what with
  | .ptp k corr turn => emit (ptpDeparts p k corr turn (4 * (t - f.since)) at0) c
  | .witness dst m r => emit (.witness p t dst m r) c
  | .supervision r => emit (.supervision p t r) c
  | .host dup r bytes =>
    let c := emit (.hostFrame p t r bytes) c
    if p = 0 ∨ ¬ dup ∨ ¬ rdB c Reg.NET_LINK_STAT 0 then wr32 Reg.NET_HTX_TS (Word.ofNat (ts32 at0)) c else c

/-- A port sends what its arbiter grants up to phase `goal`, at most `n` frames. -/
def txServe (p goal : Nat) : Nat → Chip → Chip
  | 0, c => c
  | n + 1, c =>
    let x := c.tx p
    match txGrant c x with
    | none => c
    | some g =>
      if goal < g.2 then c else
      match x.wait.find? (fun f => decide (f.who = g.1)) with
      | none => c
      | some f =>
        let done := g.2 + 2 * f.line
        let host := match f.what with | .host _ _ _ => true | _ => false
        txServe p goal n (txDepart p f g.2 (c.setTx p
          { wait := x.wait.erase f, free := done, ptr := g.1 + 1, hostTo := if host then done else x.hostTo }))

/-- BUSY of HTX_STAT at phase `t`: a host frame waits, or has not left yet (R382). -/
def showHtx (t : Nat) (c : Chip) : Chip :=
  let busy (p : Nat) : Bool := decide (t < (c.tx p).hostTo) || (c.tx p).wait.any (fun f => decide (f.who = 2))
  wrB Reg.NET_HTX_STAT 0 (busy 0 || busy 1) c

/-- Both ports have sent what they might up to phase `goal`. -/
def netServe (goal : Nat) (c : Chip) : Chip :=
  showHtx goal (forEach 2 (fun p c => txServe p goal (c.tx p).wait.length c) c)

/-- A frame of the management class asks at the ports `ps`; frames that ask in one cycle are taken in the order of their commands (DESIGN CHOICE,
log entry 37). -/
def txAsk (ps : List Nat) (who line : Nat) (what : TxKind) (c : Chip) : Chip :=
  let c := forEach 2 (fun p c => txServe p (c.phase - 1) (c.tx p).wait.length c) c
  netServe c.phase (forAll ps (fun p c => c.setTx p { c.tx p with wait := (c.tx p).wait ++ [⟨who, line, c.phase, what⟩] }) c)

/-- The ports that are up. -/
def portsUp (c : Chip) : List Nat := (List.range 2).filter (fun p => rdB c Reg.NET_LINK_STAT p)

/-- The ports' transmitters at the end of the tick: phases now count from the next one's start. -/
def txTickEnd (c : Chip) : Chip :=
  let c := netServe (c.tickLen - 1) c
  forEach 2 (fun p c =>
    let x := c.tx p
    c.setTx p { x with wait := x.wait.map (fun f => { f with since := f.since - c.tickLen }), free := x.free - c.tickLen,
                       hostTo := x.hostTo - c.tickLen }) c

/-- The bytes of the line of a PTP event message (PRESUMED, IEEE 1588-2019: 44 bytes, 54 of a peer-delay message, 28 more over UDP/IPv4 and 50 over
UDP/IPv6; log entry 37). -/
def ptpLine (c : Chip) (k : PtpKind) : Nat :=
  let n := match k with | .sync | .delayReq => 44 | .pdelayReq | .pdelayResp => 54
  let over' := match rdF c Reg.TIME_PTP_CFG 9 8 with | 0 => 0 | 1 => 28 | _ => 50
  38 + max 46 (n + over')

/-- A PTP event message is to be sent (R371): `corr` is the correctionField before, in 2^−16 ns, and `turn` the turnaround in ns of a Pdelay_Resp
that leaves at once. -/
def ptpTransmit (p : Nat) (k : PtpKind) (corr turn : Nat) (c : Chip) : Chip :=
  if ptpState c p = 0 ∨ ¬ macSet c ∨ (k = .sync ∧ ptpState c p ≠ 4) then c
  else txAsk [p] 0 (ptpLine c k) (.ptp k corr turn) c

/-! ### PRP (R367, R368) -/

/-- A frame is received on port `p`: with its RCT's LanId and sequence number, if it has a valid one. -/
def prpReceive (p src : Nat) (bad : Bool) (rct : Option (Nat × Nat)) (c : Chip) : Chip :=
  if bad then regInc (Reg.NET_NETp_ERR + 4 * p) c
  else if ¬ rdB c Reg.NET_NET_CFG 2 then c
  else match rct with
    | none => regInc Reg.NET_SOLO_COUNT c
    | some (lan, seq) =>
      let wrong := decide (lan ≠ 0xA + p)
      let open0 := if p = 0 then c.net.wrong0 else c.net.wrong1
      let c := { c with net := if p = 0 then { c.net with wrong0 := wrong } else { c.net with wrong1 := wrong } }
      let c := if wrong then regInc Reg.NET_WRONG_LAN_COUNT c else c
      let c := if wrong ∧ ¬ open0 then raiseEv Event.NET_PRP_WRONG_LAN p [] c else c
      let now := nowMs c
      let live := c.net.prp.filter (fun e => decide (now ≤ e.ms + rdF c Reg.NET_NET_CFG 31 16))
      if live.any (fun e => decide (e.src = src) && decide (e.seq = seq)) then
        regInc Reg.NET_DUP_COUNT { c with net := { c.net with prp := live } }
      else
        let l := if live.length < 1024 then live else live.drop 1
        { c with net := { c.net with prp := l ++ [⟨src, seq, now⟩] } }

/-- A supervision frame is sent, LIFE_CHECK ms after the one before (R367), with the least payload (PRESUMED, IEC 62439-3; log entry 37). -/
def prpSupervision (c : Chip) : Chip :=
  let now := instant c c.tick c.phase
  let soon : Bool := c.net.supAt.any (fun t => decide (now < t + 250000 * rdF c Reg.NET_PRP_CFG 15 0))
  if ¬ rdB c Reg.NET_NET_CFG 2 ∨ ¬ macSet c ∨ ¬ netUp c ∨ soon then c
  else
    let r := takeRct { c with net := { c.net with supAt := some now } }
    txAsk (portsUp c) 3 84 (.supervision (r.1.getD 0)) r.2

/-- A port's link drops; what waits there is lost (DESIGN CHOICE, log entry 37). -/
def netLinkDown (p : Nat) (c : Chip) : Chip :=
  if ¬ rdB c Reg.NET_LINK_STAT p then c
  else
    let c := netServe c.phase c
    let c := showHtx c.phase (c.setTx p { c.tx p with wait := [], hostTo := 0 })
    ptpPorts (raiseEv Event.NET_NET_LINK_DOWN p [] (wrB Reg.NET_LINK_STAT p false c))

/-- A port's link comes up. -/
def netLinkUp (p : Nat) (c : Chip) : Chip :=
  if rdB c Reg.NET_LINK_STAT p then c
  else ptpPorts (raiseEv Event.NET_NET_LINK_UP p [] (wrB Reg.NET_LINK_STAT p true c))

/-! ### Host frames (R382) -/

/-- A write of HTX_CTL with GO: the frame asks at its port, or with PRP at both. -/
def htxGo (w : Word) (c : Chip) : Chip :=
  let len := fld w 10 0
  let dup := wbit w 12
  let port := fld w 13 13
  let up := if dup then netUp c else rdB c Reg.NET_LINK_STAT port
  if ¬ wbit w 11 ∨ len < 60 ∨ 1518 < len ∨ ¬ macSet c ∨ ¬ up then c
  else
    let bytes := (List.range len).map (fun i => rd8 c (Reg.NET_HTX_BUF + i))
    if dup then
      let r := takeRct c
      txAsk (portsUp c) 2 (30 + len) (.host true r.1 bytes) r.2
    else txAsk [port] 2 (24 + len) (.host false none bytes) c

/-- The device's MAC address, octet 0 first. -/
def macValue (c : Chip) : Nat := rdF c Reg.NET_MAC_HI 15 0 * 0x100000000 + rdN c Reg.NET_MAC_LO

/-- A frame that the device does not itself consume arrives. -/
def hostFrameRx (p : Nat) (bytes : List Byte) (c : Chip) : Chip :=
  let dst := (bytes.take 6).foldl (fun n b => n * 256 + b.toNat) 0
  let mine := decide (dst = macValue c) || bitOf dst 40
  if ¬ mine ∨ 1522 < bytes.length then c
  else if c.net.hrx.length < 32 then
    showNet { c with net := { c.net with hrx := c.net.hrx ++ [⟨bytes, p, ts32 c⟩], hrxEp := false } }
  else
    let first := !c.net.hrxEp
    let c := { c with net := { c.net with hrxEp := true } }
    if first then raiseEv Event.NET_HRX_OVERFLOW 0 [] c else c

/-- A write of HRX_POP. -/
def hrxPop (c : Chip) : Chip := showNet { c with net := { c.net with hrx := c.net.hrx.drop 1 } }

/-! ### Publish (R384–R386, R428) -/

/-- Whether this unit publishes (R392, R431). -/
def publishes (c : Chip) : Bool :=
  macSet c && netUp c && (decide (roleCode c = 0) || decide (roleCode c = 2)
    || (decide (roleCode c = 3) && !rdB c Reg.TWIN_TWIN_STAT 11))

/-- One frame of publish group `g` leaves. -/
def sendSignalFrame (g fmt : Nat) (rep : Bool) (words : List (Word × Bool)) (c : Chip) : Chip :=
  let flags := (decide (c.dev = .safeIdle)).toNat + 2 * rep.toNat + 4 * roleCode c
  let epoch := if fmt = 2 then rdF c Reg.TWIN_TWIN_STAT 31 16 else 0
  let r := takeRct c
  emit (.signalFrame g fmt flags (rdF c (pg g + 4) 15 0) c.tick epoch (tickN c) r.1
    (if fmt = 2 then words else words.map (fun w => (w.1, true)))) r.2

/-- The publish frames at P_OUT, which hold both ports' lines until the publish end (R369); after an early overrun they repeat the previous words (R385). -/
def netPOut (rep : Bool) (c : Chip) : Chip :=
  let c := netServe (c.phase - 1) c
  if ¬ publishes c ∨ ¬ pubDue c then c else
  let c := forEach 2 (fun p c => c.setTx p { c.tx p with free := max (c.tx p).free (txEnd c) }) c
  forAll ((pubGroups c.mem).filter (fun g => groupDue c.mem (pg g) c.tick)) (fun g c =>
    let words := if rep then tabGet (fun _ => []) c.net.sent g
      else (pgSignals c.mem g).map (fun s => ((boardNow c s).val, (boardNow c s).valid))
    let c := { c with net := { c.net with sent := tabPut (fun _ => []) c.net.sent g words } }
    forAll (pgFormats c.mem g) (fun f c => sendSignalFrame g f rep words c) c) c

/-! ### Subscribe (R387–R389, R425) -/

/-- A signal frame is judged for subscribe group `h`, complete at phase `ph`. -/
def judgeFrame (h : Nat) (f : SignalFrame) (c : Chip) : Chip :=
  if f.ver ≠ 1 ∧ f.ver ≠ 2 then raiseEv Event.NET_SUB_MISMATCH h [h] c else
  let v1 := rdB c (sg h) 2
  let epoch := if v1 then 0 else f.epoch
  if v1 ≠ decide (f.ver = 1) then c
  else if f.seq ≠ c.tick ∨ rimPhase c ≤ c.phase then regInc Reg.NET_LATE_COUNT c
  else if (f.ver = 2 ∧ f.period ≠ tickN c) ∨ f.words.length ≠ rdF c (sg h + 16) 24 16 then raiseEv Event.NET_SUB_MISMATCH h [h] c
  else if epoch < rdF c (sg h + 20) 15 0 then c
  else
    let s := c.sub h
    let take := match s.kept with | none => true | some k => decide (k.1 < epoch)
    let c := wrF (sg h + 20) 15 0 epoch c
    let words := (List.range f.words.length).map (fun i => ((f.words[i]?).getD 0, v1 || (f.valids[i]?).getD false))
    let c := if take then c.setSub h { s with kept := some (epoch, words) } else c
    if rdB c Reg.NET_SUB_LOST_MAP h then
      raiseEv Event.NET_SUB_REGAINED h [] (wrB Reg.NET_SUB_LOST_MAP h false c)
    else c

/-- A signal frame arrives: the enabled group with its stream, and where it filters, its source, judges it. -/
def signalFrameRx (f : SignalFrame) (ph : Nat) (c : Chip) : Chip :=
  let c := atPhase ph c
  forAll ((List.range 16).filter (fun h => sgOn c.mem h && decide (rdF c (sg h + 4) 15 0 = f.stream)
      && (!rdB c (sg h) 1 || decide (rdF c (sg h + 12) 15 0 * 0x100000000 + rdN c (sg h + 8) = f.src))))
    (fun h c => judgeFrame h f c) c

/-- The data-plane entries of the rim (R388), and the due groups without a frame (R389). -/
def netRim (c : Chip) : Chip :=
  forAll ((List.range 16).filter (fun h => sgOn c.mem h)) (fun h c =>
    let s := c.sub h
    match s.kept with
    | some k =>
      let d := rdF c (sg h + 16) 13 0
      let c := forEach k.2.length (fun i c =>
        match k.2[i]? with
        | some w => if sigAssignable (d + i) then boardWr (rimPhase c * 4) (d + i) w.1 w.2 c else c
        | none => c) c
      c.setSub h { s with kept := none, miss := 0 }
    | none =>
      if groupDue c.mem (sg h) c.tick then
        c.setSub h { s with miss := min 3 (s.miss + 1) } |> regInc (sg h + 24)
      else c) c

/-- The blocks of 32 bytes that subscribe group `h` touches (R388). -/
def subBlocks (m : Tab Byte) (h : Nat) : Nat := ((sgSignals m h).map (· / 8)).eraseDups.length

/-- Three consecutive due ticks of group `h` have passed without a frame. -/
def subLost (h : Nat) (c : Chip) : Chip :=
  if sgOn c.mem h ∧ 3 ≤ (c.sub h).miss ∧ ¬ rdB c Reg.NET_SUB_LOST_MAP h then
    raiseEv Event.NET_SUB_LOST h [] (wrB Reg.NET_SUB_LOST_MAP h true c)
  else c

/-! ### Restart and commits (R386, R391, R394) -/

/-- The network after a held-output restart: the queues are empty, the arbiters at their first requester and the discard table is clear. -/
def netRestarted (c : Chip) : Chip :=
  showHtx 0 (showNet { c with net := { c.net with hrx := [], hrxEp := false, prp := [], wrong0 := false, wrong1 := false, tx := [] } })

/-- A TICK commit disables the publish groups that no longer fit. -/
def budgetAfterTick (c : Chip) : Chip :=
  let keep := fitting c.mem
  let out := (pubGroups c.mem).filter (fun g => !keep.contains g)
  if out = [] then showNet c
  else raiseEv Event.NET_PUB_BUDGET 0 [(out.map (2 ^ ·)).sum]
    (showNet (forAll out (fun g c => wrB (pg g) 0 false c) c))

/-- The breaches of Table 6 of R394; `extra` is IS_SUB. `taken` says whether a producer other than a subscribe group writes a signal. -/
def netBreaches (m : Tab Byte) (taken : Nat → Bool) : List Refused :=
  let pubs := pubGroups m
  let subs := (List.range 16).filter (sgOn m)
  let all (l : List Nat) (f : Nat → Bool) (r e : Nat) : List Refused := (l.filter f).map (fun g => ⟨r, g, e⟩)
  let blocksTo (h : Nat) : Nat := ((subs.filter (fun k => decide (k ≤ h))).map (subBlocks m)).sum
  all subs (fun h => (sgSignals m h).any (fun s => !sigAssignable s || taken s
      || (subs.filter (fun k => decide (k ≠ h))).any (fun k => (sgSignals m k).contains s))) 1 1
  ++ all pubs (fun g =>
      let n := (pgSignals m g).length
      decide (n = 0) || decide ((if pgFormats m g = [1] then 346 else 335) < n) || (pgSignals m g).any sigReserved) 2 0
  ++ all subs (fun h =>
      let n := (sgSignals m h).length
      decide (n = 0) || decide ((if mB m (sg h) 2 then 346 else 335) < n)) 2 1
  ++ all pubs (fun g => !(fitting m).contains g) 3 0
  ++ all subs (fun h => decide (448 < blocksTo h)) 4 1
  ++ all pubs (fun g => pubs.any (fun k => decide (k ≠ g) && decide (mF m (pg k + 4) 15 0 = mF m (pg g + 4) 15 0))) 5 0
  ++ all subs (fun h => subs.any (fun k => decide (k ≠ h) && decide (mF m (sg k + 4) 15 0 = mF m (sg h + 4) 15 0))) 5 1
  ++ all (List.range 8) (fun g => decide (mF m (pg g) 2 1 = 3) || decide (2 ^ mF m (pg g) 10 8 ≤ mF m (pg g) 17 11)) 6 0
  ++ all (List.range 16) (fun h => decide (2 ^ mF m (sg h) 10 8 ≤ mF m (sg h) 17 11)) 6 1

/-- Record a NET_REFUSED (R394). -/
def refuseNet (r : Refused) (c : Chip) : Chip :=
  wr32 Reg.NET_REFUSE_STAT (Word.ofNat (r.item + 0x10 * r.extra + 0x100 * r.reason)) c

/-- After a NET COMMIT. -/
def netEffects (c : Chip) : Chip := ptpPorts (showNet c)

end Sys2Proof.Machine
end

