-- ==== Sys2Proof/Machine/Health.lean ====
section
/-!
DEFINITION. Machine/Health.lean: the health recorder (R346–R354, R359–R363).
-/
namespace Sys2Proof.Machine

open Sys2Proof

/-! ### Configuration -/

/-- The address at which the model stages the CODE_CFG word of a code (R362): each code holds its own word. -/
def codeCfg (code : Nat) : Nat := 0x02000000 + 4 * code
/-- The word that governs a code's bucket: its own with OWN = 1, otherwise its group's (R348). -/
def bucketWord (m : Tab Byte) (code : Nat) : Word :=
  if mB m (codeCfg code) 24 then mrd32 m (codeCfg code) else mrd32 m (Reg.HEALTH_GROUP_CFG + 4 * (code / 0x100))
def histCfg (i : Nat) : Nat := Reg.HEALTH_HIST_CFG + 16 * i
def extCfg (j : Nat) : Nat := Reg.HEALTH_EXT_CFG + 4 * j
def histOf (h : HealthSt) (i : Nat) : HistSt := tabGet (fun _ => {}) h.hists i
def extOf (h : HealthSt) (j : Nat) : ExtSt := tabGet (fun _ => {}) h.exts j
def codeOf (h : HealthSt) (k : Nat) : CodeStat := tabGet (fun _ => {}) h.codes k

/-! ### Records (R349) -/

/-- A record's 60 bytes before its CRC. -/
def recBytes (r : HealthRec) : List Byte :=
  leBytes 4 r.seq ++ leBytes 5 r.opSec ++ leBytes 3 r.pcc ++ leBytes 2 r.code ++ leBytes 2 r.inst
    ++ leBytes 4 r.p0.toNat ++ leBytes 4 r.p1.toNat ++ leBytes 4 r.p2.toNat ++ leBytes 4 r.p3.toNat
    ++ leBytes 6 r.tick ++ leBytes 2 r.phase ++ leBytes 6 r.wall ++ leBytes 1 (r.tstate % 4) ++ leBytes 1 r.kind
    ++ leBytes 4 r.reps ++ leBytes 4 r.lastOp ++ leBytes 4 0

/-- The 16 words of a record, the last its CRC-32. -/
def recWords (r : HealthRec) : List Word :=
  let b := recBytes r
  (List.range 15).map (fun i => Word.ofNat (leVal ((b.drop (4 * i)).take 4))) ++ [Word.ofNat (crc32 b)]

/-- The PTP seconds of phase `phase` of tick `tick`, counted back from the present tick (R349). -/
def wallAt (c : Chip) (tick phase : Nat) : Nat :=
  (c.time.base / 2 ^ 32 + 4 * phase - (c.tick + 2 ^ 48 - tick) % 2 ^ 48 * (tickSpan c / 2 ^ 32)) / 1000000000 % 2 ^ 48

/-- A record of a kind, stamped now (R346). -/
def stamped (kind code inst : Nat) (p : Nat → Word) (tick phase : Nat) (c : Chip) : HealthRec :=
  let locked := decide (c.time.state = .locked) || decide (c.time.state = .holdover)
  { seq := c.health.nextSeq % 0x100000000, opSec := c.opSec, pcc := c.health.pcc, code := code % 0x10000, inst := inst % 0x10000,
    p0 := p 0, p1 := p 1, p2 := p 2, p3 := p 3, tick := tick, phase := phase,
    wall := if locked then wallAt c tick phase else 0, tstate := tstateCode c.time.state, kind := kind }

/-- The status registers of the page. -/
def showHealth (c : Chip) : Chip :=
  let h := c.health
  let sel := rdF c Reg.HEALTH_CODE_SEL 11 0
  let s := codeOf h sel
  let hs := histOf h (rdF c Reg.HEALTH_HIST_SEL 5 0)
  let es := extOf h (rdF c Reg.HEALTH_EXT_SEL 7 0)
  let c := wr32 Reg.HEALTH_OP_SEC_LO (Word.ofNat (c.opSec % 0x100000000)) (wrF Reg.HEALTH_OP_SEC_HI 31 8 h.pcc c)
  let c := wr32 Reg.HEALTH_REC_SEQ (Word.ofNat (h.nextSeq % 0x100000000))
    (wr32 Reg.HEALTH_BUF_STAT (Word.ofNat (h.recs.length + 0x1000 * h.flushing.toNat)) c)
  let c := wr32 Reg.HEALTH_LAST_FLUSH (Word.ofNat (h.flushOp % 0x100000000)) (wr32 Reg.HEALTH_AREA_HEAD (Word.ofNat h.head)
    (wr32 Reg.HEALTH_AREA_WRAPS (Word.ofNat h.wraps) (wr32 Reg.HEALTH_RESTARTS (Word.ofNat (h.restarts % 0x1000000)) c)))
  let c := wr32 Reg.HEALTH_CODE_TOTAL (Word.ofNat s.total) (wr32 Reg.HEALTH_CODE_FIRST (Word.ofNat (s.first % 0x100000000))
    (wr32 (Reg.HEALTH_CODE_FIRST + 4) (Word.ofNat (s.first / 0x100000000)) (wr32 Reg.HEALTH_CODE_LAST (Word.ofNat (s.last % 0x100000000))
      (wr32 (Reg.HEALTH_CODE_LAST + 4) (Word.ofNat (s.last / 0x100000000)) (wr32 Reg.HEALTH_CODE_CFG (rd32 c (codeCfg sel)) c)))))
  let c := wr32 Reg.HEALTH_HIST_INVALID (Word.ofNat hs.inval) c
  let c := forEach 32 (fun b c => wr32 (Reg.HEALTH_HIST_BIN + 4 * b) (Word.ofNat (tabGet (fun _ => 0) hs.bins b)) c) c
  wr32 Reg.HEALTH_EXT_MIN (Word.ofInt es.min) (wr32 Reg.HEALTH_EXT_MAX (Word.ofInt es.max)
    (wr32 Reg.HEALTH_EXT_MIN_OP (Word.ofNat es.minOp) (wr32 Reg.HEALTH_EXT_MAX_OP (Word.ofNat es.maxOp) c)))

/-- Replace the recorder's state and show it. -/
def setHealth (h : HealthSt) (c : Chip) : Chip := showHealth { c with health := h }

/-! ### Flushes (R352–R354) -/

/-- The records that the buffer holds at most. -/
def bufRecords : Nat := 2864

/-- A flush is triggered; `fault` for one that a fault or a guard trip starts. -/
def triggerFlush (fault : Bool) (c : Chip) : Chip :=
  let h := c.health
  let now := instant c c.tick c.phase
  let early := match h.lastFault with | some t => decide (now < t + 250000000) | none => false
  if fault && early then setHealth { h with waitFault := true } c
  else if h.flushing then setHealth { h with again := max h.again (1 + fault.toNat) } c
  else setHealth { h with flushing := true, retried := false, lastFault := if fault then some now else h.lastFault } c

/-- A power failure ends a flush that runs, at its current record, and starts one of its own (R353). -/
def preemptFlush (c : Chip) : Chip := setHealth { c.health with flushing := true, retried := false, again := 0 } c

/-- A record enters the buffer, or is dropped where the buffer is full (R353). -/
def writeRecord (r : HealthRec) (c : Chip) : Chip :=
  let h := c.health
  if h.recs.length < bufRecords then
    let h := { h with recs := h.recs ++ [r], nextSeq := h.nextSeq + 1,
                      lastRec := if r.kind = 1 then tabIns (r.code % 0x1000) r.seq h.lastRec else h.lastRec }
    let c := setHealth h c
    if 4 * h.recs.length = 3 * bufRecords then triggerFlush false c else c
  else
    let c := regInc Reg.HEALTH_DROP_COUNT (setHealth { h with dropEp := true } c)
    if h.dropEp then c else raiseEv Event.HEALTH_REC_DROP 0 [] c

/-- Tokens of a bucket now (R348): one per REFILL ms of CK_TIME, up to CAP; it starts full. -/
def refill (w : Word) (now : Nat) (b : Option Bucket) : Bucket :=
  let cap := fld w 7 0
  let step := 250000 * max (fld w 23 8) 1
  match b with
  | none => ⟨cap, now⟩
  | some x =>
    let n := (now - x.since) / step
    if cap ≤ x.tokens + n then ⟨cap, now⟩ else ⟨x.tokens + n, x.since + n * step⟩

/-- take(entry) of R348. -/
def takeEntry (e : RingEntry) (c : Chip) : Chip :=
  let h := c.health
  let s := codeOf h e.code
  let s := { total := satInc 32 s.total, first := if s.total = 0 then c.opSec else s.first, last := c.opSec : CodeStat }
  let w := bucketWord c.mem e.code
  let b := refill w (instant c c.tick c.phase) (tabFind h.buckets e.code)
  let h := { h with codes := tabPut (fun _ => {}) h.codes e.code s, buckets := tabIns e.code b h.buckets }
  let c := setHealth h c
  if fld w 7 0 = 0 then c
  else if 1 ≤ b.tokens then
    let r := stamped 1 (e.code + 0x1000 * e.plane + 0x4000 * e.fault.toNat) e.inst
      (fun i => if i = 0 then e.p0 else if i = 1 then e.p1 else if i = 2 then e.p2 else e.p3) e.tick e.phase c
    writeRecord r (setHealth { h with buckets := tabIns e.code { b with tokens := b.tokens - 1 } h.buckets } c)
  else match tabFind h.lastRec e.code with
    | some q => setHealth { h with recs := h.recs.map (fun r => if r.seq = q ∧ r.kind = 1 then
        { r with reps := satInc 32 r.reps, lastOp := c.opSec % 0x100000000 } else r) } c
    | none => setHealth { h with pendRep := tabIns e.code (satInc 32 ((tabGet (fun _ => (0, 0)) h.pendRep e.code).1), c.opSec) h.pendRep } c

/-- The recorder takes the next ring entry (R28, R348), and an entry that starts a flush does so (R352). -/
def eventTake (c : Chip) : Chip :=
  let r := c.ring
  let ahead (e : RingEntry) : Nat := (e.seq + 0x100000000 - r.mgmtSeq % 0x100000000) % 0x100000000
  match r.entries.find? (fun e => decide (ahead e < r.nextSeq - r.mgmtSeq)) with
  | none => c
  | some e =>
    let c := takeEntry e { c with ring := { r with mgmtSeq := r.mgmtSeq + ahead e + 1 } }
    if e.code = Event.GUARD_GUARD_TRIP.code ∨ (e.fault ∧ ¬ (0x1D0 ≤ e.code ∧ e.code ≤ 0x1DF)) then triggerFlush true c
    else c

/-- The newest valid summary. -/
def newestSummary (h : HealthSt) : Option Summary :=
  match h.sum0, h.sum1 with
  | some a, some b => if a.gen < b.gen then some b else some a
  | some a, none => some a
  | none, b => b

/-- The pend_rep counts become REPEAT records, and a loss of ring entries a LOSS record (R348, R352). -/
def flushExtras (c : Chip) : List HealthRec :=
  let h := c.health
  let loss := rdN c Reg.SYS_RING_LOSS_MGMT
  let reps := h.pendRep.map (fun e =>
    { stamped 2 e.1 (Config.recInst 2) (fun i => if i = 0 then Word.ofNat e.2.1 else 0) c.tick c.phase c with lastOp := e.2.2 % 0x100000000 })
  let loss := if h.lossSeen < loss then
      [stamped 5 (Config.recCode 5) (Config.recInst 5) (fun i => if i = 0 then Word.ofNat (loss - h.lossSeen) else 0) c.tick c.phase c]
    else []
  let l := reps ++ loss
  (l.zip (List.range l.length)).map (fun e => { e.1 with seq := (h.nextSeq + e.2) % 0x100000000 })

/-- Records written to the ring of the health area; the newest overwrites the oldest (R354). -/
def areaWrite (l : List HealthRec) (h : HealthSt) : HealthSt :=
  l.foldl (fun h r =>
    { h with area := tabIns h.head r h.area, head := if h.head + 1 = 258048 then 0 else h.head + 1,
             wraps := if h.head + 1 = 258048 then h.wraps + 1 else h.wraps }) h

/-- The summary that a flush writes; the copies alternate (R352, R354). -/
def writeSummary (opSec : Nat) (h : HealthSt) : HealthSt :=
  let g := match newestSummary h with | some s => s.gen + 1 | none => 0
  let s : Summary := ⟨g, opSec, h.pcc, h.nextSeq, h.codes, h.hists, h.exts, h.restarts⟩
  if g % 2 = 0 then { h with sum0 := some s } else { h with sum1 := some s }

/-- What a completed flush does. -/
def flushEffect (c : Chip) : Nat × Chip :=
  let h := c.health
  let extra := flushExtras c
  let l := h.recs ++ extra
  let h := areaWrite l { h with nextSeq := h.nextSeq + extra.length }
  let h := writeSummary c.opSec { h with recs := [], lastRec := [], pendRep := [], lossSeen := rdN c Reg.SYS_RING_LOSS_MGMT,
                                         dropEp := false, flushOp := c.opSec, retryDue := false }
  (l.length, regInc Reg.HEALTH_FLUSH_COUNT (setHealth h c))

/-- The further flush that a trigger during a flush asked for (R352). -/
def flushAgain (c : Chip) : Chip :=
  let h := c.health
  if h.again = 0 then c else triggerFlush (decide (h.again = 2)) (setHealth { h with again := 0 } c)

/-- A flush ends, with or without an error of the record bank (R352, R354). -/
def healthFlush (ok : Bool) (c : Chip) : Chip :=
  let h := c.health
  if ¬ h.flushing then c
  else
    let c := setHealth { h with flushing := false } c
    if ok then
      let r := flushEffect c
      flushAgain (raiseEv Event.HEALTH_HEALTH_FLUSH 0 [r.1] r.2)
    else
      flushAgain (raiseEv Event.HEALTH_FLUSH_FAIL 0 [] (setHealth { c.health with retryDue := !h.retried, failAt := instant c c.tick c.phase } c))

/-- A failed flush is retried after 1 s (R354). -/
def flushRetry (c : Chip) : Chip :=
  let h := c.health
  if h.retryDue ∧ ¬ h.flushing ∧ h.failAt + 250000000 ≤ instant c c.tick c.phase then setHealth { h with retryDue := false, flushing := true, retried := true } c else c

/-- 600 s of OP_SEC have passed since the last flush (R352). -/
def flushInterval (c : Chip) : Chip := if c.health.flushOp + 600 ≤ c.opSec then triggerFlush false c else c

/-- The spacing of a waiting fault's flush has passed (R352). -/
def flushSpacing (c : Chip) : Chip :=
  let h := c.health
  let over' := match h.lastFault with | some t => decide (t + 250000000 ≤ instant c c.tick c.phase) | none => true
  if h.waitFault && over' then triggerFlush true (setHealth { h with waitFault := false } c) else c

/-- The field die advances OP_SEC (R346). -/
def opSecond (c : Chip) : Chip := showHealth { c with opSec := (c.opSec + 1) % 2 ^ 40 }

/-! ### Instruments (R350, R351) -/

/-- The bin of a sample (R350). -/
def histBin (lo wid s : Int) : Nat := if s < lo then 0 else min (1 + ((s - lo) / wid).toNat) 31

/-- Histogram `i` takes a sample. -/
def histSample (i : Nat) (c : Chip) : Chip :=
  let a := histCfg i
  if c.tick % 2 ^ rdF c a 19 16 ≠ 0 then c else
  let h := c.health
  let x := histOf h i
  let w := settledRd c (rdF c a 13 0)
  let x := if w.valid then
      let b := histBin (rdI c (a + 4)) (rdI c (a + 8)) w.val.toInt
      { x with bins := tabPut (fun _ => 0) x.bins b (satInc 32 (tabGet (fun _ => 0) x.bins b)) }
    else { x with inval := satInc 32 x.inval }
  { c with health := { h with hists := tabPut (fun _ => {}) h.hists i x } }

/-- Tracker `j` takes a sample. -/
def extSample (j : Nat) (c : Chip) : Chip :=
  let h := c.health
  let x := extOf h j
  let w := settledRd c (rdF c (extCfg j) 13 0)
  if ¬ w.valid then c else
  let s := w.val.toInt
  let op := c.opSec % 0x100000000
  let lo := !x.seen || decide (s < x.min)
  let hi := !x.seen || decide (x.max < s)
  let x := { min := if lo then s else x.min, max := if hi then s else x.max, minOp := if lo then op else x.minOp,
             maxOp := if hi then op else x.maxOp, seen := true : ExtSt }
  { c with health := { h with exts := tabPut (fun _ => {}) h.exts j x } }

/-- The recorder samples its instruments at P_IN + 2.0 µs. -/
def healthSample (c : Chip) : Chip :=
  let c := atPhase 500 c
  let c := forAll ((List.range 64).filter (fun i => rdB c (histCfg i) 15)) histSample c
  showHealth (forAll ((List.range 256).filter (fun j => rdB c (extCfg j) 15)) extSample c)

/-- The nine SNAPSHOT records of histogram `i`, and its clearing (R351). -/
def snapHist (i : Nat) (snap : Bool) (c : Chip) : Chip :=
  let x := histOf c.health i
  let bin (b : Nat) : Word := Word.ofNat (tabGet (fun _ => 0) x.bins b)
  let c := if snap then forEach 9 (fun k c =>
      writeRecord (stamped 3 (Config.recCode 3) (i + 0x100 * k)
        (fun n => if k < 8 then bin (4 * k + n) else if n = 0 then Word.ofNat x.inval else 0) c.tick c.phase c) c) c else c
  setHealth { c.health with hists := tabDel c.health.hists i } c

/-- The SNAPSHOT record of tracker `j`, and its clearing. -/
def snapExt (j : Nat) (snap : Bool) (c : Chip) : Chip :=
  let x := extOf c.health j
  let c := if snap then writeRecord (stamped 3 (Config.recCode 3) j
      (fun n => if n = 0 then Word.ofInt x.min else if n = 1 then Word.ofInt x.max else if n = 2 then Word.ofNat x.minOp else Word.ofNat x.maxOp)
      c.tick c.phase c) c else c
  setHealth { c.health with exts := tabDel c.health.exts j } c

/-- After a HEALTH COMMIT, from the memory `m` before it (R348, R351): changed instruments are written out and cleared, and a bucket whose
configuration changed starts full. -/
def healthEffects (m : Tab Byte) (c : Chip) : Chip :=
  let diff (a n : Nat) : Bool := (List.range n).any (fun k => decide (mrd32 m (a + 4 * k) ≠ rd32 c (a + 4 * k)))
  let c := forAll ((List.range 64).filter (fun i => diff (histCfg i) 3)) (fun i c => snapHist i (mB m (histCfg i) 15) c) c
  let c := forAll ((List.range 256).filter (fun j => diff (extCfg j) 1)) (fun j c => snapExt j (mB m (extCfg j) 15) c) c
  setHealth { c.health with buckets := c.health.buckets.filter (fun (e : Nat × Bucket) =>
    decide (bucketWord m e.1 = bucketWord c.mem e.1)) } c

/-- Whether a HEALTH COMMIT that writes the DWORDs `written` breaks a rule of R362. -/
def healthBreach (m : Tab Byte) (written : List Nat) : Bool :=
  written.any (fun a =>
    if Reg.HEALTH_GROUP_CFG ≤ a ∧ a < Reg.HEALTH_GROUP_CFG + 64 ∨ codeCfg 0 ≤ a then decide (mF m a 23 8 = 0)
    else if histCfg 0 ≤ a ∧ a < histCfg 64 then
      let k := (a - histCfg 0) % 16
      if k = 0 then mB m a 15 && (sigReserved (mF m a 13 0) || decide ((mrd32 m (a + 8)).toInt ≤ 0))
      else if k = 8 then decide ((mrd32 m a).toInt ≤ 0) else false
    else if extCfg 0 ≤ a ∧ a < extCfg 256 then mB m a 15 && sigReserved (mF m a 13 0)
    else false)

/-- RD_INDEX fetches a record of the health area into RD_REC (R362). -/
def readRecord (c : Chip) : Chip :=
  let ws := match tabFind c.health.area (rdF c Reg.HEALTH_RD_INDEX 17 0) with
    | some r => recWords r
    | none => []
  forEach 16 (fun i c => wr32 (Reg.HEALTH_RD_REC + 4 * i) ((ws[i]?).getD 0) c) c

/-! ### Power-on and restart (R346, R354, R359, R360) -/

/-- The recorder at power-on: the newest valid summary loads, PCC increments and START is written; the instruments' configurations are
at reset. -/
def healthPowerOn (c : Chip) : Chip :=
  let h := c.health
  let s := newestSummary h
  let base : HealthSt := { area := h.area, head := h.head, wraps := h.wraps, sum0 := h.sum0, sum1 := h.sum1 }
  let c := match s with
    | some s => { c with
        opSec := (s.opSec + 1) % 2 ^ 40,
        health := { base with codes := s.codes, hists := s.hists, exts := s.exts, nextSeq := s.nextSeq, pcc := (s.pcc + 1) % 2 ^ 24,
                              restarts := s.restarts, flushOp := s.opSec + 1 } }
    | none => raiseEv Event.HEALTH_HEALTH_AREA_ERR 0 [] { c with health := { base with pcc := 1 } }
  writeRecord (stamped 4 (Config.recCode 4) (Config.recInst 4) (fun _ => 0) c.tick c.phase c) c

/-- The recorder after a held-output restart (R360): after a commanded one the flush has been completed; otherwise what was taken since the
last flush is lost. -/
def healthRestarted (flushed : Bool) (c : Chip) : Chip :=
  let h := c.health
  let h := if flushed then { h with flushing := false, again := 0 }
    else match newestSummary h with
      | some s => { h with recs := [], lastRec := [], pendRep := [], buckets := [], codes := s.codes, hists := s.hists, exts := s.exts,
                           nextSeq := s.nextSeq, flushing := false, again := 0 }
      | none => { h with recs := [], lastRec := [], pendRep := [], buckets := [], codes := [], hists := [], exts := [], nextSeq := 0,
                         flushing := false, again := 0 }
  let c := setHealth { h with restarts := h.restarts + 1, waitFault := false, lastFault := none } c
  writeRecord (stamped 4 (Config.recCode 4) (Config.recInst 4) (fun i => if i = 0 then (if flushed then 1 else 2) else 0) c.tick c.phase c) c

end Sys2Proof.Machine
end

