-- ==== Sys2Proof/Machine/Ist.lean ====
section
/-!
DEFINITION. Machine/Ist.lean: the in-service test, SRAM errors and retirement (R355–R358, R364, R365).
-/
namespace Sys2Proof.Machine

open Sys2Proof

/-- RETIRE_SUM and RETIRE_ECHO. -/
def showIst (c : Chip) : Chip :=
  let count (f : Nat → Bool) (n : Nat) : Nat := ((List.range n).filter f).length
  let ais := count (fun i => (c.ai i).retired) 64
  let ports := count (fun n => (c.port n).retired) 32
  let axes := count (fun n => (c.ax n).retired) 32
  wr32 Reg.IST_RETIRE_SUM (Word.ofNat (c.laneOut.length + 0x100 * ais + 0x10000 * ports + 0x1000000 * axes))
    (wr32 Reg.IST_RETIRE_ECHO (Word.ofNat ((tabKeys c.echoes).countP (fun n => (c.echoOf n).retired) + 0x80000000 * c.retValid.toNat)) c)

/-- A permanent outcome makes a physical lane retire at the next rim (R74); its cause is 4 of Table 5 of R84. -/
def lanePermanent (pl : Nat) (c : Chip) : Chip :=
  if c.laneDue.any (fun d => decide (d.1 = pl)) then c else { c with laneDue := c.laneDue ++ [(pl, 4, none)] }

/-- A check of a lane is judged, and a permanent outcome retires it. -/
def judgeLane (check pl : Nat) (ok : Bool) (c : Chip) : Chip :=
  let j := judge check (laneUnit pl) ok c
  if j.1 then lanePermanent pl j.2 else j.2

/-- LANE_CHECK: a lane has run `n` kernels, with the known result or not (R355). -/
def laneCheck (pl n : Nat) (ok : Bool) (c : Chip) : Chip :=
  if ¬ checkOn c 1 ∨ c.laneOut.contains pl ∨ n = 0 then c
  else judgeLane 1 pl ok (wr32 Reg.IST_LANE_CHECKS (Word.ofNat (min 0xFFFFFFFF (rdN c Reg.IST_LANE_CHECKS + n))) c)

/-- The LOOP and ECHO strands that the tick has dispatched so far, in bank order, each with the physical lane that runs it. -/
def sampled (c : Chip) : List (Nat × Nat) :=
  ((dueStrands c.mem c.bankActive c.tick).filter (fun p => decide (p.2.kind = 1) || decide (p.2.kind = 2))).filterMap (fun p =>
    match (c.sched.filter (fun f => decide (f.index = p.1))).getLast? with
    | some f => (c.laneMap[f.lane]?).map (fun pl => (p.1, pl))
    | none => none)

/-- The strand that a spare recomputes in the tick: the next one after the one last sampled; one of a lane that waits for a retry comes first
(R355, R356). -/
def sampleOf (spare : Nat) (c : Chip) : Option (Nat × Nat) :=
  let l := sampled c
  let again := l.filter (fun x => decide (tabFind c.retry (laneUnit x.2) = some 2))
  let l := if again = [] then l else again
  match roundRobin (tabGet (fun _ => 0) c.testNext (256 + spare)) (l.map (·.1)) with
  | some k => l.find? (fun x => decide (x.1 = k))
  | none => none

/-- RECOMPUTE: a spare recomputes, once per tick, the next LOOP or ECHO strand of the tick. A mismatch is charged to the lane that ran the strand,
or to the spare where its own LANE_CHECK failed in the same tick (R355). -/
def recompute (spare : Nat) (ok : Bool) (c : Chip) : Chip :=
  if ¬ checkOn c 2 ∨ ¬ c.spares.contains spare ∨ c.beat < tabGet (fun _ => 0) c.testAt (256 + spare) then c else
  match sampleOf spare c with
  | none => c
  | some (k, pl) =>
    let c := regInc Reg.IST_RECOMP_COUNT { c with
      testNext := tabPut (fun _ => 0) c.testNext (256 + spare) (k + 1), testAt := tabPut (fun _ => 0) c.testAt (256 + spare) (c.beat + 1) }
    let failed := decide (tabFind c.retry (laneUnit spare) = some 1) && (tabGet (fun _ => []) c.mism (laneUnit spare)).contains c.tick
    judgeLane 2 (if !ok && failed then spare else pl) ok c

/-- The logic die's SRAM in bytes (R355). -/
def sramBytes : Nat := 20 * 1024 * 1024

/-- SCRUB: the scrubber has gone over `n` words of 4 bytes; a full pass gives SCRUB_PASS, and SCRUB_LATE past 10 s. -/
def scrub (n : Nat) (c : Chip) : Chip :=
  if ¬ checkOn c 3 then c
  else
    let pos := c.scrubPos + 4 * n
    if pos < sramBytes then { c with scrubPos := pos }
    else
      let now := instant c c.tick c.phase
      let ms := (now - c.scrubAt) / 250000
      let c := { c with scrubPos := 0, scrubAt := now }
      let c := wr32 Reg.IST_SCRUB_PASS (Word.ofNat (min 0xFFFF ms)) (regInc Reg.IST_SCRUB_COUNT c)
      if 10000 < ms then raiseEv Event.IST_SCRUB_LATE 0 [ms] c else c

/-- LINK: the error counts of the past second, for WL0–WL7, TWIN, NET0 and NET1 (R355): those that the links counted, and the frames that
buffers have lost since the last check (R31, R357). -/
def linkCheck (counts : List Nat) (c0 : Chip) : Chip :=
  let c := { c0 with linkErrs := [] }
  if ¬ checkOn c 7 then c
  else forEach 11 (fun k c =>
    let n := (counts[k]?).getD 0 + tabGet (fun _ => 0) c0.linkErrs k
    if rdF c Reg.IST_LINK_ERR_MAX 15 0 < n then raiseEv Event.IST_LINK_DEGRADED k [k, n] c else c) c

/-! ### SRAM errors (R357) -/

/-- A cluster retires (R75): every lane stops, and all five retire at the next rim. -/
def clusterError (cl : Nat) (c : Chip) : Chip :=
  let pls := (List.range 5).map (· + 5 * cl)
  let pls := pls.filter (fun p => !c.laneOut.contains p)
  forAll pls (fun p c => permanentOutcome 3 (laneUnit p) 1 c) (laneStops pls 3 c.phase true c)

/-- A ring entry is lost to an error: it is discarded, and counted for each consumer that has not taken it. -/
def ringError (seq : Nat) (c : Chip) : Chip :=
  let r := c.ring
  if ¬ r.entries.any (fun e => decide (e.seq = seq)) then c
  else
    let c := { c with ring := { r with entries := r.entries.filter (fun e => decide (e.seq ≠ seq)) } }
    let left (k : Nat) : Bool := decide ((seq + 0x100000000 - k % 0x100000000) % 0x100000000 < r.nextSeq - k)
    let c := if left r.mgmtSeq then regInc Reg.SYS_RING_LOSS_MGMT c else c
    if left r.dataSeq then regInc Reg.SYS_RING_LOSS_DATA c else c

/-- A pending health record is lost to an error: it is discarded and counted. -/
def healthRecError (seq : Nat) (c : Chip) : Chip :=
  let h := c.health
  if ¬ h.recs.any (fun r => decide (r.seq = seq)) then c
  else regInc Reg.HEALTH_DROP_COUNT (setHealth { h with recs := h.recs.filter (fun r => decide (r.seq ≠ seq)) } c)

/-- A frame is lost to an error of a network or link buffer, and counted as an error of its link: 0–7 WL0–WL7, 8 TWIN, 9 and 10 NET0 and
NET1. -/
def frameError (link : Nat) (c : Chip) : Chip :=
  let c := if link < 11 then { c with linkErrs := tabPut (fun _ => 0) c.linkErrs link (tabGet (fun _ => 0) c.linkErrs link + 1) } else c
  if link = 9 ∨ link = 10 then regInc (Reg.NET_NETp_ERR + 4 * (link - 9)) c else c

/-- A record is in error until it is rewritten. -/
def markBad (mem unit : Nat) (c : Chip) : Chip :=
  if c.badMem.contains (mem, unit) then c else { c with badMem := c.badMem ++ [(mem, unit)] }

/-- The effect of an uncorrectable error on the memory where it lies (Table 4). `unit` is what the word belongs to: a cluster, an echo
controller with the entry at `sub`, a recipe step, a weave bank, a loop, a section, a guard, a generator, a signal, a ring entry's SEQ, a
task, a record's SEQ or a link. -/
def memEffect (mem unit sub : Nat) (c : Chip) : Chip :=
  match mem with
  | 0 | 1 | 2 => clusterError (unit % 4) c
  | 3 => if unit < 128 then echoHardErr unit sub c else c
  | 4 => { c with badSteps := if c.badSteps.contains unit then c.badSteps else c.badSteps ++ [unit] }
  | 5 => { c with retValid := false }
  | 6 => if unit = c.bankActive then { c with safeCause := some Event.IST_MEM_UE.code } else uncheckBank unit c
  | 7 | 8 => markBad mem unit c
  | 9 => markBad 9 unit { c with tripped := tabPut (fun _ => false) c.tripped unit true }
  | 10 => if unit < 128 then quickStop unit 11 (markBad 10 unit c) else c
  | 11 =>
    let c := { c with settled := match tabFind c.settled unit with
      | some w => tabIns unit { w with valid := false } c.settled
      | none => c.settled }
    { c with work := match tabFind c.work unit with
      | some w => tabIns unit { w with valid := false } c.work
      | none => c.work }
  | 12 => ringError unit c
  | 13 => if 1 ≤ unit ∧ unit < 256 then faultTask (reqSE 0) unit 6 c else c
  | 14 => healthRecError unit c
  | _ => frameError unit c

/-- The permanent outcome of an uncorrectable error (R356): a cluster's lanes and an echo controller are judged with their own numbers where
the error retires them, any other memory with its code of Table 4 (DEDUCED, log 64). -/
def memOutcome (mem : Nat) (c : Chip) : Chip := if mem ≤ 3 then c else permanentOutcome 3 mem 1 c

/-- SRAM_ERROR: an SRAM read finds an error in a word of memory `mem` at byte address `addr`. -/
def sramError (mem addr unit sub : Nat) (corrected : Bool) (c : Chip) : Chip :=
  if corrected then raiseEv Event.IST_MEM_CORRECTED mem [] (regInc Reg.IST_CE_COUNT c)
  else showIst (memOutcome mem (memEffect mem unit sub (countUe mem addr c)))

/-- What the rewriting of the DWORDs `written` mends (R192, R357): loops that were forced hand over as from a guard's release. -/
def memRewritten (written : List Nat) (c : Chip) : Chip :=
  if c.badMem = [] ∧ c.badSteps = [] then c
  else
    let hit (lo hi : Nat) : Bool := written.any (fun a => decide (lo ≤ a) && decide (a < hi))
    let mended (e : Nat × Nat) : Bool :=
      (decide (e.1 = 7) && hit (loopRec e.2) (loopRec (e.2 + 1))) || (decide (e.1 = 8) && hit (sosRec e.2) (sosRec (e.2 + 1)))
        || (decide (e.1 = 9) && hit (guardRec e.2) (guardRec (e.2 + 1)))
        || (decide (e.1 = 10) && (hit (mpRec e.2) (mpRec (e.2 + 1)) || (decide (e.2 < 32) && hit (drv e.2) (drv (e.2 + 1)))))
    let before := memForced c
    let c := { c with badMem := c.badMem.filter (fun e => !mended e),
                      badSteps := c.badSteps.filter (fun n => !hit (stepAddr n) (stepAddr (n + 1))) }
    forAll (before.filter (fun n => !(memForced c).contains n)) releaseLoop c

end Sys2Proof.Machine
end

