-- ==== Sys2Proof/Machine/Twin.lean ====
section
/-!
DEFINITION. Machine/Twin.lean: twin operation: roles, the paths between the units, mirroring, takeovers, hand-overs and MIGRATION
(R395–R434).
-/
namespace Sys2Proof.Machine

open Sys2Proof

/-! ### Status (R418) -/

/-- The partner's role as last seen; 6 absent. -/
def partnerRole (c : Chip) : Nat := rdF c Reg.TWIN_TWIN_STAT 9 7
def setPartner (r : Nat) (c : Chip) : Chip := wrF Reg.TWIN_TWIN_STAT 9 7 r c
def strapB (c : Chip) : Bool := rdB c Reg.TWIN_TWIN_STAT 3
def glintIn (c : Chip) : Bool := rdB c Reg.TWIN_TWIN_STAT 4
def linkUp (c : Chip) : Bool := rdB c Reg.TWIN_TWIN_STAT 5
def inSync (c : Chip) : Bool := rdB c Reg.TWIN_TWIN_STAT 10
def inMigration (c : Chip) : Bool := rdB c Reg.TWIN_TWIN_STAT 11
def epochOf (c : Chip) : Nat := rdF c Reg.TWIN_TWIN_STAT 31 16
def pairEn (c : Chip) : Bool := rdB c Reg.TWIN_TWIN_CFG 0
/-- Whether this unit owns the outputs: SOLO or ACTIVE. -/
def ownsOutputs (c : Chip) : Bool := decide (roleCode c = 0) || decide (roleCode c = 2)
/-- Whether this owner has a partner in SHADOW. -/
def hasShadow (c : Chip) : Bool := decide (roleCode c = 2) && decide (partnerRole c = 3)
/-- The present instant. -/
def nowAt (c : Chip) : Nat := instant c c.tick c.phase

/-- The CK_TIME cycles from the edge that began the present PTP second (R397). -/
def secondCycles (c : Chip) : Nat :=
  ptpNow c % (1000000000 * 2 ^ 32) * 1000000000 / max 1 (4 * 2 ^ 32 * (1000000000 + rateNow c)).toNat

/-- Epoch `a` is higher than `b` in 16-bit serial arithmetic (R409). -/
def epochHigher (a b : Nat) : Bool :=
  let d := (a + 0x10000 - b % 0x10000) % 0x10000
  decide (0 < d) && decide (d < 0x8000)

/-- An epoch is seen in a return, witness or signal frame (R411). -/
def seeEpoch (e : Nat) (c : Chip) : Chip :=
  if epochHigher e c.twin.epochSeen then { c with twin := { c.twin with epochSeen := e } } else c

/-- The owner epoch takes a value. -/
def setEpoch (e : Nat) (c : Chip) : Chip := wrF Reg.TWIN_TWIN_STAT 31 16 (e % 0x10000) c

/-- The timed status of the page at a rim. -/
def showTwin (c : Chip) : Chip :=
  let t := c.twin
  let c := wrB Reg.TWIN_TWIN_STAT 6 (decide (4 ≤ t.witRun)) c
  let c := wr32 Reg.TWIN_SYNC_TIME (Word.ofNat (min 0xFFFFFFFF (t.syncTicks / max 1 (rdF c Reg.TICK_TICKS_PER_SEC 16 0)))) c
  wr32 Reg.TWIN_MIG_LEFT (Word.ofNat (match t.watchEnd with | some e => min 0xFFF (e - c.opSec) | none => 0)) c

/-- The units' state as the digest covers it (R136, R157, R196, R222, R403). -/
def unitItems (c : Chip) : List DigestItem :=
  c.loops.map (fun e => .loop e.1 e.2) ++ c.sos.map (fun e => .sos e.1 e.2)
  ++ c.echoes.map (fun e => .echo e.1 e.2.state e.2.h e.2.t e.2.p e.2.crc)
  ++ c.mps.map (fun e => .generator e.1 e.2.pos e.2.vel e.2.mode e.2.seq e.2.homed e.2.latchPos e.2.latchTick)
  ++ c.tasks.map (fun e => .task e.1 e.2) ++ .order c.nextStamp :: c.flags.map (fun e => .flag e.1 e.2)
  ++ c.termOn.map (fun e => .term e.1 e.2) ++ c.tripped.map (fun e => .guard e.1 e.2)

/-- Whether MIGRATION leaves the record at an offset shared (R430). -/
def sharedAt (c : Chip) (a : Nat) : Bool := !(c.twin.divRecs.any (fun r => decide (r.1 ≤ a) && decide (a < r.2)))

/-- Whether MIGRATION leaves an item in the digest (R430): the state of the shared units, and the words that they produce. -/
def sharedItem (c : Chip) : DigestItem → Bool
  | .word i _ =>
    (List.range 2048).any (fun n => (decide (i = Sig.loopOut n) || decide (i = Sig.loopSp n)) && sharedAt c (loopRec n))
    || (List.range 128).any (fun n => decide (i = Sig.echo n) && sharedAt c (Reg.ECHO_Descriptors + 24 * n))
    || (List.range 128).any (fun n =>
      (decide (i = Sig.mpPosLo n) || decide (i = Sig.mpPosHi n) || decide (i = Sig.mpVel n)) && sharedAt c (mpRec n))
  | .loop n _ => sharedAt c (loopRec n)
  | .sos n _ => sharedAt c (sosRec n)
  | .echo n .. => sharedAt c (Reg.ECHO_Descriptors + 24 * n)
  | .generator n .. => sharedAt c (mpRec n)
  | .task n _ => !c.twin.divTasks.contains n
  | .term n _ => sharedAt c (0x00300000 + 16 * n)
  | .guard n _ => !c.twin.divGuards.contains n
  | .order _ | .flag .. | .entry _ | .value _ => false

/-- The digest of the tick just ended (R403), of which the rim applied `applied`: a sum, so that no order of the words matters. Lane maps,
capture, the recorder, the in-service test and a modem's receive FIFO are not in it (R82, R278, R343, R361). -/
def digestOf (applied : List DigestItem) (c : Chip) : Nat :=
  let l := c.work.map (fun e => DigestItem.word e.1 e.2.val) ++ unitItems c ++ applied
  ((if inMigration c then l.filter (sharedItem c) else l).map Config.digestItem).sum % 2 ^ 128

/-- DIGEST, low word first. -/
def showDigest (applied : List DigestItem) (c : Chip) : Chip :=
  let d := digestOf applied c
  forEach 4 (fun k c => wr32 (Reg.TWIN_DIGEST + 4 * k) (Word.ofNat (d / 2 ^ (32 * k))) c) c

/-- The digest of the last rim. -/
def ownDigest (c : Chip) : Nat :=
  (List.range 4).foldl (fun n k => n + rdN c (Reg.TWIN_DIGEST + 4 * k) * 2 ^ (32 * k)) 0

/-! ### Roles (R395, R396, R399, R411) -/

/-- Local outputs are enabled at their pre-armed values (R406). -/
def takeOutputs (c : Chip) : Chip :=
  let c := { c with outEn := true }
  let c := forEach 32 (fun n c =>
    let p := c.port n
    if p.state = .standby then c.setPort n { p with state := .run } else c) c
  showAxes (forAll (tabKeys c.axes) (fun n c => c.setAx n ((c.ax n).withEn (axEnabled c n))) c)

/-- Local outputs go to standby. -/
def dropOutputs (c : Chip) : Chip :=
  let c := { c with outEn := false }
  let c := forEach 32 (fun n c =>
    let p := c.port n
    if p.state = .run ∧ portStandby c n then c.setPort n { p with state := .standby } else c) c
  showAxes (forAll (tabKeys c.axes) (fun n c => c.setAx n ((c.ax n).withEn (axEnabled c n))) c)

/-- The role changes (R396). A unit in JOINING or RETIRED is in SAFE_IDLE (R421), and one that becomes SOLO, or ACTIVE without having been a
shadow, takes an epoch above every one it has seen (R411). -/
def setRole (new cause ret : Nat) (c : Chip) : Chip :=
  let old := roleCode c
  if old = new then c else
  let c := wrF Reg.TWIN_TWIN_STAT 2 0 new c
  let c := if new = 5 then wrF Reg.TWIN_TWIN_STAT 15 12 ret c else c
  let c := { c with twin := { c.twin with due := none } }
  let c := if new = 1 then
      wrB Reg.TWIN_TWIN_STAT 10 false { c with twin := { c.twin with firstCopy := false, joinAt := nowAt c, syncTicks := 0, vetoed := false, tasks := [] } }
    else if new = 3 then { c with twin := { c.twin with syncTicks := 0, vetoed := false } }
    else c
  let c := if cause = 2 ∨ cause = 3 ∨ cause = 4 ∨ cause = 14 then setEpoch (c.twin.epochSeen + 1) c else c
  let c := if (new = 1 ∨ new = 5) ∧ c.dev = .run then { c with safeCause := some Event.TWIN_ROLE_CHANGE.code } else c
  raiseEv Event.TWIN_ROLE_CHANGE 0 [old, new, cause] c

/-- A role change is due at the next rim. -/
def roleAtRim (new cause ret : Nat) (c : Chip) : Chip := { c with twin := { c.twin with due := some (new, cause, ret) } }

/-- A new owner's servo goes on as the old owner's was (R399). -/
def takeServo (c : Chip) : Chip :=
  let s : TState := match c.twin.tstate with | 0 => .free | 1 => .locking | 2 => .locked | _ => .holdover
  setTime { c.time with state := s, rateNext := rateNow c, i := rateNow c * 65536 } c

/-- What every takeover does: the epoch, the counts and the event; `kind` is 1 fast, 2 degraded or 3 hand-over. -/
def becomeOwner (kind cause : Nat) (c : Chip) : Chip :=
  let c := takeServo (setEpoch (epochOf c + 1) (setRole 2 cause 0 c))
  let c := wr32 Reg.TWIN_LAST_TAKEOVER (Word.ofNat c.tick) (regInc Reg.TWIN_TAKEOVER_COUNT c)
  let decide10 := match c.twin.lastEdge with | some e => if kind = 3 then 0 else (nowAt c - e) * 4 / 10 | none => 0
  let c := wr32 Reg.TWIN_TAKEOVER_STAT (Word.ofNat (kind + 0x10000 * (min 0xFFFF decide10))) c
  let c := { c with twin := { c.twin with
    swapReq := false, handDue := none, vetoed := false,
    framesAt := if kind = 3 then none else some (nowAt c + 250, decide (kind = 2) || inMigration c) } }
  takeOutputs (raiseEv Event.TWIN_TAKEOVER 0 [kind] c)

/-! ### Joining (R415, R416, R429) -/

/-- MIGRATION begins (R429). -/
def startMigration (incoming : Bool) (i : JoinInfo) (c : Chip) : Chip :=
  let c := wr32 Reg.TWIN_MIG_UNITS (Word.ofNat (i.shared % 0x10000 + 0x10000 * i.divergent)) (wrB Reg.TWIN_TWIN_STAT 11 true c)
  let c := wr32 Reg.TWIN_MIG_STAT (Word.ofNat (1 + 8 * incoming.toNat)) { c with twin := { c.twin with divGuards := i.divGuards, divTasks := i.divTasks, divRecs := i.divRecs } }
  raiseEv Event.TWIN_MIG_START 0 [] c

/-- MIGRATION ends (R433). -/
def endMigration (c : Chip) : Chip :=
  wr32 Reg.TWIN_MIG_STAT 0 (wrB Reg.TWIN_TWIN_STAT 11 false
    { c with twin := { c.twin with watchEnd := none, divGuards := [], divTasks := [], divRecs := [] } })

/-- The conditions of R429 for different packages. -/
def mayMigrate (c : Chip) (i : JoinInfo) : Bool := rdB c Reg.TWIN_MIG_CTL 0 && i.allow && i.oneSlot && i.basics

/-- The partner's leads, exchanged over the TWIN link: both units use the larger of their two leads (R307). -/
def takeLeads (i : JoinInfo) (c : Chip) : Chip :=
  forEach 8 (fun p c =>
    let x := (i.leads[p]?).getD 0
    let c := c.setWl p { c.wl p with partner := x }
    if wlRuns c p ∧ rdF c (wb p + 8) 15 0 < x then
      let c := wrF (wb p + 8) 15 0 x c
      wr32 (wb p + 12) (Word.ofNat (turnOff c p + 0x10000 * fsOff c p)) c
    else c) c

/-- What a unit learns of its partner at the join: the delays, the glint's being half of a marker pulse's round trip, and the leads (R307, R398,
R415). -/
def takePeer (i : JoinInfo) (role : Nat) (c : Chip) : Chip :=
  let c := wr32 Reg.TWIN_DELAYS (Word.ofNat (i.linkDelay % 0x10000 + 0x10000 * (i.glintTrip / 2))) (setPartner role c)
  takeLeads i { c with twin := { c.twin with peer := some i } }

/-- The joining unit meets an owner (steps 2 to 5 of R415). -/
def joinOwner (i : JoinInfo) (c : Chip) : Chip :=
  let c := takePeer i i.role c
  let c := { c with twin := { c.twin with firstCopy := false, joinAt := nowAt c, searching := false } }
  let c := if i.equal then (if inMigration c then endMigration c else c) else if mayMigrate c i then startMigration true i c
    else roleAtRim 5 12 5 c
  forEach 8 linkStart c

/-- An owner meets a joining partner. -/
def meetJoiner (i : JoinInfo) (c : Chip) : Chip :=
  let c := takePeer i 1 c
  let c := if i.equal then (if inMigration c then endMigration c else c) else if mayMigrate c i then startMigration false i c else c
  if roleCode c = 0 then roleAtRim 2 4 0 c else c

/-- Both units are JOINING: the one strapped A becomes ACTIVE, and the one strapped B joins it (R416). -/
def meetSearcher (i : JoinInfo) (c : Chip) : Chip :=
  if strapB c then joinOwner i c
  else roleAtRim 2 2 0 (takePeer i 1 { c with twin := { c.twin with searching := false } })

/-- The TWIN link returns to lock, the partner being found in a role (R396, R415, R416). -/
def twinLinkLock (i : JoinInfo) (c : Chip) : Chip :=
  if ¬ pairEn c then c else
  let c := setPartner i.role (wrB Reg.TWIN_TWIN_STAT 5 true c)
  if roleCode c = 4 then roleAtRim 1 10 0 (joinOwner i c)
  else if roleCode c = 1 ∧ (i.role = 0 ∨ i.role = 2) then joinOwner i c
  else if roleCode c = 1 ∧ i.role = 1 then meetSearcher i c
  else if ownsOutputs c ∧ i.role = 1 then meetJoiner i c
  else { c with twin := { c.twin with peer := some i } }

/-- The start-up search ends (R416): with a partner found on the link, or after JOIN_WAIT with neither path up, whether or not the partner's
witness has been seen. -/
def joinWait (r : SearchResult) (c : Chip) : Chip :=
  if roleCode c ≠ 1 ∨ ¬ pairEn c ∨ ¬ c.twin.searching then c else
  let over' := decide (c.twin.joinAt + 2500000 * rdF c Reg.TWIN_TWIN_CFG 15 8 ≤ nowAt c) && !glintIn c && !linkUp c
  let d := { c with twin := { c.twin with searching := false } }
  match r with
  | .owner i => if linkUp c then joinOwner i d else c
  | .joining i => if linkUp c then meetSearcher i d else c
  | .nothing => if over' ∧ c.twin.lastWit = none then roleAtRim 0 3 0 d else c
  | .witnessOnly => if over' ∧ c.twin.lastWit ≠ none then raiseEv Event.TWIN_PAIR_WAIT 0 [partnerRole c] d else c

/-- The windows that the state copy carries (R415). -/
def copyWindow (a : Nat) : Bool := decide (0x00100000 ≤ a) && decide (a < 0x00B00000)

/-- A pass of the state copy is applied (R415). -/
def applyCopy (s : StateCopy) (c : Chip) : Chip :=
  let c := forAll (s.mem.filter (fun e => copyWindow e.1)) (fun e c => wr8 e.1 e.2 c) c
  let c := { c with settled := s.board.foldl (fun t e => tabIns e.1 ⟨e.2.1, e.2.2⟩ t) c.settled }
  let c := forAll s.loops (fun e c => c.setLoop e.1 e.2) (forAll s.sos (fun e c => c.setSect e.1 e.2) c)
  let c := forAll s.echoes (fun e c => c.setEcho e.1 e.2) (forAll s.tasks (fun e c => c.setTask e.1 e.2) c)
  let c := forAll s.mps (fun e c => c.setMp e.1 e.2) (forAll s.axes (fun e c => c.setAx e.1 e.2) c)
  let c := setEpoch s.epoch (forAll s.flags (fun e c => c.setFlag e.1 e.2) c)
  let put (l : List (Nat × Bool)) (t : Tab Bool) : Tab Bool := l.foldl (fun t e => tabPut (fun _ => false) t e.1 e.2) t
  let c := { c with
    tripped := put s.guards c.tripped, termOn := put s.terms c.termOn, condOn := put s.conds c.condOn,
    ages := s.ages.foldl (fun t e => tabIns e.1 e.2 t) c.ages, nextStamp := s.stamp,
    bankActive := s.active, bank0 := s.bank0, bank1 := s.bank1, check := none, twin := { c.twin with firstCopy := true } }
  showBanks c

/-- A rim's digest matches at the joining unit, and it becomes SHADOW (R415); the owner sees its partner in SHADOW. -/
def joinComplete (digest : Nat) (c : Chip) : Chip :=
  let c := atPhase (rimPhase c) c
  if roleCode c = 1 then
    if c.twin.firstCopy ∧ linkUp c ∧ digest = ownDigest c then wrB Reg.TWIN_TWIN_STAT 10 true (setRole 3 1 0 c) else c
  else if roleCode c = 2 ∧ partnerRole c = 1 then
    shareResume (wrB Reg.TWIN_TWIN_STAT 10 true (setPartner 3 { c with twin := { c.twin with syncTicks := 0 } }))
  else c

/-- A join has not matched within 1 s (R415). -/
def joinSlow (c : Chip) : Chip :=
  if roleCode c = 1 ∧ linkUp c ∧ c.twin.joinAt + 250000000 ≤ nowAt c then
    raiseEv Event.TWIN_JOIN_SLOW 0 [partnerRole c] { c with twin := { c.twin with firstCopy := false, joinAt := nowAt c } }
  else c

/-! ### Glint, link and witness (R397, R398, R408, R409) -/

/-- The unit sends a glint pulse, at every multiple of 500 CK_TIME cycles after each PTP second (R397). -/
def glintPulse (c : Chip) : Chip :=
  if pairEn c ∧ (1 ≤ roleCode c ∧ roleCode c ≤ 4) ∧ secondCycles c % 500 = 0 then emit .glint c else c

/-- Both paths to the partner are lost: an owner reports its partner lost, and a unit that had not been copied goes on alone. -/
def bothLost (c : Chip) : Chip :=
  if glintIn c ∨ linkUp c then c
  else if ownsOutputs c then
    if partnerRole c = 6 then c
    else
      let was := partnerRole c
      wrB Reg.TWIN_TWIN_STAT 10 false (setPartner 6 (raiseEv Event.TWIN_PARTNER_LOST 0 [was] c))
  else if roleCode c = 1 ∧ ¬ c.twin.firstCopy ∧ ¬ c.twin.searching then roleAtRim 0 14 0 c
  else c

/-- No glint edge for 6.0 µs; the last came at an instant of a tick (R397). -/
def glintLost (tick phase : Nat) (c : Chip) : Chip :=
  if ¬ pairEn c ∨ ¬ glintIn c then c else
  let c := { c with twin := { c.twin with lastEdge := some (instant c tick phase) } }
  let c := wrF Reg.TWIN_GLINT_STAT 31 16 (min 0xFFFF (rdF c Reg.TWIN_GLINT_STAT 31 16 + 3)) (wrB Reg.TWIN_TWIN_STAT 4 false c)
  if linkUp c then
    if c.twin.glintEp then c
    else raiseEv Event.TWIN_GLINT_FAULT 0 [(ownsOutputs c).toNat] { c with twin := { c.twin with glintEp := true } }
  else bothLost c

/-- A glint edge of the partner is received (R398); the edges missed since the last one count, three of them at the loss. -/
def glintPresent (tick phase : Nat) (c : Chip) : Chip :=
  if ¬ pairEn c then c else
  let missed := match c.twin.lastEdge with
    | some e => (instant c tick phase - e + 250) / 500 - 1 - (if glintIn c then 0 else 3)
    | none => 0
  let c := wrF Reg.TWIN_GLINT_STAT 31 16 (min 0xFFFF (rdF c Reg.TWIN_GLINT_STAT 31 16 + missed)) c
  wrB Reg.TWIN_TWIN_STAT 4 true { c with twin := { c.twin with glintEp := false, lastEdge := some (instant c tick phase) } }

/-- The phase error at a tick start steers the time base, by the partner's glint or by the transmit times of link frames; in JOINING once the
partner's delays are known (R398, R415). -/
def steerByGlint (skew : Int) (c : Chip) : Chip :=
  if pairEn c ∧ (glintIn c ∨ linkUp c) ∧ ((roleCode c = 1 ∧ c.twin.peer.isSome) ∨ roleCode c = 3 ∨ roleCode c = 4) then
    { wrF Reg.TWIN_GLINT_STAT 15 0 (unsx 16 skew) c with time := { c.time with rateNext := Config.glintRate (rateNow c) skew } }
  else c

/-- WITNESS_SEND (R408). -/
def witnessSend (c : Chip) : Chip :=
  let c := atPhase 50 c
  if ¬ pairEn c ∨ ¬ rdB c Reg.TWIN_TWIN_CFG 1 ∨ roleCode c = 5 ∨ ¬ macSet c ∨ ¬ netUp c then c else
  let edge := match c.twin.lastEdge with
    | some e => (ptpNs c + 0x100000000 - (nowAt c - e) * 4 % 0x100000000) % 0x100000000
    | none => 0
  let r := takeRct c
  let dst := rdF c (Reg.TWIN_PARTNER_MAC + 4) 15 0 * 0x100000000 + rdF c Reg.TWIN_PARTNER_MAC 31 0
  txAsk (portsUp r.2) 1 90 (.witness dst ⟨1, roleCode c, strapB c, glintIn c, linkUp c, decide (c.dev = .safeIdle), ownsOutputs c,
    rdF c Reg.TWIN_TWIN_CFG 31 16, c.tick, epochOf c, edge⟩ r.1) r.2

/-- The unit yields (R409). -/
def yieldOutputs (c : Chip) : Chip := dropOutputs (setRole 5 11 3 (raiseEv Event.TWIN_DUAL_OWNER 0 [] c))

/-- A witness frame from the partner (R408, R409). -/
def witnessFrame (f : WitnessMsg) (ph : Nat) (c : Chip) : Chip :=
  let c := atPhase ph c
  if ¬ pairEn c ∨ f.ver ≠ 1 ∨ f.pairId ≠ rdF c Reg.TWIN_TWIN_CFG 31 16 then c else
  let t := c.twin
  let c := seeEpoch f.epoch (setPartner f.role { c with twin := { t with
    lastWit := some f.seq, witSeen := t.witSeen || decide (f.seq = c.tick), witEp := false } })
  if ownsOutputs c ∧ f.owner ∧ (epochHigher f.epoch (epochOf c) ∨ (f.epoch = epochOf c ∧ strapB c)) then yieldOutputs c else c

/-- The partner's witness has been absent on 4 consecutive ticks (R397). -/
def witnessLost (c : Chip) : Chip :=
  if pairEn c ∧ rdB c Reg.TWIN_TWIN_CFG 1 ∧ 4 ≤ c.twin.witMiss ∧ ¬ c.twin.witEp then
    raiseEv Event.TWIN_WITNESS_LOST 0 [partnerRole c] { c with twin := { c.twin with witEp := true } }
  else c

/-! ### Takeovers (R406–R410) -/

/-- Whether the partner's latest witness vetoes a takeover: it was sent at or after the instant at which the first missed edge was due. -/
def vetoes (c : Chip) : Bool :=
  rdB c Reg.TWIN_TWIN_CFG 1 && (match c.twin.lastWit, c.twin.lastEdge with
    | some s, some e => decide (e + 500 ≤ instant c s 50)
    | _, _ => false)

/-- The decision instant of R406 at a shadow. -/
def takeover (ph : Nat) (c : Chip) : Chip :=
  let c := atPhase ph c
  if roleCode c ≠ 3 ∨ glintIn c ∨ linkUp c then c
  else if vetoes c then
    if c.twin.vetoed then c
    else roleAtRim 4 8 0 (raiseEv Event.TWIN_WITNESS_VETO 0 [] { c with twin := { c.twin with vetoed := true } })
  else becomeOwner 1 5 (setPartner 6 c)

/-- A loop at a degraded takeover restarts from what its pre-armed stage measures (R410). -/
def restartLoop (outs : List (Nat × Int)) (n : Nat) (c : Chip) : Chip :=
  let l := c.loop n
  if l.mode = .off then c else
  let l := match outs.find? (fun e => decide (e.1 = n)) with
    | some e => { l with out := e.2, atSafe := false }
    | none => l
  changeMode n l.mode 3 (c.setLoop n l)

/-- Tasks resume from the contexts of the last part S; a task that was RUNNING becomes READY at its step pointer (R410). -/
def resumeTasks (c : Chip) : Chip :=
  let c := forAll c.twin.tasks (fun e c => c.setTask e.1 { c.task e.1 with pc := e.2.1, state := e.2.2 }) c
  forAll (tabKeys c.tasks) (fun t c => if (c.task t).state = .running then makeReady (rimCycle c) t c else c) c

/-- A degraded takeover (R410), with the outputs that the unit's own stages measure, by loop. -/
def degradedTakeover (outs : List (Nat × Int)) (ph : Nat) (c : Chip) : Chip :=
  let c := atPhase ph c
  let may := decide (roleCode c = 4) || (decide (roleCode c = 1) && c.twin.firstCopy)
  let lost := !glintIn c && !linkUp c
  let wit := !vetoes c || decide (3 ≤ c.twin.witMiss)
  if ¬ (may && lost && wit) then c else
  let moving := c.twin.moving
  let c := becomeOwner 2 6 (setPartner 6 c)
  let c := resumeTasks (forAll (tabKeys c.loops) (restartLoop outs) c)
  let c := forEach 128 (fun n c => mpRestarted n false c) c
  forAll moving (fun n c => c.setMp n { c.mp n with homed := false }) c

/-- The TWIN link is lost (R397, R401). The writes that await an acknowledgement are for the caller to accept. -/
def twinLinkLost (ph : Nat) (c : Chip) : Chip :=
  let c := atPhase ph c
  if ¬ pairEn c ∨ ¬ linkUp c then c else
  let c := raiseEv Event.TWIN_TWIN_LINK_DOWN 0 [partnerRole c] (wrB Reg.TWIN_TWIN_STAT 5 false c)
  if roleCode c = 3 then if glintIn c then roleAtRim 4 8 0 c else c
  else if roleCode c = 2 ∧ partnerRole c = 3 ∧ glintIn c then wrB Reg.TWIN_TWIN_STAT 10 false (setPartner 4 c)
  else bothLost c

/-! ### Hand-overs and swaps (R412, R414, R432) -/

/-- The owner hands over: both units switch at the first P_OUT at least 2 µs later. -/
def handOver (back : Bool) (c : Chip) : Chip :=
  if hasShadow c ∧ linkUp c ∧ c.twin.handDue.isNone then
    emit (.handoff c.tick c.phase) { c with twin := { c.twin with handDue := some (nowAt c + 500), handBack := back } }
  else c

/-- A HANDOFF message, sent at a phase of this tick, arrives. -/
def handoff (sent : Nat) (c : Chip) : Chip :=
  if roleCode c = 3 ∧ linkUp c then { c with twin := { c.twin with handDue := some (instant c c.tick sent + 500) } } else c

/-- The agreed P_OUT. -/
def handoffSwitch (c : Chip) : Chip :=
  let c := atPhase (pOutPhase c) c
  match c.twin.handDue with
  | none => c
  | some d =>
    if nowAt c < d then c
    else if roleCode c = 3 then becomeOwner 3 5 (setPartner (if inMigration c then 3 else 5) c)
    else if roleCode c = 2 then
      let back := c.twin.handBack
      let c := { c with twin := { c.twin with handDue := none, handBack := false } }
      if back then dropOutputs (setPartner 2 (setEpoch (epochOf c + 1) (setRole 3 15 0 c)))
      else dropOutputs (setPartner 2 (setRole 5 11 6 c))
    else c

/-- A quiet point (R414): no guard is tripped, no generator moves, no controller is CLEARING and every live task waits at a QUIET step. -/
def quietPoint (c : Chip) : Bool :=
  c.tripped.all (fun (e : Nat × Bool) => !e.2) && (tabKeys c.mps).all (fun n => decide ((c.mp n).vel = 0))
    && (tabKeys c.echoes).all (fun n => decide ((c.echoOf n).state ≠ .clearing)) && tasksQuiet c

/-- FB_HOLD seconds in sync form a fail-back request at an owner strapped B (R414); not in MIGRATION (R431). -/
def failbackRequest (c : Chip) : Chip :=
  if rdB c Reg.TWIN_TWIN_CFG 2 ∧ strapB c ∧ hasShadow c ∧ inSync c ∧ ¬ inMigration c
      ∧ rdF c Reg.TWIN_FB_HOLD 11 0 * rdF c Reg.TICK_TICKS_PER_SEC 16 0 ≤ c.twin.syncTicks then
    { c with twin := { c.twin with swapReq := true } }
  else c

/-- A planned swap in MIGRATION by which the unit with the incoming package becomes ACTIVE: its watch runs (R432). -/
def startWatch (c : Chip) : Chip :=
  if inMigration c ∧ rdB c Reg.TWIN_MIG_STAT 3 = decide (roleCode c = 2) then
    wrF Reg.TWIN_MIG_STAT 2 0 2 { c with twin := { c.twin with
      watchEnd := if roleCode c = 2 then some (c.opSec + rdF c Reg.TWIN_MIG_CTL 27 16) else none } }
  else c

/-- The roles swap at a quiet point (R414). -/
def failback (c : Chip) : Chip :=
  let c := atPhase (rimPhase c) c
  if ¬ quietPoint c ∨ ¬ linkUp c then c
  else if hasShadow c ∧ c.twin.swapReq then
    let c := raiseEv Event.TWIN_FAILBACK 0 [partnerRole c] { c with twin := { c.twin with swapReq := false, syncTicks := 0 } }
    startWatch (setPartner 2 (setEpoch (epochOf c + 1) (setRole 3 7 0 c)))
  else if roleCode c = 3 ∧ inSync c then
    let c := raiseEv Event.TWIN_FAILBACK 0 [partnerRole c] c
    startWatch (takeServo (setPartner 3 (setEpoch (epochOf c + 1) (setRole 2 7 0 c))))
  else c

/-- The migration watch has ended (R432). -/
def migDone (c : Chip) : Chip :=
  match c.twin.watchEnd with
  | some e =>
    if e ≤ c.opSec ∧ roleCode c = 2 then
      raiseEv Event.TWIN_MIG_DONE 0 [] (wrF Reg.TWIN_MIG_STAT 2 0 4 { c with twin := { c.twin with watchEnd := none } })
    else c
  | none => c

/-- Whether the tick raised one of R432's events. -/
def migFault (c : Chip) : Bool :=
  c.ring.entries.any (fun e => decide (e.tick = c.tick) && (decide (e.code = Event.WEAVE_OVERRUN_SAFE.code)
    || (decide (e.code = Event.SYS_DIE_LINK.code) && decide (e.p1 = 2)) || decide (e.code = Event.TASK_TASK_FAULT.code)
    || (decide (e.code = Event.GUARD_GUARD_TRIP.code) && c.twin.divGuards.contains e.inst)))

/-- A qualifying fault in the watch: the new owner hands back where it can (R432). -/
def migFallback (c : Chip) : Chip :=
  if roleCode c = 2 ∧ c.twin.watchEnd.isSome ∧ migFault c then
    let can := hasShadow c && inSync c && linkUp c
    let c := { c with twin := { c.twin with watchEnd := none } }
    if can then raiseEv Event.TWIN_MIG_FALLBACK 0 [0, 0] (handOver true (wrF Reg.TWIN_MIG_STAT 2 0 3 c))
    else raiseEv Event.TWIN_MIG_FALLBACK 0 [0, 1] c
  else c

/-- The commands of CMD and MIG_CTL at the rim (R414, R416, R418, R432, R433). -/
def twinCmd (bits : Word) (c : Chip) : Chip :=
  let c := if wbit bits 0 ∧ hasShadow c then { c with twin := { c.twin with swapReq := true } } else c
  let c := if wbit bits 1 ∧ roleCode c = 5 ∧ pairEn c then
      let c := setRole 1 13 0 c
      match c.twin.peer with | some i => if linkUp c ∧ (i.role = 0 ∨ i.role = 2) then joinOwner i c else c | none => c
    else c
  let c := if wbit bits 2 ∧ roleCode c ≠ 0 ∧ roleCode c ≠ 5 then setRole 5 12 4 c else c
  if wbit bits 3 ∧ roleCode c = 1 then setRole 0 3 0 c else c
def migCmd (bits : Word) (c : Chip) : Chip :=
  let c := if wbit bits 1 ∧ inMigration c ∧ hasShadow c then { c with twin := { c.twin with swapReq := true } } else c
  if wbit bits 2 ∧ inMigration c then
    let c := endMigration c
    if roleCode c = 3 then setRole 5 12 4 c else c
  else c

/-! ### The mirror image (R400–R405) -/

/-- Bytes of a part (Table 4 of R400). -/
def partBytes : MirrorPart → Nat
  | .inputs .. => 1280 | .returns _ => 160 | .edges l => 8 * l.length | .entry _ => 40 | .tasks l => 8 * l.length | .digest _ => 16
  | .copy _ => 0

/-- The cross-check of one input, an analogue average or a port current measured on the shared terminal (R405), and the owner's word in place of
the own one. -/
def mirrorInput (e : Nat × Word × Bool) (c : Chip) : Chip :=
  let own := boardNow c e.1
  let judged := decide (e.1 < 0x0040) || (decide (0x00D0 ≤ e.1 ∧ e.1 < 0x00F0) && prShared c.drvMem (e.1 - 0x00D0))
  let differs := own.valid && e.2.2 && decide (((rdI c Reg.TWIN_XCHK_TOL).toNat : Int) < (own.val.toInt - e.2.1.toInt).natAbs)
  let t := c.twin
  let c := if judged then { c with twin := { t with
      xchk := tabPut (fun _ => 0) t.xchk e.1 (if differs then tabGet (fun _ => 0) t.xchk e.1 + 1 else 0),
      xchkEp := if differs then t.xchkEp else tabDel t.xchkEp e.1 } } else c
  if e.1 < 0x150 then boardWr 2500 e.1 e.2.1 e.2.2 c else c

/-- A cross-checked input has differed on 64 consecutive ticks (R405). -/
def xcheckDiff (sig : Nat) (c : Chip) : Chip :=
  let c := atPhase 625 c
  let t := c.twin
  if 64 ≤ tabGet (fun _ => 0) t.xchk sig ∧ ¬ tabGet (fun _ => false) t.xchkEp sig then
    raiseEv Event.TWIN_XCHECK_DIFF sig [sig] { c with twin := { t with xchkEp := tabIns sig true t.xchkEp } }
  else c

/-- The shadow resynchronises (R403, R404); cause 0 mismatch, 1 gap. -/
def mismatch (theirs cause : Nat) (c : Chip) : Chip :=
  let own := ownDigest c
  let c := raiseEv Event.TWIN_DIGEST_MISMATCH 0 [theirs % 2 ^ 32, own % 2 ^ 32, cause] (wrB Reg.TWIN_TWIN_STAT 10 false c)
  let c := regInc Reg.TWIN_RESYNC_COUNT c
  if cause ≠ 0 then roleAtRim 1 9 0 c
  else
    let l := c.twin.mism.filter (fun t => decide (c.opSec ≤ t + 600)) ++ [c.opSec]
    let c := regInc Reg.TWIN_MISMATCH_COUNT { c with twin := { c.twin with mism := l } }
    if 3 ≤ l.length then roleAtRim 5 12 1 (raiseEv Event.TWIN_SHADOW_RETIRED 0 [] c) else roleAtRim 1 9 0 c

/-- A gap of the mirror image (R403): part I or L late, part X incomplete, or a return missing that the owner has accepted. Its digest of the
owner is the last that part D gave (DESIGN CHOICE, log entry 41). -/
def mirrorGap (c : Chip) : Chip :=
  if roleCode c = 3 ∧ linkUp c ∧ c.twin.due.isNone then mismatch c.twin.theirs 1 c else c

/-- Part L for one port (R402): the shadow drops its own return where the owner lost it, and a position where the owner saw none fresh; it
meets a gap where it lacks one that the owner accepted. -/
def mirrorReturn (e : Nat × Bool × List Bool) (c : Chip) : Chip :=
  let p := e.1
  let drop (lo n : Nat) (c : Chip) : Chip := { c with work := c.work.filter (fun w => decide (w.1 < lo) || decide (lo + n ≤ w.1)) }
  let head (k : Nat) : HeadSt := ((c.wl p).heads[k]?).getD {}
  let n := (c.wl p).heads.length
  let dropHead (k : Nat) (c : Chip) : Chip := drop (inSig c.mem p + (head k).inOff) (head k).inLen c
  if ¬ wlRuns c p then c
  else if ¬ e.2.1 then forEach n dropHead c
  else
    let c := forEach n (fun k c => if (e.2.2[k]?).getD true then c else dropHead k c) c
    if (c.wl p).retEp then mirrorGap c else c

/-- Part W but for host writes and packages: what the owner says of a subscribe group's frame (R402). -/
def mirrorFrame (e : MirrorEntry) (c : Chip) : Chip :=
  match e with
  | .frameCrc h same => if same then c else c.setSub h { c.sub h with kept := none }
  | .frameWords h epoch words => c.setSub h { c.sub h with kept := some (epoch, words) }
  | .write .. => c
  | .package _ => c

/-- A part of the mirror image arrives, but for host writes (R400). -/
def mirrorPart (x : MirrorPart) (c : Chip) : Chip :=
  if ¬ linkUp c ∨ (roleCode c ≠ 3 ∧ roleCode c ≠ 1) then c else
  let c := { c with twin := { c.twin with bytes := c.twin.bytes + partBytes x } }
  match x with
  | .inputs words run ts offs =>
    let c := if 625 < c.phase then mirrorGap c else c
    let c := forAll words mirrorInput { c with twin := { c.twin with devNext := some run, tstate := ts % 4, gotI := true } }
    let c := forAll offs (fun e c => c.setAx e.1 { c.ax e.1 with offs := e.2 }) c
    if roleCode c = 3 then wrF Reg.TIME_TIME_STAT 1 0 (ts % 4) c else c
  | .returns l =>
    let c := if 875 < c.phase then mirrorGap c else c
    forAll l mirrorReturn { c with twin := { c.twin with gotL := true } }
  | .edges l =>
    let c := if pOutPhase c < c.phase + 150 then mirrorGap c else c
    forAll l (fun e c => if e.1 < 144 then rawEdge e.1 e.2.1 c.tick e.2.2 c else c) c
  | .entry e => mirrorFrame e c
  | .tasks l => { c with twin := { c.twin with tasks := l ++ c.twin.tasks.filter (fun e => !l.any (fun x => decide (x.1 = e.1))) } }
  | .digest d =>
    let c := { c with twin := { c.twin with theirs := d } }
    if roleCode c = 3 ∧ c.twin.due.isNone then
      if d = ownDigest c then wrB Reg.TWIN_TWIN_STAT 10 true c else mismatch d 0 c
    else c
  | .copy s => if roleCode c = 1 then applyCopy s c else c

/-- What an owner with a partner in JOINING or SHADOW sends it. -/
def sendMirror (x : MirrorPart) (c : Chip) : Chip :=
  if roleCode c = 2 ∧ linkUp c ∧ (partnerRole c = 1 ∨ partnerRole c = 3) then
    emit (.mirror x) { c with twin := { c.twin with bytes := c.twin.bytes + partBytes x } }
  else c

/-! ### The rim -/

/-- Twin supervision at the rim: due role changes, the witness counts, the digest and the time in sync (R396, R397, R403, R408, R414). -/
def twinRim (applied : List DigestItem) (c : Chip) : Chip :=
  let c := match c.twin.due with | some d => setRole d.1 d.2.1 d.2.2 c | none => c
  let t := c.twin
  let wit := pairEn c && rdB c Reg.TWIN_TWIN_CFG 1
  let c := if wit ∧ ¬ t.witSeen then regInc Reg.TWIN_WIT_LOST_COUNT c else c
  let t := if ¬ wit then { t with witRun := 0, witMiss := 0, witSeen := false }
    else if t.witSeen then { t with witRun := min 4 (t.witRun + 1), witMiss := 0, witSeen := false }
    else { t with witRun := 0, witMiss := min 4 (t.witMiss + 1), witSeen := false }
  let live := inSync c && (hasShadow c || decide (roleCode c = 3))
  let t := { t with
    syncTicks := if live then t.syncTicks + 1 else 0, swapReq := t.swapReq && hasShadow c,
    moving := if roleCode c = 3 then (tabKeys c.mps).filter (fun n => decide (n < 32) && decide ((c.mp n).vel ≠ 0)) else t.moving }
  let c := wr32 Reg.TWIN_MIRROR_STAT (Word.ofNat (t.bytes % 0x10000)) { c with twin := { t with bytes := 0 } }
  showTwin (showDigest applied c)

/-- With PAIR_EN = 0 the unit is SOLO (R416). -/
def twinEffects (c : Chip) : Chip := if pairEn c then c else setRole 0 3 0 c

/-- Whether a TWIN COMMIT breaks a rule of R418 or R424: `m` is the memory it would leave. -/
def twinBreach (c : Chip) (m : Tab Byte) : Bool :=
  let fb := mF m Reg.TWIN_FB_HOLD 11 0
  let pe := mB m Reg.TWIN_TWIN_CFG 0
  decide (fb < 10) || decide (3600 < fb) || decide (mF m Reg.TWIN_TWIN_CFG 15 8 = 0)
    || (pe != pairEn c && (decide (c.dev ≠ .safeIdle) || (pe && decide (rdF c Reg.SEC_LC_STAT 2 0 ≠ 2))))

end Sys2Proof.Machine
end

