-- ==== Sys2Proof/Machine/Commit.lean ====
section
/-!
DEFINITION. Machine/Commit.lean: staging, the COMMIT of a page (R9, R22–R25, R44, R462, R510), and what the rim does with a COMMIT that it
applies and with the control-plane entries (R20, R25, R167).
-/
namespace Sys2Proof.Machine

open Sys2Proof

/-! ### Values and entries (R18, R460) -/

/-- The fields of a register. -/
def rowFields (a : Nat) : List FieldDef := (findRow a).elim [] (·.fields)

/-- The bits of some fields of a register. -/
def fieldsMask (l : List FieldDef) : Word := l.foldl (fun w f => w ||| fieldMask f.hi f.lo) 0

/-- Whether an offset lies in a table window. -/
def inWindow (a : Nat) : Bool := (windowOfAddr a).isSome

/-- A memory with one pending value applied. -/
def applyItem (m : Tab Byte) (i : PendItem) : Tab Byte := if i.cmd then m else memPut32 m i.addr (merge i.mask (mrd32 m i.addr) i.val)

/-- A memory with pending values applied in the order written. -/
def applyItems (l : List PendItem) (m : Tab Byte) : Tab Byte := l.foldl applyItem m

/-- The DWORDs that values, not commands, write. -/
def valueAddrs (l : List PendItem) : List Nat := ((l.filter (fun i => !i.cmd)).map (·.addr)).eraseDups

/-- The bits that values write at a DWORD. -/
def valueMask (l : List PendItem) (a : Nat) : Word :=
  (l.filter (fun i => !i.cmd && decide (i.addr = a))).foldl (fun w i => w ||| i.mask) 0

/-- The entries of a register's values: one for each field of a single register, one for each DWORD of an array. -/
def regEntries (a : Nat) (mask : Word) : Nat :=
  match findRow a with
  | some r =>
    if r.count = 1 ∧ ¬ (0xD200 ≤ a ∧ a < 0xD800) then
      (r.fields.filter (fun f => (decide (f.acc = .rws) || decide (f.acc = .w1s)) && decide (fieldMask f.hi f.lo &&& mask ≠ 0))).length
    else 1
  | none => 1

/-- The entries that pending items take: one for each 32-byte block of a window, for each field of a register and for each command. -/
def entryCount (l : List PendItem) : Nat :=
  let win := (l.filter (fun i => inWindow i.addr)).map (fun i => i.addr / 32)
  let regs := (valueAddrs l).filter (fun a => !inWindow a)
  win.eraseDups.length + (regs.map (fun a => regEntries a (valueMask l a))).sum
    + (l.filter (fun i => i.cmd && !inWindow i.addr)).length

/-- The units of a table whose records some of the DWORDs `w` lie in. -/
def unitsIn (w : List Nat) (base stride count : Nat) : List Nat :=
  ((w.filter (fun a => decide (base ≤ a) && decide (a < base + stride * count))).map (fun a => (a - base) / stride)).eraseDups

/-! ### The writable bits of the windows (R7, R101, R103, R127, R128, R218) -/

/-- The bits of the loop record that a write may change, by offset; CLR_STATE is a command. -/
def loopMask (o : Nat) : Word :=
  match o with
  | 0x000 => 0x003FF7FF | 0x004 => 0x00001FFF | 0x008 => 0x00003FFF | 0x00C => 0x07FF7FFF | 0x010 => 0x00001F7F
  | 0x014 => 0x3FFF3FFF | 0x018 => 0x3FFF3FFF | 0x01C => 0 | 0x03C => 0 | 0x058 => 0 | 0x05C => 0 | 0x078 => 0 | 0x07C => 0
  | 0x090 => 0 | 0x094 => 0 | 0x098 => 0 | 0x09C => 0 | 0x0B8 => 0 | 0x0BC => 0
  | 0x0C0 => 0x00000037 | 0x0C4 => 0x0000FFFF | 0x0C8 => 0xFF07FFFF | 0x0CC => 0x00003FFF | 0x0D4 => 0 | 0x0D8 => 0 | 0x0DC => 0
  | _ => if 0xE0 ≤ o then 0 else 0xFFFFFFFF

/-- The bits of an SOS record; CLR_STATE is a command. -/
def sosMask (o : Nat) : Word := if o < 0x14 then 0xFFFFFFFF else if o = 0x14 then 1 else 0

/-- The bits of a term; TYPE and SIGNAL are checked at the COMMIT. -/
def termMask (o : Nat) : Word := if o = 0 then 0x003FFF3F else 0xFFFFFFFF

/-- The bits of a guard record. -/
def guardMask (o : Nat) : Word :=
  match o with
  | 0x10 => 0xFFFF0F77 | 0x14 => 0x0FFF07FF | 0x18 => 0x0000FF7F | 0x1C => 0
  | _ => if o < 0x10 then 0x3FFF3FFF else if o < 0x30 then 0xFFFFFFFF else 0

/-- The bits of a profile record. -/
def profileMask (o : Nat) : Word :=
  match o with
  | 0x00 => 0x0000003F | 0x2C => 0x00003FFF | 0x34 => 0x00007FFF | _ => 0xFFFFFFFF

/-- The bits of a window's DWORD that a write changes. Recipe steps, microstep entries and strands keep their reserved bits, which the step
engines, R253 and the weave check judge. -/
def windowMask (a : Nat) : Word :=
  match windowOfAddr a with
  | some .loops => loopMask ((a - loopRec 0) % 256)
  | some .sos => sosMask ((a - sosRec 0) % 32)
  | some .terms => termMask ((a - termRec 0) % 16)
  | some .guards => guardMask ((a - guardRec 0) % 64)
  | some .profiles => profileMask ((a - mpRec 0) % 64)
  | some .board => 0
  | some _ => 0xFFFFFFFF
  | none => 0

/-- The commands that a window's DWORD carries: CLR_STATE of a loop record and of an SOS record. -/
def windowCmds (a : Nat) : Word :=
  match windowOfAddr a with
  | some .loops => if (a - loopRec 0) % 256 = 0xC0 then 0x40 else 0
  | some .sos => if (a - sosRec 0) % 32 = 0x14 then 2 else 0
  | _ => 0

/-- The fields of a register that hold configuration: RW and RWS. -/
def configMask (a : Nat) : Word :=
  fieldsMask ((rowFields a).filter (fun f => decide (f.acc = .rw) || decide (f.acc = .rws)))

/-! ### Pending values of a page (R462) -/

/-- A page's pending values. -/
def pendOf (c : Chip) (p : Page) : List PendItem := tabGet (fun _ => []) c.pend (pageIndex p)

/-- STAGED and QUEUED of COMMIT_STAT. -/
def showCommit (p : Page) (c : Chip) : Chip :=
  let a := pageBase p + Reg.HDR_COMMIT_STAT
  wrF a 23 12 (entryCount (pendOf c p)) (wrF a 31 24 (c.mqueue.filter (fun k => decide (k.page = p))).length c)

/-- Replace a page's pending values. -/
def setPend (p : Page) (l : List PendItem) (c : Chip) : Chip :=
  showCommit p { c with pend := tabPut (fun _ => []) c.pend (pageIndex p) l }

/-- Stage one value or command. -/
def stageItem (p : Page) (i : PendItem) (c : Chip) : Chip := setPend p (pendOf c p ++ [i]) c

/-- STATE of COMMIT_STAT, with DEFERRED. -/
def setCommitState (p : Page) (state : Nat) (deferred : Bool) (c : Chip) : Chip :=
  let a := pageBase p + Reg.HDR_COMMIT_STAT
  wrF a 2 0 state (wrB a 3 deferred c)

/-- DISCARD drops the pending values (R462). -/
def discardPend (p : Page) (c : Chip) : Chip := setPend p [] (setCommitState p 0 false c)

/-! ### The page's own rules -/

/-- The signals that strands of a bank write. -/
def bankOuts (m : Tab Byte) (b : Nat) : List Nat := (bankStrands m b).flatMap (fun p => strandOuts m b p.2)

/-- The signals that the strands of the active bank write, and those of the other bank where it reads PASS and so may be swapped in (R14, R18). -/
def placedOuts (c : Chip) : List Nat :=
  bankOuts c.mem c.bankActive ++ (if bankStateOf c (1 - c.bankActive) = .pass then bankOuts c.mem (1 - c.bankActive) else [])

/-- Whether a value in a register sets a reserved bit. -/
def reservedBits (m : Tab Byte) (a : Nat) : Bool := decide (mrd32 m a &&& ~~~ fieldsMask (rowFields a) ≠ 0)

/-- The legal tick periods (R32). -/
def legalPeriods : List Nat := [2500, 3125, 3200, 4000, 5000, 6250, 8000, 10000, 12500, 15625, 16000, 20000, 25000]

/-- Whether a TICK COMMIT that carries values breaks a rule (R32, R35, R56, R308): only in SAFE_IDLE, with a legal period, P_OUT and D_APPLY.
The per-port minimum is that of DAPPLY_MIN, over the RUNNING and DEGRADED ports (DESIGN CHOICE: R35 does not say whether a HELD port's counts,
which waits for D_APPLY to rise; log entry 62). -/
def tickBreach (c : Chip) (m : Tab Byte) (w : List Nat) : Bool :=
  let n := mF m Reg.TICK_TICK_PERIOD 14 0
  let po := mF m Reg.TICK_P_OUT_PHASE 14 0
  let d := mF m Reg.TICK_D_APPLY 15 0
  !w.isEmpty && (decide (c.dev ≠ .safeIdle) || !legalPeriods.contains n
    || decide (po < max ((n + 3) / 4) 1250) || decide (min (9 * n / 10) (n - 425) < po)
    || decide (d < max 125 (rdF c Reg.WLINK_DAPPLY_MIN 15 0)) || decide (n < d))

/-- What a page's own rules say of a COMMIT: the refusal event with its payload where the page has one, and the chip with the refusal
recorded; `m` is the register memory as it will stand and `w` the DWORDs written. -/
def pageJudge (c : Chip) (m : Tab Byte) (p : Page) (w : List Nat) : Option (Option (EvDef × Nat × List Nat) × Chip) :=
  let pick (l : List Refused) (put : Refused → Chip → Chip) (d : EvDef) : Option (Option (EvDef × Nat × List Nat) × Chip) :=
    (worst l).map (fun r => (some (d, r.item, [r.item, r.reason]), put r c))
  let plain (b : Bool) : Option (Option (EvDef × Nat × List Nat) × Chip) := if b then some (none, c) else none
  match p with
  | .tick => plain (tickBreach c m w)
  | .loopctl => pick (loopBreaches m (unitsIn w 0x00200000 256 2048)) refuseLoop Event.LOOPCTL_LOOP_REFUSED
  | .guard => pick (guardBreaches c m (unitsIn w 0x00304000 64 256) (unitsIn w 0x00300000 16 1024)) refuseGuard
      Event.GUARD_GUARD_REFUSED
  | .echo =>
    let banks := if rdB c Reg.WEAVE_BANK_CTL 1 then [c.bankActive, 1 - c.bankActive] else [c.bankActive]
    pick (echoBreaches c m banks (unitsIn w Reg.ECHO_Descriptors 24 128)) refuseEcho Event.ECHO_ECHO_REFUSED
  | .task => pick (taskBreaches c m (unitsIn w 0x00800000 0x8000 64) (w.any (fun a => decide (0x7300 ≤ a) && decide (a < 0x7340))))
      refuseTask Event.TASK_TASK_REFUSED
  | .motion =>
    let gens := (unitsIn w 0x00A00000 64 128 ++ unitsIn w Reg.MOTION_AXIS_CFG 16 32 ++ unitsIn w Reg.MOTION_HOME_PROG 32 32
      ++ unitsIn w Reg.MOTION_SOFT_LIM 16 128).eraseDups
    pick (motionBreaches m gens) (fun r => refuseMotion r.item r.reason false) Event.MOTION_MOTION_REFUSED
  | .stepdrv => pick (drvBreaches c m (unitsIn w Reg.STEPDRV_AXIS_DRV 64 32) (w.filter (fun a => decide (0x00A02000 ≤ a)))) refuseDrv
      Event.STEPDRV_DRV_REFUSED
  | .lport =>
    let ports := unitsIn w 0xAC00 32 32
    pick (portBreaches c m ports ++ (ports.filter (fun n => (List.range 8).any (fun k => reservedBits m (portRec n + 4 * k)))).map
      (fun n => ⟨7, n, 0⟩)) refusePort Event.LPORT_PORT_REFUSED
  | .input => pick (inputBreaches c m (unitsIn w Reg.INPUT_DIO_CFG 4 48) (unitsIn w Reg.INPUT_SD_CFG 4 24)) refuseInput
      Event.INPUT_INPUT_REFUSED
  | .wlink =>
    let ports := (unitsIn w 0xC080 32 8 ++ unitsIn w Reg.WLINK_OUT_RUNS 64 8 ++ unitsIn w Reg.WLINK_HEAD_MAP 128 8
      ++ unitsIn w Reg.WLINK_HEAD_CFG 256 8).eraseDups
    let outs := placedOuts c ++ ((List.range 16).filter (sgOn c.mem)).flatMap (sgSignals c.mem)
    (worst (wlinkBreaches c m ports (fun _ s => outs.contains s))).map (fun r =>
      (some (Event.WLINK_WLINK_REFUSED, r.item, [0, r.reason]), c))
  | .capture => pick (capBreaches c m (unitsIn w Reg.CAPTURE_SET_CFG 32 16 ++ unitsIn w Reg.CAPTURE_RUNS 32 16
      ++ unitsIn w Reg.CAPTURE_COND 32 16).eraseDups) recordCapRefusal Event.CAPTURE_CAP_REFUSED
  | .time => plain (timeBreach m)
  | .net =>
    let outs := placedOuts c
    let inbound (s : Nat) : Bool := (List.range 8).any (fun q => inboundAt c.mem q s)
    let raw (a g e : Nat) : List Refused := if (List.range 8).any (fun k => reservedBits m (a + 4 * k)) then [⟨6, g, e⟩] else []
    pick (netBreaches m (fun s => outs.contains s || inbound s)
        ++ (unitsIn w 0xF100 32 8).flatMap (fun g => raw (pg g) g 0) ++ (unitsIn w 0xF200 32 16).flatMap (fun h => raw (sg h) h 1))
      refuseNet Event.NET_NET_REFUSED
  | .twin => plain (twinBreach c m)
  | .health => plain (healthBreach m w)
  | _ => none

/-! ### The check against the banks (R44) -/

/-- The pages whose records a bank names. -/
def pageNamed (p : Page) : Bool :=
  match p with | .loopctl | .echo | .capture | .wlink => true | _ => false

/-- The offset of the entry that a DWORD belongs to: a 32-byte block of a window, or a register (R18). -/
def entryAt (a : Nat) : Nat := if inWindow a then a - a % 32 else a

/-- The entry, of `todo` in ascending order, with which the first of the breaches `all` comes about: its offset and that breach; `items` are
the COMMIT's values. -/
def firstBreaker (m : Tab Byte) (costAt : Tab Nat) (b : Nat) (items : List PendItem) (all : List (Nat × Nat)) :
    List Nat → Tab Byte → Option (Nat × Nat × Nat)
  | [], _ => none
  | e :: rest, m1 =>
    let m2 := applyItems (items.filter (fun i => decide (entryAt i.addr = e))) m1
    match (structBreaches m m2 costAt b).find? (fun x => all.contains x) with
    | some x => some (e, x)
    | none => firstBreaker m costAt b items all rest m2

/-- The offsets in ascending order. -/
def sortAddrs (l : List Nat) : List Nat := l.foldl (fun s a => (s.takeWhile (fun x => decide (x < a))) ++ a :: s.dropWhile (fun x => decide (x < a))) []

/-- The breach of R44 by a COMMIT of `items` to the memory `m` that the COMMITs before it leave: the payload of STRUCT_REFUSED, with the first
entry, by BAR offset, that breaks the rule. -/
def structJudge (c : Chip) (m : Tab Byte) (items : List PendItem) : Option (List Nat) :=
  let banks := [c.bankActive] ++ (if bankStateOf c (1 - c.bankActive) = .pass ∧ rdB c Reg.WEAVE_BANK_CTL 1 then [1 - c.bankActive] else [])
  let entries := sortAddrs ((valueAddrs items).map entryAt).eraseDups
  banks.findSome? (fun b =>
    match structBreaches m (applyItems items m) c.costAt b with
    | [] => none
    | all => (firstBreaker m c.costAt b items all entries m).map (fun x => [x.1, x.2.2, x.2.1, b]))

/-! ### A COMMIT as it is accepted (R9, R23, R24, R510) -/

/-- The requester that reports a refusal (R507). -/
def srcReq : CommitSrc → Nat
  | .host => reqHost
  | .security => reqSec

/-- A COMMIT of `items` on page `p`: the STATE it leaves (1 PENDING, 2 REFUSED, 3 TOO_LARGE, 4 FULL) and the chip. -/
def commitItems (src : CommitSrc) (p : Page) (items : List PendItem) (c : Chip) : Nat × Chip :=
  let n := entryCount items
  let m0 := c.mqueue.foldl (fun m k => applyItems k.items m) c.mem
  let m := applyItems items m0
  let w := valueAddrs items
  match pageJudge c m p w with
  | some (ev, c) =>
    let c := setCommitState p 2 false c
    (2, match ev with | some e => raiseVia e.1 (srcReq src) e.2.1 c.phase e.2.2 c | none => c)
  | none =>
    match (if pageNamed p then structJudge c m0 items else none) with
    | some ps => (2, raiseVia Event.WEAVE_STRUCT_REFUSED (srcReq src) (ps.getD 2 0) c.phase ps (setCommitState p 2 false c))
    | none =>
      if 192 < n then (3, setCommitState p 3 false c)
      else if 2048 < (c.mqueue.map (·.entries)).sum + n then (4, setCommitState p 4 false c)
      else
        (1, showCommit p (setCommitState p 1 false
          { c with mqueue := c.mqueue ++ [{ page := p, items := items, entries := n, deferred := false, src := src }] }))

/-- A write of COMMIT.GO: REFUSED and TOO_LARGE discard the pending values, FULL leaves them pending (R24, R510). -/
def commitPage (p : Page) (c : Chip) : Chip :=
  let r := commitItems .host p (pendOf c p) c
  if r.1 = 4 then r.2 else setPend p [] r.2

/-! ### The rim's work (R20, R25) -/

/-- What the entries of a rim leave for after them: the loops and generators whose MODE_REQ was written, the generators whose TARGET was
written, task commands, FORK entries and twin commands; and the values that COMMITs wrote, for STAGE_CONFLICT. -/
structure RimWork where
  loops  : List Nat := []
  gens   : List Nat := []
  moves  : List Nat := []
  cmds   : List TaskCmd := []
  forks  : List (Nat × Option (Nat × Nat) × Nat) := []
  twins  : List (Bool × Word) := []          -- true for MIG_CTL
  wrote  : List PendItem := []
  flags  : List (Nat × Bool) := []           -- the host's writes of FLAG_SET and FLAG_CLR
  gone   : List Nat := []                    -- the tasks that a CANCEL reaches at this rim (R193)
  ctl    : List CtlEntry := []               -- the control-plane entries that the rim applied (R403)
  deriving DecidableEq, Repr

/-- A command that a COMMIT carries, after its values (R510). -/
def applyCommand (i : PendItem) (k : RimWork) (c : Chip) : RimWork × Chip :=
  let a := i.addr
  let v := i.val
  let on (b : Bool) (f : Chip → Chip) (c : Chip) : Chip := if b then f c else c
  if a = Reg.TASK_CMD then
    ({ k with cmds := k.cmds ++ [{ task := fld v 7 0, op := fld v 10 8, priv := i.priv }] }, c)
  else if a = Reg.MOTION_SET_POS_CMD then (k, setPosCommand (fld v 6 0) c)
  else if a = Reg.TIME_TIME_CMD then
    (k, on (wbit v 2) cancelStep (on (wbit v 1) setTimeCmd (on (wbit v 0) restep c)))
  else if a = Reg.TWIN_CMD then ({ k with twins := k.twins ++ [(false, v)] }, c)
  else if a = Reg.TWIN_MIG_CTL then ({ k with twins := k.twins ++ [(true, v)] }, c)
  else if a = Reg.CAPTURE_SYNC_CTL then (k, on (wbit v 7) startPing c)
  else if 0xA414 ≤ a ∧ a < 0xAC00 then
    (k, on (wbit v 1) (fskAbort ((a - 0xA414) / 64)) (on (wbit v 0) (fskGo ((a - 0xA414) / 64) (fld v 24 16)) c))
  else if 0xC080 ≤ a ∧ a < 0xC180 then
    (k, on (wbit v 2) (linkStop ((a - 0xC080) / 32)) (on (wbit v 1) (linkStart ((a - 0xC080) / 32)) c))
  else if loopRec 0 ≤ a ∧ a < loopRec 2048 then (k, clearLoopState ((a - loopRec 0) / 256) c)
  else if sosRec 0 ≤ a ∧ a < sosRec 8192 then (k, clearSection ((a - sosRec 0) / 32) c)
  else (k, c)

/-- After a change of the tick: TICKS_PER_SEC and the capacity registers (R56, R77). -/
def showTickRegs (c : Chip) : Chip :=
  let l := capLanes (laneCount c)
  wrF Reg.TICK_TICKS_PER_SEC 16 0 (250000000 / tickN c)
    (wr32 Reg.WEAVE_CAP_EARLY (Word.ofNat (windowCap c.mem false l)) (wr32 Reg.WEAVE_CAP_LATE (Word.ofNat (windowCap c.mem true l)) c))

/-- After a TICK COMMIT (R45, R53, R308, R386): both banks read UNCHECKED, and the active one is no longer walked. -/
def tickEffects (m : Tab Byte) (c : Chip) : Chip :=
  let changed := [Reg.TICK_TICK_PERIOD, Reg.TICK_P_OUT_PHASE, Reg.TICK_D_APPLY].any (fun a => decide (mrd32 m a ≠ rd32 c a))
  if changed then budgetAfterTick (rejudgeLinks (showTickRegs (uncheckBank 0 (uncheckBank 1 { c with walkAnyway := false })))) else c

/-- Words of the assignable region that a port or a subscribe group placed before and nothing places now lose their producer (R14). -/
def unplaced (m : Tab Byte) (c : Chip) : Chip :=
  let outs := bankOuts c.mem c.bankActive
  dropSignals (fun s => hwProduced m s && !hwProduced c.mem s && !outs.contains s) c

/-- What a page does once a COMMIT's values stand, from the memory `m` before them. -/
def pageEffects (src : CommitSrc) (p : Page) (m : Tab Byte) (w : List Nat) (c : Chip) : Chip :=
  match p with
  | .tick => tickEffects m c
  | .loopctl => forAll (unitsIn w 0x00200000 256 2048) (loopRecordEffects m) c
  | .echo => echoWritten w (forAll (unitsIn w Reg.ECHO_Descriptors 24 128) (echoDescEffects m) c)
  | .task =>
    if src = .host then forAll (unitsIn w 0x00800000 0x8000 64) (fun g c => setMapBit Reg.TASK_SEG_SEALED_LO g false c) c else c
  | .motion => forAll (unitsIn w Reg.MOTION_AXIS_CFG 16 32) (switchEffects m) c
  | .stepdrv => forAll (unitsIn w Reg.STEPDRV_AXIS_DRV 64 32) (drvEffects m) c
  | .capture =>
    let c := forAll (unitsIn w Reg.CAPTURE_SET_CFG 32 16) (capEffects m) c
    if rdB c Reg.CAPTURE_SYNC_CTL 6 ∧ ¬ rdB c Reg.CAPTURE_SYNC_CTL 5 then c else wrB Reg.CAPTURE_SYNC_STAT 0 false c
  | .time => timeEffects (mrd32 m Reg.TIME_PTP_CFG) c
  | .net => netEffects (unplaced m c)
  | .wlink => unplaced m c
  | .twin => twinEffects c
  | .health => healthEffects m c
  | .host => if w.contains Reg.HOST_WD_CFG then { c with lnk := { c.lnk with kicked := nowAt c } } else c
  | .clkpwr => if rdB c Reg.CLKPWR_CLK_CFG 0 then c else wrB Reg.CLKPWR_CLK_STAT 8 false c
  | _ => c

/-- The loops and generators of which the DWORDs `w` with the bits written hold MODE_REQ, and the generators of which they hold TARGET. -/
def noteWrites (l : List PendItem) (k : RimWork) : RimWork :=
  let values := l.filter (fun i => !i.cmd)
  let mode (base stride count o : Nat) : List Nat :=
    (values.filter (fun i => decide (base ≤ i.addr) && decide (i.addr < base + stride * count) && decide ((i.addr - base) % stride = o)
      && decide (i.mask &&& 7 ≠ 0))).map (fun i => (i.addr - base) / stride)
  let target := (values.filter (fun i => decide (mpRec 0 ≤ i.addr) && decide (i.addr < mpRec 128)
    && (decide ((i.addr - mpRec 0) % 64 = 0x38) || decide ((i.addr - mpRec 0) % 64 = 0x3C)))).map (fun i => (i.addr - mpRec 0) / 64)
  { k with
    loops := (k.loops ++ mode 0x00200000 256 2048 0xC0).eraseDups,
    gens := (k.gens ++ mode 0x00A00000 64 128 0).eraseDups,
    moves := (k.moves ++ target).eraseDups,
    wrote := k.wrote ++ values }

/-- A bank that reads PASS and that a COMMIT would break returns to UNCHECKED (R44). -/
def uncheckBroken (m : Tab Byte) (c : Chip) : Chip :=
  let b := 1 - c.bankActive
  if bankStateOf c b = .pass ∧ structBreaches m c.mem c.costAt b ≠ [] then uncheckBank b c else c

/-- A COMMIT of guard records, judged once more at its rim against the guards that have tripped since it was accepted: a tripped guard and its
terms change only after the reset (R129). -/
def guardRejudge (q : MgmtCommit) (c : Chip) : Option Refused :=
  let w := valueAddrs q.items
  if q.page = .guard then
    worst ((guardBreaches c (applyItems q.items c.mem) (unitsIn w 0x00304000 64 256) (unitsIn w 0x00300000 16 1024)).filter
      (fun r => decide (r.reason = 1) || decide (r.reason = 6)))
  else none

/-- A COMMIT applies whole at a rim (R20, R22, R510), or is refused there because a guard has tripped (R129). -/
def applyCommit (q : MgmtCommit) (x : RimWork × Chip) : RimWork × Chip :=
  let c := x.2
  match guardRejudge q c with
  | some r =>
    (x.1, raiseVia Event.GUARD_GUARD_REFUSED (srcReq q.src) r.item c.phase [r.item, r.reason]
      (showCommit q.page (setCommitState q.page 2 false (refuseGuard r c))))
  | none =>
  let w := valueAddrs q.items
  let m := c.mem
  let m' := applyItems q.items m
  let c := if q.page = .input then forAll (unitsIn w Reg.INPUT_AI_CFG 4 64) (aiEffects m') c else c
  let c := pageEffects q.src q.page m w { c with mem := m' }
  let c := if pageNamed q.page then uncheckBroken m c else c
  let c := memRewritten w c
  let y := (q.items.filter (·.cmd)).foldl (fun y i => applyCommand i y.1 y.2) (noteWrites q.items x.1, c)
  let c := y.2
  let a := pageBase q.page + Reg.HDR_COMMIT_STAT
  let last := !(c.mqueue.any (fun k => decide (k.page = q.page)))
  let c := if last ∧ rdF c a 2 0 = 1 then wrF a 2 0 0 c else c
  (y.1, showCommit q.page c)

/-- The COMMITs of a rim in acceptance order, as far as its slots reach: one that does not fit defers those behind it (R22). -/
def applyMgmt : List MgmtCommit → Nat → RimWork × Chip → RimWork × Chip
  | [], _, x => x
  | q :: rest, slots, x =>
    if q.entries ≤ slots then
      applyMgmt rest (slots - q.entries) (applyCommit q (x.1, { x.2 with mqueue := rest }))
    else
      let c := x.2
      let c := wrB (pageBase q.page + Reg.HDR_COMMIT_STAT) 3 true { c with mqueue := { q with deferred := true } :: rest }
      (x.1, if q.deferred then c
        else raiseHost Event.SYS_COMMIT_DEFERRED 0 [pageBase q.page, q.entries, slots] c)

/-! ### Control-plane entries (R25, R167) -/

/-- A control-plane entry writes bits of a DWORD; a field that a COMMIT of the rim wrote raises STAGE_CONFLICT (R25). -/
def ctlField (a : Nat) (mask v : Word) (k : RimWork) (c : Chip) : Chip :=
  let mine := k.wrote.filter (fun i => decide (i.addr = a) && decide (i.mask &&& mask ≠ 0))
  let both := mine.foldl (fun w i => w ||| (i.mask &&& mask)) 0
  let mgmt := mine.foldl (fun w i => merge (i.mask &&& mask) w i.val) 0
  let c := wrMask a mask v c
  if mine = [] then c
  else raiseHost Event.SYS_STAGE_CONFLICT 0 [a, mask.toNat, (mgmt &&& both).toNat, (v &&& mask).toNat] c

/-- Tasks that wait for the move which the rim forms take its number (R169). -/
def waitersTake (n : Nat) (c : Chip) : Chip :=
  let sq := ((c.mp n).seq + 1) % 0x10000
  { c with tasks := c.tasks.map (fun e => match e.2.wait with
      | some (.move m none none) => if m = n then (e.1, { e.2 with wait := some (.move m (some sq) none) }) else e
      | _ => e) }

/-- A control-plane entry applies (R167–R170, R174, R177). -/
def applyEntry (e : CtlEntry) (x : RimWork × Chip) : RimWork × Chip :=
  let k := x.1
  let c := x.2
  match e.op with
  | .mode n code =>
    if code = 3 ∧ mF c.mem (loopRec n + 0x0C) 26 16 = n then
      (k, raiseEv Event.LOOPCTL_LOOP_REFUSED n [n, 5] (refuseLoop ⟨5, n, 0⟩ c))
    else ({ k with loops := (k.loops ++ [n]).eraseDups }, ctlField (loopRec n + 0xC0) 7 (Word.ofNat code) k c)
  | .setpoint n v r => (k, ctlField (loopRec n + 0x24) 0xFFFFFFFF r k (ctlField (loopRec n + 0x20) 0xFFFFFFFF v k c))
  | .valve high pattern mask => (k, ctlField (if high then Reg.TASK_VALVE_CMD_HI else Reg.TASK_VALVE_CMD_LO) mask pattern k c)
  | .move n rel t _ =>
    let goal := if rel then sx 64 (unsx 64 (t + mpTarget c.mem n)) else t
    let k' := { k with moves := (k.moves ++ [n]).eraseDups }
    (k', ctlField (mpRec n + 0x3C) 0xFFFFFFFF (Word.ofInt (goal / 0x100000000)) k
      (ctlField (mpRec n + 0x38) 0xFFFFFFFF (Word.ofInt goal) k c))
  | .flag n s =>
    let c := c.setFlag n s
    (k, match (k.flags.filter (fun f => decide (f.1 = n))).getLast? with
      | some f => raiseHost Event.SYS_STAGE_CONFLICT 0 [Reg.TASK_FLAG + 4 * (n / 32), 2 ^ (n % 32), f.2.toNat, s.toNat] c
      | none => c)
  | .fork t entry byTask => ({ k with forks := k.forks ++ [(t, entry, byTask)] }, c)
  | .capture s op ph => (k, capStep s op ph c)

/-- Host writes of FLAG_SET and FLAG_CLR, in the order written (R174). -/
def applyFlagWrites (c : Chip) : Chip :=
  let c := forEach 8 (fun w c => wr32 (Reg.TASK_FLAG_SET + 4 * w) 0 (wr32 (Reg.TASK_FLAG_CLR + 4 * w) 0 c)) c
  forAll c.flagWrites (fun f c => c.setFlag f.1 f.2) { c with flagWrites := [] }

/-- The commit apply of a rim (R19, R20): COMMITs in the slots that the control entries leave and the host's ARM and DISARM, then the control entries in the order of their
grants, late ones in cycles 0–15 (R21); then the modes and moves they ask for, and the readiness they bring (R193). -/
def commitApply (c : Chip) : RimWork × Chip :=
  let granted := (cqAccepted c).map (·.1)
  let entries := granted
  let c := match granted.getLast? with | some e => { c with cqPtr := e.engine + 1 } | none => c
  let x := applyMgmt c.mqueue (448 - entries.length) ({ flags := c.flagWrites }, applyFlagWrites c)
  let x := entries.foldl (fun x e => applyEntry e x) (x.1, capHostCmds { x.2 with cqueue := [] })
  let k := x.1
  let c := forAll (tabKeys x.2.loops) applyLoss x.2
  let c := forAll k.loops applyModeReq (forAll (tabKeys c.loops) applyRecovery c)
  let c := forAll k.gens applyMpMode c
  let c := forAll k.moves (fun n c => newMove n (waitersTake n c)) c
  let y := applyCmds k.cmds c
  let c := forAll k.forks (fun f c => applyFork y.1 f.1 f.2.1 f.2.2 c) y.2
  ({ k with gone := y.1, ctl := granted }, c)

end Sys2Proof.Machine
end

