-- ==== Sys2Proof/Machine/Sec.lean ====
section
/-!
DEFINITION. Machine/Sec.lean: the security block (R435–R456): life cycle, anchors, sealed packages and slots, privilege sessions and
attestation quotes. What the part keeps in fuses and in the record bank is `Nv`.
-/
namespace Sys2Proof.Machine

open Sys2Proof

/-! ### Life cycle and anchors (R435, R440) -/

/-- Ownership cycles begun. -/
def cycleOf (f : Fuses) : Nat := (f.own.filter (fun b => b)).length

/-- The life-cycle state as LC_STAT codes it (R435): 0 BLANK, 1 PROVISIONED, 2 OWNED, 3 RETURN, 4 SCRAPPED. -/
def lcState (f : Fuses) : Nat :=
  let k := cycleOf f
  if f.scrap then 4
  else if !f.prov then 0
  else if k = 0 then 1
  else if !(f.ret.getD (k - 1) false) then 2
  else if f.refurb.getD (k - 1) false then 1
  else 3

/-- Anchor slot `s` of group `g`. -/
def anchorOf (f : Fuses) (g s : Nat) : AnchorFuse := f.anchors.getD (4 * g + s) {}

/-- The state of an anchor slot: 0 EMPTY, 1 ACTIVE, 2 REVOKED. -/
def anchorState (a : AnchorFuse) : Nat := if a.revoked then 2 else if a.written then 1 else 0

/-- The live group (R440): CYCLE − 1, in OWNED only. -/
def liveGroup (f : Fuses) : Option Nat := if lcState f = 2 then some (cycleOf f - 1) else none

/-- The state of slot `s` of the live group. -/
def liveState (f : Fuses) (s : Nat) : Nat :=
  match liveGroup f with
  | some g => anchorState (anchorOf f g s)
  | none => 0

/-! ### Packages (R442, R443) -/

/-- `n` bytes of a string from `o`. -/
def bytesAt (l : List Byte) (o n : Nat) : List Byte := (l.drop o).take n

/-- The little-endian value of `n` bytes from `o`. -/
def pkgVal (l : List Byte) (o n : Nat) : Nat := leVal (bytesAt l o n)

/-- Whether bytes are zero. -/
def allZero (l : List Byte) : Bool := l.all (fun b => decide (b = 0))

def pkgKind (l : List Byte) : Nat := pkgVal l 5 1
def pkgVersion (l : List Byte) : Nat := pkgVal l 16 4
def pkgAnchor (l : List Byte) : Nat := pkgVal l 6 1 % 4
def pkgGroup (l : List Byte) : Nat := pkgVal l 6 1 / 4 % 4
def pkgLen (l : List Byte) : Nat := pkgVal l 20 4
def pkgPayload (l : List Byte) : List Byte := bytesAt l 2112 (pkgLen l)
/-- The header, bytes 0–127, which both signatures cover. -/
def pkgHeader (l : List Byte) : List Byte := l.take 128

/-- The SHA-512 digest of a byte string. -/
def sha (l : List Byte) : List Byte := (List.range 64).map (Config.sha512 l)

/-- A kind with a write list: 0x01 to 0x06. -/
def kindListed (k : Nat) : Bool := decide (1 ≤ k) && decide (k ≤ 6)

/-- A supplement: KIND 0x02 to 0x06. -/
def kindSupplement (k : Nat) : Bool := decide (2 ≤ k) && decide (k ≤ 6)

/-- The entries of a write list, each an offset and its data; none where its form is broken. `n` bounds the entries. -/
def writeList : Nat → List Byte → Option (List (Nat × List Byte))
  | _, [] => some []
  | 0, _ :: _ => none
  | n + 1, l =>
    let len := pkgVal l 4 4
    let size := 8 + (len + 7) / 8 * 8
    if l.length < size ∨ len % 4 ≠ 0 ∨ !allZero (bytesAt l (8 + len) (size - 8 - len)) then none
    else (writeList n (l.drop size)).map (fun r => (pkgVal l 0 4, bytesAt l 8 len) :: r)

/-- The write list of a package. -/
def pkgList (l : List Byte) : Option (List (Nat × List Byte)) := writeList (pkgLen l / 8) (pkgPayload l)

/-- The DWORDs that entries of a write list carry, in order. -/
def listWords (l : List (Nat × List Byte)) : List (Nat × Word) :=
  l.flatMap (fun e => (List.range (e.2.length / 4)).map (fun i => (e.1 + 4 * i, Word.ofNat (pkgVal e.2 (4 * i) 4))))

/-- The bits of a DWORD that format 3 cannot carry (R450): PG_CTL.FMT, SG_CTL.V1, TWIN_CFG.WIT_EN, SET_CFG.TB_OUT_EN and MIG_CTL. -/
def format4Bits (a : Nat) : Word :=
  if a = Reg.TWIN_MIG_CTL then 0xFFFFFFFF
  else if 0xF100 ≤ a ∧ a < 0xF200 ∧ (a - 0xF100) % 32 = 0 then 0x6
  else if 0xF200 ≤ a ∧ a < 0xF400 ∧ (a - 0xF200) % 32 = 0 then 0x4
  else if a = Reg.TWIN_TWIN_CFG then 0x2
  else if Reg.CAPTURE_SET_CFG ≤ a ∧ a < 0xD600 ∧ (a - Reg.CAPTURE_SET_CFG) % 32 = 0 then 0x80
  else 0

/-- Whether a DWORD of a format 3 package addresses one of these fields: MIG_CTL with any value, and otherwise where it sets a bit of one, since
a DWORD that format 3 can carry has zeros there (log entry 45). -/
def format3Bad (a : Nat) (v : Word) : Bool := decide (a = Reg.TWIN_MIG_CTL) || decide (v &&& format4Bits a ≠ 0)

/-- The layout rules of a kind's payload: R439, R441, R445, R452 and Table 3. -/
def payloadBad (l : List Byte) : Bool :=
  let p := pkgPayload l
  let k := pkgKind l
  if kindListed k then
    match pkgList l with
    | none => true
    | some e => decide (pkgVal l 4 1 = 3) && (listWords e).any (fun w => format3Bad w.1 w.2)
  else if k = 0x10 then decide (p.length ≠ 136) || decide (16 ≤ pkgVal p 128 1) || !allZero (bytesAt p 129 7)
  else if k = 0x11 then
    let d := pkgVal p 32 2
    decide (p.length ≠ 40) || !allZero (bytesAt p 34 6) || (decide (d ≠ 0) && (decide (d < 10) || decide (3600 < d)))
  else if k = 0x12 then decide (p.length ≠ 3520) || !allZero (bytesAt p 137 7) || !allZero (bytesAt p 3517 3)
  else if k = 0x13 then decide (p.length ≠ 8) || !allZero p
  else if k = 0x20 then decide (p.length < 40) || !allZero (bytesAt p 33 7)
  else true

/-- The layout rules of Table 2. -/
def layoutBad (l : List Byte) : Bool :=
  decide (bytesAt l 0 4 ≠ [0x5A, 0x50, 0x4B, 0x47]) || (decide (pkgVal l 4 1 ≠ 4) && decide (pkgVal l 4 1 ≠ 3))
    || decide (16 ≤ pkgVal l 6 1) || (decide (pkgKind l = 0x20) && decide (pkgVal l 6 1 ≠ 0)) || decide (pkgVal l 7 1 ≠ 0)
    || decide (pkgLen l % 8 ≠ 0) || decide (24 * 0x100000 - 5496 < pkgLen l) || !allZero (bytesAt l 24 8) || !allZero (bytesAt l 96 32)
    || decide (l.length ≠ pkgLen l + 5488) || !allZero (bytesAt l (l.length - 3) 3) || payloadBad l

/-- The binding of SERIAL, and for CLAIM the serial and cycle of its payload (R442, R445). -/
def serialBad (f : Fuses) (l : List Byte) : Bool :=
  let s := pkgVal l 8 8
  let k := pkgKind l
  let bound := decide (0x11 ≤ k)
  decide (s ≠ f.serial ∧ (s ≠ 0 ∨ bound)) || (bound && decide (s = 0))
    || (decide (k = 0x12) && (decide (pkgVal (pkgPayload l) 128 8 ≠ f.serial) || decide (pkgVal (pkgPayload l) 136 1 ≠ cycleOf f)))

/-- The digests that a package's keys must match (R443, R445); none where no ACTIVE slot of the live group is named. -/
def pkgDigests (f : Fuses) (l : List Byte) : Option (List Byte) :=
  if pkgKind l = 0x20 then some f.maker
  else if pkgKind l = 0x12 then some (bytesAt (pkgPayload l) 0 128)
  else match liveGroup f with
    | some g => if g = pkgGroup l ∧ anchorState (anchorOf f g (pkgAnchor l)) = 1 then some (anchorOf f g (pkgAnchor l)).digests else none
    | none => none

/-- The verification of R443: the reason at which it stops, or none. -/
def verifyPkg (f : Fuses) (l : List Byte) : Option Nat :=
  let p := pkgPayload l
  let ed := bytesAt l 128 32
  let ml := bytesAt l 160 1952
  let sigs := l.drop (2112 + pkgLen l)
  if layoutBad l then some 1
  else if serialBad f l then some 2
  else match pkgDigests f l with
    | none => some 3
    | some d =>
      if sha ed ≠ d.take 64 ∨ sha ml ≠ (d.drop 64).take 64 then some 3
      else if sha p ≠ bytesAt l 32 64 then some 4
      else if !Config.edVerify ed (pkgHeader l) (bytesAt sigs 0 64) || !Config.mlVerify ml (pkgHeader l) (bytesAt sigs 64 3309) then some 5
      else if pkgKind l = 0x12 ∧ !Config.makerVerify f.maker (bytesAt p 0 144) (bytesAt p 144 64) (bytesAt p 208 3309) then some 5
      else none

/-! ### What a write list may address (Table 3) -/

/-- Whether an address of a record's table belongs to a page of TABLES: the ECHO, MOTION and STEPDRV records. -/
def tableRecord (a : Nat) : Bool :=
  (decide (Reg.ECHO_FADE_RUNS ≤ a) && decide (a < 0x7000)) || (decide (Reg.MOTION_AXIS_CFG ≤ a) && decide (a < 0x9000))
    || (decide (Reg.STEPDRV_AXIS_DRV ≤ a) && decide (a < 0xA000))

/-- The limit fields of the loop record (Write L). -/
def limitField (o : Nat) : Bool :=
  decide (o = 0x50) || decide (o = 0x54) || decide (o = 0x70) || decide (o = 0x74) || (decide (0xA0 ≤ o) && decide (o ≤ 0xB0))

/-- Whether a kind's write list may address a DWORD. -/
def kindMay (k a : Nat) : Bool :=
  let w := windowOfAddr a
  match k with
  | 1 => (match w with | some .board => false | some _ => true | none => decide (configMask a ≠ 0))
  | 2 => (decide (0x00100000 ≤ a) && decide (a < 0x00110000)) || decide (a = Reg.WEAVE_BANK0_LEN)
      || (decide (Reg.WEAVE_AVG_B0 ≤ a) && decide (a < Reg.WEAVE_AVG_B1))
  | 3 => decide (w = some .recipe) || (decide (taskCfg 1 ≤ a) && decide (a < taskCfg 256))
  | 4 => decide (w = some .loops) && limitField ((a - loopRec 0) % 256)
  | 5 => decide (w = some .terms) || decide (w = some .guards)
  | 6 => decide (w = some .loops) || decide (w = some .sos) || decide (w = some .echo) || decide (w = some .profiles)
      || decide (w = some .microstep) || tableRecord a
  | _ => false

/-- Whether every DWORD of a write list may be addressed; a DWORD must be aligned. -/
def targetsOk (k : Nat) (l : List (Nat × Word)) : Bool := l.all (fun e => decide (e.1 % 4 = 0) && kindMay k e.1)

/-! ### The page's registers (R456) -/

/-- The object that DATA_SEL names. -/
def dataObject (v : Nv) (c : Chip) : List Byte :=
  match rdF c Reg.SEC_DATA_SEL 2 0 with
  | 0 => c.sec.quote
  | 1 => v.identity.certEd
  | 2 => v.identity.certMl
  | 3 => v.identity.pubEd
  | 4 => v.identity.pubMl
  | _ => []

/-- Bytes written from `a`, `n` of them, with zeros beyond the list. -/
def wrBytes (a n : Nat) (l : List Byte) (c : Chip) : Chip := forEach n (fun i c => wr8 (a + i) (l.getD i 0) c) c

/-- The configuration digest (R449). -/
def configDigest (c : Chip) : List Byte := if c.sec.loaded = [] then [] else sha c.sec.loaded.flatten

/-- SLOT_x_STAT and SLOT_x_VER. -/
def slotWord (s : SlotSt) (bad : Bool) : Nat :=
  match s.base with
  | none => 0
  | some b => (if b.state = 2 ∧ !bad then 1 else 2) + 4 * (decide (pkgVal b.bytes 4 1 = 3)).toNat
      + 0x100 * (s.supps.filter (fun x => decide (x.state = 2))).length
def slotVersion (s : SlotSt) : Nat := (s.base.map (fun b => pkgVersion b.bytes)).getD 0

/-- The SEC page as it reads. -/
def secShow (v : Nv) (c : Chip) : Chip :=
  let s := c.sec
  let c := wrF Reg.SEC_LC_STAT 6 0 (lcState v.fuses + 8 * cycleOf v.fuses + 0x40 * (if s.debug then 1 else 0)) c
  let c := wr32 Reg.SEC_SERIAL (Word.ofNat v.fuses.serial) (wr32 (Reg.SEC_SERIAL + 4) (Word.ofNat (v.fuses.serial / 0x100000000)) c)
  let c := wr32 Reg.SEC_ANCHOR_STAT (Word.ofNat (((List.range 4).map (fun k => 4 ^ k * liveState v.fuses k)).sum)) c
  let c := wr32 Reg.SEC_SESSION (match s.session with
    | some x => Word.ofNat (1 + 2 * x.slot + 0x10000 * (x.ends - c.opSec))
    | none => 0) c
  let c := wrB Reg.SEC_PKG_STAT 0 s.op.isSome (wrB Reg.SEC_PKG_STAT 1 s.partPart (wrB Reg.SEC_PKG_STAT 2 s.inUseB c))
  let c := wr32 Reg.SEC_SLOT_A_STAT (Word.ofNat (slotWord v.slotA s.badA)) (wr32 Reg.SEC_SLOT_B_STAT (Word.ofNat (slotWord v.slotB s.badB)) c)
  let c := wr32 Reg.SEC_SLOT_A_VER (Word.ofNat (slotVersion v.slotA)) (wr32 Reg.SEC_SLOT_B_VER (Word.ofNat (slotVersion v.slotB)) c)
  let c := wrBytes Reg.SEC_CHALLENGE 32 ((s.challenge.map (·.bytes)).getD []) c
  let c := wrBytes Reg.SEC_CFG_DIGEST 64 (configDigest c) c
  let c := wrBytes Reg.SEC_ANCHOR_DIGEST 128 (match liveGroup v.fuses with
    | some g => (anchorOf v.fuses g (rdF c Reg.SEC_ANCHOR_SEL 1 0)).digests
    | none => []) c
  let o := dataObject v c
  wr32 Reg.SEC_DATA_LEN (Word.ofNat o.length) (wrBytes Reg.SEC_DATA 2048 (o.drop (2048 * rdF c Reg.SEC_DATA_SEL 4 3)) c)

/-! ### Sessions and challenges (R452, R453) -/

/-- The session ends with a cause. -/
def endSession (cause : Nat) (c : Chip) : Chip :=
  if c.sec.session.isSome then raiseEv Event.SEC_SESSION_END 0 [0, cause] { c with sec := { c.sec with session := none } } else c

/-- CHAL_CMD.NEW (R452). -/
def newChallenge (c : Chip) : Chip :=
  { c with
    draws := c.draws + 1,
    sec := { c.sec with challenge := some { bytes := (List.range 32).map (Config.entropy c.draws), ends := nowAt c + 60 * 250000000 } } }

/-- The session's duration has run out (R453). -/
def sessionEnd (c : Chip) : Chip :=
  match c.sec.session with
  | some s => if s.ends ≤ c.opSec then endSession 0 c else c
  | none => c

/-- A challenge is valid for one verification: whether it matches, and the chip without it. -/
def takeChallenge (l : List Byte) (c : Chip) : Bool × Chip :=
  ((match c.sec.challenge with | some x => decide (x.bytes = l) && decide (nowAt c ≤ x.ends) | none => false),
   { c with sec := { c.sec with challenge := none } })

/-! ### Slots (R447) -/

/-- Slot A or B. -/
def slotOf (v : Nv) (b : Bool) : SlotSt := if b then v.slotB else v.slotA
def setSlot (b : Bool) (s : SlotSt) (v : Nv) : Nv := if b then { v with slotB := s } else { v with slotA := s }

/-- The bytes that a package takes in a slot: its 8-byte record and itself, in units of 4 KiB. -/
def slotSpace (x : Stored) : Nat := (8 + x.bytes.length + 4095) / 4096 * 4096

/-- Whether a supplement fits in a slot of 24 MiB with at most 63 supplements. -/
def slotFits (s : SlotSt) (l : List Byte) : Bool :=
  match s.base with
  | none => false
  | some b => decide (s.supps.length < 63)
      && decide (((b :: s.supps).map slotSpace).sum + slotSpace ⟨l, 1⟩ ≤ 24 * 0x100000)

/-- The state of a stored package's record. -/
def markStored (b : Bool) (i st : Nat) (v : Nv) : Nv :=
  let s := slotOf v b
  if i = 0 then setSlot b { s with base := s.base.map (fun x => { x with state := st }) } v
  else match s.supps[i - 1]? with
    | some x => setSlot b { s with supps := s.supps.set (i - 1) { x with state := st } } v
    | none => v

/-- A package is copied to its slot with a record state (R447): a CONFIG erases the other slot, a supplement is appended to the slot in use.
The slot and index, where it is stored. -/
def storePkg (l : List Byte) (st : Nat) (v : Nv) (c : Chip) : Option (Bool × Nat) × Nv :=
  let u := c.sec.inUseB
  if pkgKind l = 1 then (some (!u, 0), setSlot (!u) { base := some ⟨l, st⟩ } v)
  else if kindSupplement (pkgKind l) ∧ slotFits (slotOf v u) l then
    let s := slotOf v u
    (some (u, s.supps.length + 1), setSlot u { s with supps := s.supps ++ [⟨l, st⟩] } v)
  else (none, v)

/-! ### Refusal and verification of a package (R443–R448, R455) -/

/-- PKG_REFUSED with a reason of Table 5. -/
def refusePkg (kind reason : Nat) (c : Chip) : Chip :=
  raiseEv Event.SEC_PKG_REFUSED 0 [kind, reason] (wrF Reg.SEC_PKG_STAT 11 8 reason c)

/-- Whether the unit permits a life-cycle transition (R436). -/
def transitionOpen (c : Chip) : Bool := decide (c.dev = .safeIdle) && (decide (roleCode c = 0) || !pairEn c)

/-- The life-cycle and device states of Tables 1 and 3, and of R437 to R439. -/
def kindState (f : Fuses) (c : Chip) (l : List Byte) : Bool :=
  let lc := lcState f
  match pkgKind l with
  | 0x05 | 0x06 => decide (c.dev = .safeIdle)
  | 0x12 => decide (lc = 1) && transitionOpen c
  | 0x13 => decide (lc = 2) && transitionOpen c
  | 0x20 =>
    match pkgVal (pkgPayload l) 32 1 with
    | 1 => decide (lc = 0) && transitionOpen c
    | 2 => decide (lc = 1) && decide (cycleOf f = 0)
    | 3 => decide (lc = 0) || decide (lc = 3)
    | 4 => decide (lc = 3) && decide (cycleOf f ≠ 4) && transitionOpen c
    | 5 => decide (lc = 3) && transitionOpen c
    | _ => false
  | _ => true

/-- What the partner of a loading owner allows (R455): a supplement in RUN needs its acknowledgement. -/
def partnerBad (c : Chip) (l : List Byte) (ack : Bool) : Bool :=
  kindSupplement (pkgKind l) && decide (c.dev = .run) && decide (roleCode c = 2)
    && (decide (partnerRole c = 1) || decide (partnerRole c = 4) || (decide (partnerRole c = 3) && !ack))

/-- The first rule that a package breaks, in the order of R443 and then of Table 5's further reasons. -/
def pkgReason (v : Nv) (c : Chip) (l : List Byte) (ack : Bool) : Option Nat :=
  let k := pkgKind l
  match verifyPkg v.fuses l with
  | some r => some r
  | none =>
    if !kindState v.fuses c l then some 6
    else if kindListed k ∧ pkgVersion l < tabGet (fun _ => 0) v.versions k then some 7
    else if kindSupplement k ∧ !slotFits (slotOf v c.sec.inUseB) l then some 10
    else if partnerBad c l ack then some 12
    else if kindListed k ∧ !targetsOk k (listWords ((pkgList l).getD [])) then some 13
    else none

/-! ### The writes of a package (R448) -/

/-- The bits of a DWORD that a package writes: the configuration fields of a register, or a window's. -/
def pkgMask (a : Nat) : Word := if inWindow a then windowMask a else configMask a

/-- A supplement's writes as values of their pages; fields that take effect at once are not staged. -/
def pkgItems (l : List (Nat × Word)) : List (Page × PendItem) :=
  l.filterMap (fun e =>
    let page := match windowOfAddr e.1 with
      | some w => some (windowPage w)
      | none => pageOfAddr e.1
    page.map (fun p => (p, { addr := e.1, val := e.2, mask := pkgMask e.1, cmd := false })))

/-- The COMMITs of a supplement: at most 192 entries of one page each, in the order of the write list. -/
def pkgChunks (l : List (Page × PendItem)) : List (Page × List PendItem) :=
  (l.foldl (fun (acc : List (Page × List PendItem)) (e : Page × PendItem) =>
    match acc with
    | (p, items) :: rest =>
      if p = e.1 ∧ entryCount (items ++ [e.2]) ≤ 192 then (p, items ++ [e.2]) :: rest else (e.1, [e.2]) :: acc
    | [] => [(e.1, [e.2])]) []).reverse

/-- A package's writes applied at once, as start-up applies them; one of format 3 leaves the fields that it cannot carry (R427). -/
def directWrites (fmt3 : Bool) (l : List (Nat × Word)) (m : Tab Byte) : Tab Byte :=
  l.foldl (fun m e => memPut32 m e.1 (merge (pkgMask e.1 &&& ~~~(if fmt3 then format4Bits e.1 else 0)) (mrd32 m e.1) e.2)) m

/-- A WEAVE package's addresses moved to bank `b` (Table 3). -/
def toBank (b : Nat) (l : List (Nat × Word)) : List (Nat × Word) :=
  l.map (fun e => (if inWindow e.1 then e.1 + 0x10000 * b else if e.1 = Reg.WEAVE_BANK0_LEN then e.1 + 4 * b else e.1 + 0x200 * b, e.2))

/-- The recipe segments that a write list touches, in which sealed steps are marked (R165). -/
def listSegments (l : List (Nat × Word)) : List Nat := unitsIn (l.map (·.1)) 0x00800000 0x8000 64

/-- A recipe's segments read sealed. -/
def sealSegments (l : List (Nat × Word)) (c : Chip) : Chip :=
  forAll (listSegments l) (fun g c => setMapBit Reg.TASK_SEG_SEALED_LO g true c) c

/-! ### PKG_CMD (R446–R448) -/

/-- The record of a package operation. -/
def setOp (o : Option SecOp) (c : Chip) : Chip := { c with sec := { c.sec with op := o } }

/-- A package's bytes are verified and stored, and its effect begins (R443, R446–R448); a part that runs an operation is busy. -/
def takePackage (l : List Byte) (ack : Bool) (v : Nv) (c : Chip) : Nv × Chip :=
  if c.sec.op.isSome then (v, refusePkg (rdF c Reg.SEC_PKG_STAT 23 16) 9 c)
  else
    let k := pkgKind l
    let c := wrF Reg.SEC_PKG_STAT 23 16 k c
    match pkgReason v c l ack with
    | some r => ((storePkg l 3 v c).2, refusePkg k r c)
    | none =>
      let v := if kindListed k then { v with versions := tabPut (fun _ => 0) v.versions k (max (pkgVersion l) (tabGet (fun _ => 0) v.versions k)) }
        else v
      let words := listWords ((pkgList l).getD [])
      let stage : SecStage := if k = 1 then .done
        else if kindSupplement k ∧ k ≠ 2 then .applying (pkgChunks (pkgItems words)) false else .verified
      let s := storePkg l (if k = 1 then 2 else 1) v c
      let v := s.2
      let v := if k = 1 then { v with newerB := !c.sec.inUseB } else v
      let c := { c with sec := { c.sec with
        appends := s.1.map (fun x => (x.1.toNat, x.2)),
        badA := c.sec.badA && !(decide (k = 1) && c.sec.inUseB),
        badB := c.sec.badB && !(decide (k = 1) && !c.sec.inUseB),
        op := some { kind := k, version := pkgVersion l, anchor := pkgAnchor l, payload := pkgPayload l, slotB := c.sec.inUseB, stage := stage } } }
      -- the owner forwards a supplement that it loads in RUN (R455)
      (v, if kindSupplement k ∧ c.dev = .run ∧ roleCode c = 2 then sendMirror (.entry (.package l)) c else c)

/-- PKG_CMD LOAD, with the bytes that the host memory holds at PKG_ADDR and whether the partner of an owner has verified and stored its copy. -/
def pkgLoad (host : List Byte) (ack : Bool) (v : Nv) (c : Chip) : Nv × Chip :=
  takePackage (host.take (rdF c Reg.SEC_PKG_LEN 24 0)) ack v c

/-- A package operation completes: PKG_LOADED (R446). -/
def pkgLoaded (c : Chip) : Chip :=
  match c.sec.op with
  | some o => if o.stage = .done then raiseEv Event.SEC_PKG_LOADED 0 [o.kind, o.version] (setOp none c) else c
  | none => c

/-- A supplement has applied in full: its record reads VALID, its header joins the configuration digest and PARTIAL clears. -/
def supplementDone (o : SecOp) (v : Nv) (c : Chip) : Nv × Chip :=
  match c.sec.appends with
  | some (b, i) =>
    let x := (slotOf v (decide (b = 1))).supps[i - 1]?
    (markStored (decide (b = 1)) i 2 v,
      { c with sec := { c.sec with
          op := some { o with stage := .done }, partPart := false, appends := none,
          loaded := c.sec.loaded ++ (match x with | some y => [pkgHeader y.bytes] | none => []) } })
  | none => (v, setOp (some { o with stage := .done }) c)

/-- A package load stops (R448): the record reads VOID, and a GUARDS or TABLES load leaves PARTIAL. -/
def loadFails (o : SecOp) (stat : Nat) (v : Nv) (c : Chip) : Nv × Chip :=
  let v' := match c.sec.appends with | some (b, i) => markStored (decide (b = 1)) i 3 v | none => v
  let c := { c with sec := { c.sec with op := none, appends := none, partPart := c.sec.partPart || decide (o.kind = 5) || decide (o.kind = 6) } }
  (v', raiseEv Event.SEC_PKG_LOAD_FAIL 0 [o.kind, stat] c)

/-- A supplement applies (R448): WEAVE at once to the inactive bank; any other stages its next COMMIT once the last one has applied. -/
def supplementApply (v : Nv) (c : Chip) : Nv × Chip :=
  match c.sec.op with
  | none => (v, c)
  | some o =>
    let words := listWords ((writeList (o.payload.length / 8) o.payload).getD [])
    match o.stage with
    | .done => (v, c)
    | .verified =>
      if o.kind = 2 then
        let b := 1 - c.bankActive
        let m := (toBank b words).foldl (fun m e => memPut32 m e.1 (merge (pkgMask e.1) (mrd32 m e.1) e.2)) c.mem
        supplementDone o v (uncheckBank b { c with mem := m })
      else (v, c)
    | .applying rest sent =>
      match rest with
      | [] => supplementDone o v (if o.kind = 3 then sealSegments words c else c)
      | (p, items) :: more =>
        if sent then
          if c.mqueue.any (fun q => decide (q.src = .security)) then (v, c)
          else
            match more with
            | [] => supplementDone o v (if o.kind = 3 then sealSegments words c else c)
            | (p', items') :: _ =>
              let r := commitItems .security p' items' c
              if r.1 = 1 then (v, setOp (some { o with stage := .applying more true }) r.2)
              else if r.1 = 4 then (v, setOp (some { o with stage := .applying more false }) r.2)
              else loadFails o (rdN r.2 (pageBase p' + Reg.HDR_COMMIT_STAT)) v r.2
        else
          let r := commitItems .security p items c
          if r.1 = 1 then (v, setOp (some { o with stage := .applying rest true }) r.2)
          else if r.1 = 4 then (v, r.2)
          else loadFails o (rdN r.2 (pageBase p + Reg.HDR_COMMIT_STAT)) v r.2

/-- The load that runs is stopped by a held-output restart (R448). -/
def loadStopped (v : Nv) (c : Chip) : Nv × Chip :=
  match c.sec.op with
  | some o =>
    match o.stage with
    | .applying _ _ => loadFails o 0 v c
    | .verified => if o.kind = 2 then loadFails o 0 v c else (v, setOp none c)
    | .done => (v, setOp none c)
  | none => (v, c)

/-! ### Loading a slot (R449) -/

/-- Verify a stored package again, against the anchors in force. -/
def storedOk (v : Nv) (x : Stored) : Bool := decide (x.state = 2) && (verifyPkg v.fuses x.bytes).isNone

/-- SLOT_INVALID with the index of the failing package. -/
def slotInvalid (b : Bool) (i : Nat) (c : Chip) : Chip :=
  let c := if i = 0 then { c with sec := if b then { c.sec with badB := true } else { c.sec with badA := true } } else c
  raiseEv Event.SEC_SLOT_INVALID 0 [b.toNat, i] { c with sec := { c.sec with noAuto := true } }

/-- The writes of a package as a load of its slot applies them: WEAVE to bank 1, everything else where it addresses; recipes read sealed. -/
def loadStored (l : List Byte) (c : Chip) : Chip :=
  let words := listWords ((pkgList l).getD [])
  let words' := if pkgKind l = 2 then toBank 1 words else words
  sealSegments words { c with mem := directWrites (decide (pkgVal l 4 1 = 3)) words' c.mem, sec := { c.sec with loaded := c.sec.loaded ++ [pkgHeader l] } }

/-- The VALID supplements of a slot, in order, up to the first that fails. -/
def loadSupps (v : Nv) (b : Bool) : List Stored → Nat → Chip → Chip
  | [], _, c => c
  | x :: rest, i, c =>
    if x.state ≠ 2 then loadSupps v b rest (i + 1) c
    else if storedOk v x then loadSupps v b rest (i + 1) (loadStored x.bytes c)
    else slotInvalid b i c

/-- The slot that start-up loads: the newer base if it verifies, otherwise the other (R449). -/
def chooseSlot (v : Nv) (c : Chip) : Option Bool × Chip :=
  let try1 (b : Bool) (c : Chip) : Option Bool × Chip :=
    match (slotOf v b).base with
    | none => (none, c)
    | some x => if storedOk v x then (some b, c) else (none, slotInvalid b 0 c)
  match try1 v.newerB c with
  | (some b, c) => (some b, c)
  | (none, c) => try1 (!v.newerB) c

/-- The chosen base and its VALID supplements. -/
def loadSlot (v : Nv) (c : Chip) : Bool × Chip :=
  let r := chooseSlot v { c with sec := { c.sec with loaded := [] } }
  match r.1 with
  | none => (false, r.2)
  | some b =>
    let s := slotOf v b
    let c := { r.2 with sec := { r.2.sec with inUseB := b, partPart := false } }
    (true, loadSupps v b s.supps 1 (match s.base with | some x => loadStored x.bytes c | none => c))

/-- What every page does with a configuration that replaces the memory `m` at once. -/
def configEffects (m : Tab Byte) (c : Chip) : Chip :=
  let w := ((tabKeys m ++ tabKeys c.mem).map (fun a => a - a % 4)).eraseDups.filter (fun a => decide (mrd32 m a ≠ rd32 c a))
  let c := forAll (unitsIn w Reg.INPUT_AI_CFG 4 64) (aiEffects c.mem) c
  let c := forAll allPages (fun p c => pageEffects .security p m w c) c
  memRewritten w (forAll (unitsIn w 0x00200000 256 2048) applyModeReq c)

/-- The weave check that start-up makes of bank 0 (R53). -/
def checkBankNow (b : Nat) (c : Chip) : Chip := if bankLen c.mem b = 0 then c else checkDone b (checkStart b c)

/-- PKG_CMD APPLY (R448): every configuration field returns to its reset value, and the newer base loads with its VALID supplements, as at
start-up; every task is DORMANT (Table 4 of R178). -/
def pkgApply (v : Nv) (c : Chip) : Chip :=
  if c.sec.op.isSome then refusePkg (rdF c Reg.SEC_PKG_STAT 23 16) 9 c
  else if c.dev ≠ .safeIdle then refusePkg 1 6 (wrF Reg.SEC_PKG_STAT 23 16 1 c)
  else
    let m := c.mem
    let host (a : Nat) : Bool := decide (pageOfAddr a = some .host) || decide (pageOfAddr a = some .sec)
    let clear (m : Tab Byte) (a : Nat) : Tab Byte :=
      if a < 0x16000 then if host a then m else memPut32 m a (merge (configMask a) (mrd32 m a) (resetWord a))
      else if decide (windowOfAddr a = some .board) then m else memPut32 m a (resetWord a)
    let m' := ((tabKeys m).map (fun a => a - a % 4)).eraseDups.foldl clear m
    let c := wr32 Reg.TASK_SEG_SEALED_LO 0 (wr32 Reg.TASK_SEG_SEALED_HI 0 
      { c with mem := m', bankActive := 0, walkAnyway := false, tasks := [], engines := [] })
    let c := (loadSlot v (wrF Reg.SEC_PKG_STAT 23 16 1 c)).2
    checkBankNow 0 (uncheckBank 0 (uncheckBank 1 (configEffects m c)))

/-! ### The effects of the other kinds -/

/-- The operation that waits for its effect, if it is of a kind. -/
def opOf (k : Nat) (c : Chip) : Option SecOp :=
  match c.sec.op with
  | some o => if o.kind = k ∧ o.stage = .verified then some o else none
  | none => none

/-- The operation is refused after all. -/
def refuseOp (o : SecOp) (reason : Nat) (c : Chip) : Chip := refusePkg o.kind reason (setOp none c)

/-- The operation is done. -/
def finishOp (o : SecOp) (c : Chip) : Chip := setOp (some { o with stage := .done }) c

/-- The lowest EMPTY slot of a group. -/
def emptySlot (f : Fuses) (g : Nat) : Option Nat := (List.range 4).find? (fun s => decide (anchorState (anchorOf f g s) = 0))

/-- A slot's fuses. -/
def writeAnchor (g s : Nat) (d : List Byte) (f : Fuses) : Fuses :=
  { f with anchors := f.anchors.set (4 * g + s) { anchorOf f g s with written := true, digests := d } }
def revokeAnchor (g s : Nat) (f : Fuses) : Fuses :=
  if (anchorOf f g s).written then { f with anchors := f.anchors.set (4 * g + s) { anchorOf f g s with revoked := true } } else f

/-- The fuses after an ANCHOR package (R441): the new slot, then the slots of the mask. -/
def rotate (f : Fuses) (g new : Nat) (d : List Byte) (mask : Nat) : Fuses :=
  ((List.range 4).filter (fun s => mask.testBit s)).foldl (fun f s => revokeAnchor g s f) (writeAnchor g new d f)

/-- An ANCHOR package (R441). -/
def anchorEffect (v : Nv) (c : Chip) : Nv × Chip :=
  match opOf 0x10 c, liveGroup v.fuses with
  | some o, some g =>
    let mask := pkgVal o.payload 128 1 % 16
    match emptySlot v.fuses g with
    | none => (v, refuseOp o 8 c)
    | some n =>
      let f := rotate v.fuses g n (bytesAt o.payload 0 128) mask
      if mask.testBit n ∨ (List.range 4).all (fun s => decide (anchorState (anchorOf f g s) ≠ 1)) then (v, refuseOp o 8 c)
      else
        let c := finishOp o c
        let c := match c.sec.session with
          | some x => if mask.testBit x.slot then endSession 4 c else c
          | none => c
        ({ v with fuses := f }, raiseEv Event.SEC_ANCHOR_ROTATED 0 [n, mask] c)
  | some o, none => (v, refuseOp o 3 c)
  | none, _ => (v, c)

/-- A GRANT package (R452). -/
def grantEffect (v : Nv) (c : Chip) : Chip :=
  match opOf 0x11 c with
  | none => c
  | some o =>
    if liveState v.fuses o.anchor ≠ 1 then refuseOp o 3 c
    else
      let r := takeChallenge (bytesAt o.payload 0 32) c
      if !r.1 then raiseEv Event.SEC_GRANT_REFUSED 0 [] (refuseOp o 11 r.2)
      else
        let d := pkgVal o.payload 32 2
        let d := if d = 0 then 300 else d
        let c := finishOp o r.2
        raiseEv Event.SEC_SESSION_OPEN 0 [o.anchor, d] { c with sec := { c.sec with session := some { slot := o.anchor, ends := c.opSec + d } } }

/-- The maker operation that waits, if it is `n`, with its challenge taken: refused with reason 6 outside its states and 11 on a challenge
that does not match. -/
def makerOp (n : Nat) (c : Chip) : Option SecOp :=
  (opOf 0x20 c).bind (fun o => if pkgVal o.payload 32 1 = n then some o else none)

/-- Maker authentication CERT (R438): the certificates. -/
def certEffect (v : Nv) (c : Chip) : Nv × Chip :=
  match makerOp 2 c with
  | none => (v, c)
  | some o =>
    let r := takeChallenge (bytesAt o.payload 0 32) c
    if !r.1 then (v, refuseOp o 11 r.2)
    else if lcState v.fuses ≠ 1 ∨ cycleOf v.fuses ≠ 0 then (v, refuseOp o 6 r.2)
    else
      let l := o.payload.drop 40
      let n := Config.certSplit l
      ({ v with identity := { v.identity with certEd := (l.take n).take 8192, certMl := (l.drop n).take 8192 } }, finishOp o r.2)

/-- Maker authentication DEBUG (R437). -/
def debugEffect (v : Nv) (c : Chip) : Chip :=
  match makerOp 3 c with
  | none => c
  | some o =>
    let r := takeChallenge (bytesAt o.payload 0 32) c
    if !r.1 then refuseOp o 11 r.2
    else if lcState v.fuses ≠ 0 ∧ lcState v.fuses ≠ 3 then refuseOp o 6 r.2
    else
      let c := finishOp o r.2
      raiseEv Event.SEC_DEBUG_OPEN 0 [] { c with sec := { c.sec with debug := true } }

/-! ### The fuses of a life-cycle transition (Table 1 of R436) -/

/-- The fuses of CLAIM: OWN[c], then slot 0 of anchor group c. -/
def claimFuses (d : List Byte) (f : Fuses) : Fuses :=
  let k := cycleOf f
  writeAnchor k 0 d { f with own := f.own.set k true }

/-- The fuses of RETURN, REFURB, PROVISION and SCRAP. -/
def returnFuses (f : Fuses) : Fuses := { f with ret := f.ret.set (cycleOf f - 1) true }
def refurbFuses (f : Fuses) : Fuses := { f with refurb := f.refurb.set (cycleOf f - 1) true }
def provisionFuses (f : Fuses) : Fuses := { f with prov := true }
def scrapFuses (f : Fuses) : Fuses := { f with scrap := true }

/-- The identity that PROVISION generates from an entropy draw (R438). -/
def newIdentity (draw : Nat) (i : Identity) : Identity :=
  { i with seed := some draw, pubEd := (List.range 32).map (Config.edPublic draw), pubMl := (List.range 1952).map (Config.mlPublic draw) }

/-! ### Quotes (R454) -/

/-- QUOTE_CMD.GO: the nonce is taken now, the values at the rim. -/
def quoteGo (v : Nv) (c : Chip) : Chip :=
  if lcState v.fuses = 0 ∨ lcState v.fuses = 4 then c
  else { c with sec := { c.sec with quoteDue := some ((List.range 32).map (fun i => rd8 c (Reg.SEC_QUOTE_NONCE + i))) } }

/-- The digest of a slot's base header, zero when it is empty. -/
def baseDigest (s : SlotSt) : List Byte :=
  match s.base with
  | some b => sha (pkgHeader b.bytes)
  | none => List.replicate 64 0

/-- The quote body (Table 4). -/
def quoteBody (v : Nv) (nonce : List Byte) (c : Chip) : List Byte :=
  let t := tstateCode c.time.state
  let digest := if configDigest c = [] then List.replicate 64 0 else configDigest c
  let l := [0x5A, 0x51, 0x54, 0x01] ++ leBytes 1 (lcState v.fuses) ++ [0xB0] ++ leBytes 1 (cycleOf v.fuses)
    ++ leBytes 1 (((List.range 4).map (fun k => 4 ^ k * liveState v.fuses k)).sum) ++ leBytes 8 v.fuses.serial ++ nonce
    ++ baseDigest v.slotA ++ baseDigest v.slotB ++ digest
    ++ leBytes 5 c.opSec ++ leBytes 3 c.health.pcc ++ leBytes 4 (rdN c Reg.HEALTH_REC_SEQ) ++ leBytes 4 (rdN c Reg.IST_PERM_COUNT)
    ++ leBytes 8 (c.tick + 2 ^ 48 * t + 2 ^ 50 * roleCode c)
    ++ leBytes 8 (if t = 2 ∨ t = 3 then ptpSec c else 0) ++ leBytes 4 (ptpNs c % 1000000000) ++ leBytes 4 (rdN c Reg.WEAVE_OVERRUN_COUNT)
  l ++ List.replicate (512 - l.length) 0

/-- The values of a quote are taken at a rim. -/
def takeQuote (v : Nv) (c : Chip) : Chip :=
  match c.sec.quoteDue with
  | some n => { c with sec := { c.sec with quoteDue := none, body := some (quoteBody v n c) } }
  | none => c

/-- The quote is ready: the body with both signatures of the identity keys. -/
def quoteDone (v : Nv) (c : Chip) : Chip :=
  match c.sec.body, v.identity.seed with
  | some b, some k =>
    raiseEv Event.SEC_QUOTE_DONE 0 [] { c with sec := { c.sec with
      body := none, quote := b ++ (List.range 64).map (Config.edSign k b) ++ (List.range 3309).map (Config.mlSign k b) } }
  | _, _ => c

end Sys2Proof.Machine
end

