-- ==== Sys2Proof/Machine/HostLink.lean ====
section
/-!
DEFINITION. Machine/HostLink.lean: the host link (R457–R472, R509): what a host write or read does at each BAR, interrupts, DMA rings and the
host watchdog.
-/
namespace Sys2Proof.Machine

open Sys2Proof

/-! ### Accesses that are discarded (R15, R105, R451, R459, R460) -/

/-- A BAR as BAD_INFO codes it. -/
def barCode : Bar → Nat
  | .bar0 => 0 | .bar2 => 1 | .bar4 => 2

/-- The latest value of an RC register comes: a read of the same cycle leaves it there, even where it is what stood there before (R6). -/
def putLatest (a : Nat) (w : Word) (c : Chip) : Chip :=
  wr32 a w (if mrd32 c.before a = w then { c with before := memPut32 c.before a 0 } else c)

/-- A bad write (R460): recorded and reported; `part` at a mapped offset. -/
def badAccess (bar : Bar) (a : Nat) (part : Bool) (c : Chip) : Chip :=
  let info := a / 0x100000000 % 2 + 2 * barCode bar + 8 + 16 * part.toNat
  raiseHost Event.SYS_BAD_ACCESS 0 [a % 0x100000000, info]
    (putLatest Reg.SYS_BAD_ADDR (Word.ofNat a) (putLatest Reg.SYS_BAD_INFO (Word.ofNat info) c))

/-- A page's WRITE_DENIED, where it has one. -/
def deniedEvent : Page → Option EvDef
  | .loopctl => some Event.LOOPCTL_WRITE_DENIED
  | .guard => some Event.GUARD_WRITE_DENIED
  | .echo => some Event.ECHO_WRITE_DENIED
  | .task => some Event.TASK_WRITE_DENIED
  | .motion => some Event.MOTION_WRITE_DENIED
  | .stepdrv => some Event.STEPDRV_WRITE_DENIED
  | .lport => some Event.LPORT_WRITE_DENIED
  | .input => some Event.INPUT_WRITE_DENIED
  | .wlink => some Event.WLINK_WRITE_DENIED
  | .capture => some Event.CAPTURE_WRITE_DENIED
  | .time => some Event.TIME_WRITE_DENIED
  | .net => some Event.NET_WRITE_DENIED
  | .twin => some Event.TWIN_WRITE_DENIED
  | .health => some Event.HEALTH_WRITE_DENIED
  | .sec => some Event.SEC_WRITE_DENIED
  | .sys | .tick | .weave | .engine | .ist | .host | .clkpwr => none

/-- A write without the right is discarded with the page's WRITE_DENIED; LOOPCTL also counts it (R105, R112). -/
def writeDenied (p : Page) (bar : Bar) (a : Nat) (c : Chip) : Chip :=
  let c := if p = .loopctl then
      wr32 Reg.LOOPCTL_DENIED_STAT (Word.ofNat (a % 0x1000000 + 0x1000000 * (decide (bar = .bar2)).toNat)) (regInc Reg.LOOPCTL_DENIED_COUNT c)
    else c
  match deniedEvent p with
  | some d => raiseHost d 0 [a] c
  | none => c

/-- The page that owns an offset: its own, or the one that governs its window. -/
def ownerPage (a : Nat) : Option Page :=
  match windowOfAddr a with
  | some w => some (windowPage w)
  | none => pageOfAddr a

/-- Whether an offset is mapped in a BAR (R451, R466, R467). -/
def mapped (bar : Bar) (a : Nat) : Bool :=
  match bar with
  | .bar4 => false
  | .bar0 => (ownerPage a).isSome && decide (pageOfAddr a ≠ some .sec)
  | .bar2 => (ownerPage a).isSome

/-- The bits of the enabled bytes of a DWORD. -/
def byteMask (be : Nat) : Word :=
  Word.ofNat (((List.range 4).map (fun i => if be.testBit i then 0xFF * 0x100 ^ i else 0)).sum)

/-- Whether the register at an offset is a byte array, within which byte enables apply (R460). -/
def byteArray (a : Nat) : Bool := (findRow a).elim false (·.bytes)

/-- Whether a value is one that a field discards as out of range, or a COMMIT with both GO and DISCARD (R57, R460, R510). -/
def outOfRange (a : Nat) (v : Word) : Bool :=
  ((decide (a = Reg.WEAVE_BANK0_LEN) || decide (a = Reg.WEAVE_BANK1_LEN)) && decide (8192 < fld v 13 0))
    || ((pageOfAddr a).isSome && decide (a % 0x1000 = Reg.HDR_COMMIT) && decide (fld v 1 0 = 3))

/-- The registers of SEC that need no session (R451). -/
def sessionFree (a : Nat) : Bool :=
  [Reg.SEC_CHAL_CMD, Reg.SEC_PKG_ADDR, Reg.SEC_PKG_ADDR + 4, Reg.SEC_PKG_LEN, Reg.SEC_PKG_CMD, Reg.SEC_QUOTE_CMD].contains a

/-- The pages that accept writes in every twin role (R418, R456, R471, R472). -/
def anyRole (p : Page) : Bool :=
  match p with | .twin | .host | .clkpwr | .sec => true | _ => false

/-- The word of a window that the U-view may write: SP_CONST and SP_RAMP of a loop, VCMD and TARGET of a profile record, and the weave banks
(R43, R102, R218). -/
def windowU (w : Window) (a : Nat) : Bool :=
  match w with
  | .loops => decide ((a - loopRec 0) % 256 = 0x20) || decide ((a - loopRec 0) % 256 = 0x24)
  | .profiles => decide ((a - mpRec 0) % 64 = 0x04) || decide ((a - mpRec 0) % 64 = 0x38) || decide ((a - mpRec 0) % 64 = 0x3C)
  | .weave => true
  | _ => false

/-- Whether an echo-memory entry belongs to a controller in LEARN or CLEARING (R151). -/
def echoBusy (c : Chip) (e : Nat) : Bool :=
  (tabKeys c.echoes).any (fun n =>
    let s := c.echoOf n
    (decide (s.state = .learn) || decide (s.state = .clearing)) && decide (8 * edBase c.mem n ≤ e)
      && decide (e < 8 * edBase c.mem n + s.len))

/-- Whether a view has the right to write a window's word (R101, R105, R129, R151, R164, R218, R235). -/
def windowRight (c : Chip) (w : Window) (bar : Bar) (a : Nat) : Bool :=
  if w = .loops ∧ 0xE0 ≤ (a - loopRec 0) % 256 then false
  else if w = .echo ∧ echoBusy c ((a - echoEntry 0) / 4) then false
  else windowU w a || decide (bar = .bar2)

/-- Whether a page is locked. -/
def locked (c : Chip) (p : Page) : Bool := rdB c (pageBase p + Reg.HDR_LOCK) 0

/-- Where a write is discarded: the chip with what it records; none where it may act. -/
def discarded (bar : Bar) (a : Nat) (val : Word) (be : Nat) (c : Chip) : Option Chip :=
  if c.dev = .heldRestart then some c
  else if !mapped bar a then some (badAccess bar a false c)
  else
    let p := (ownerPage a).getD .sys
    if rdF c Reg.SEC_LC_STAT 2 0 = 4 ∧ p ≠ .sec ∧ p ≠ .host ∧ p ≠ .health then some c
    else if !inWindow a && decide (be % 16 ≠ 15) && !byteArray a then some (badAccess bar a true c)
    else if outOfRange a val then some (badAccess bar a true c)
    else if windowOfAddr a = some .board then some (raiseHost Event.SYS_BOARD_WRITE_IGNORED 0 [a, barCode bar] c)
    else if bar = .bar2 ∧ c.sec.session.isNone ∧ !sessionFree a then some (writeDenied p bar a c)
    else if !ownsOutputs c ∧ !anyRole p then
      -- SYS has no WRITE_DENIED of its own: RUN and SAFE raise the TWIN page's (R421)
      some (writeDenied (if a = Reg.SYS_DEV_CMD ∧ fld val 1 0 ≠ 0 then .twin else p) bar a c)
    else match windowOfAddr a with
      | some w =>
        if !windowRight c w bar a then some (writeDenied p bar a c)
        else if locked c p ∧ bar = .bar2 ∧ !windowU w a then some (writeDenied p bar a c)
        else none
      | none => none

/-! ### What an accepted write does at a page (R5, R8, R462) -/

/-- A page's EVT_EN bits in use, and those of its fault events. -/
def eventBits (p : Page) : Word := Word.ofNat (2 ^ (pageEvents p).1 - 1)
def faultBits (p : Page) : Word := Word.ofNat (pageFaultEvents p)

/-- EVT_FORCE raises the page's events with INST 0xFFFF and zero payload (R462, R507), all in the cycle of the write: those above the eight
that the host link's queue holds are counted as lost (R27). -/
def evtForce (p : Page) (bits : Word) (c : Chip) : Chip :=
  drainRing (forAll ((Event.ofPage p).filter (fun d => wbit bits d.bit)) (fun d c => postEvent d reqHost 0xFFFF c.phase [] c) c)

/-- LOCK (R463): fault events read enabled from now on. -/
def lockPage (p : Page) (c : Chip) : Chip :=
  let a := pageBase p + Reg.HDR_EVT_EN
  wrB (pageBase p + Reg.HDR_LOCK) 0 true (wr32 a (rd32 c a ||| faultBits p) c)

/-- PAGE_STAT, which follows the page's other registers (R462). -/
def pageStat (c : Chip) (p : Page) : Nat :=
  let b := pageBase p
  (decide (rd32 c (b + Reg.HDR_EVT_STAT) &&& rd32 c (b + Reg.HDR_EVT_EN) ≠ 0)).toNat
    + 2 * (decide (rd32 c (b + Reg.HDR_FAULT_STAT) ≠ 0)).toNat
    + 4 * (c.mqueue.any (fun q => decide (q.page = p))).toNat + 8 * (locked c p).toNat

/-- A host clear of W1C bits: those that the hardware has set in the same cycle stay set (R5, R6). -/
def clearSticky (a : Nat) (v : Word) (c : Chip) : Chip :=
  wr32 a (rd32 c a &&& ~~~(v &&& mrd32 c.before a)) c

/-- The write of a header register (R462). -/
def headerWrite (p : Page) (o : Nat) (priv : Bool) (v : Word) (c : Chip) : Chip :=
  let a := pageBase p + o
  if o = Reg.HDR_PAGE_CTL then wrMask a 0x00003F01 v c
  else if o = Reg.HDR_EVT_STAT ∨ o = Reg.HDR_FAULT_STAT then clearSticky a v c
  else if o = Reg.HDR_EVT_EN then wrMask a (if locked c p then eventBits p &&& ~~~faultBits p else eventBits p) v c
  else if o = Reg.HDR_EVT_FORCE then if priv then evtForce p v c else c
  else if o = Reg.HDR_COMMIT then
    if wbit v 0 then commitPage p c else if wbit v 1 then discardPend p c else c
  else if o = Reg.HDR_LOCK then if priv ∧ wbit v 0 then lockPage p c else c
  else c

/-- The SEL registers of a page, as of the last rim, after a selection (R158, R197, R223, R254, R344): `f` shows the page, `from` and `n` are its
SEL DWORDs. -/
def selShow (start n : Nat) (f : Chip → Chip) (c : Chip) : Chip :=
  let ck := match (if c.ckNext then c.ckA else c.ckB) with
    | some x => x.2.1
    | none => c.toRetained
  let d := f { c with toRetained := ck }
  forEach n (fun k c => wr32 (start + 4 * k) (rd32 d (start + 4 * k)) c) c

/-- What a selection register shows at once. -/
def selEffects (a : Nat) (c : Chip) : Chip :=
  if a = Reg.ECHO_STAT_SEL then selShow (Reg.ECHO_STAT_SEL + 4) 6 showEcho c
  else if a = Reg.TASK_TASK_SEL then selShow (Reg.TASK_TASK_SEL + 4) 17 showTasks c
  else if a = Reg.MOTION_STAT_SEL then selShow (Reg.MOTION_STAT_SEL + 4) 8 showMotion c
  else if a = Reg.STEPDRV_STAT_SEL then showStepSel c
  else if a = Reg.WLINK_SEL then showWlink c
  else if a = Reg.CAPTURE_STAT_SEL then selShow (Reg.CAPTURE_STAT_SEL + 4) 7 showCapture c
  else if a = Reg.HEALTH_CODE_SEL ∨ a = Reg.HEALTH_HIST_SEL ∨ a = Reg.HEALTH_EXT_SEL then showHealth c
  else if a = Reg.HEALTH_RD_INDEX then readRecord c
  else c

/-- The registers that the page stages whole, so that its COMMIT can judge their reserved bits: port records, publish and subscribe groups. -/
def stagedRaw (a : Nat) : Bool := (decide (0xAC00 ≤ a) && decide (a < 0xB000)) || (decide (0xF100 ≤ a) && decide (a < 0xF400) && decide (a % 32 ≠ 0x18))

/-- A commanded restart (R476, R480, R482). -/
def restartCommand (c : Chip) : Chip :=
  if c.dev = .heldRestart ∨ c.pf ∨ c.restartReq ≠ .none then c
  else triggerFlush false { (if hasShadow c then handOver false c else c) with restartReq := .flush }

/-- DEV_CMD (R470). -/
def devCmd (priv : Bool) (v : Word) (c : Chip) : Chip :=
  let c := if fld v 1 0 = 3 then raiseEv Event.SYS_RUN_REFUSED 0 [6] (wrF Reg.SYS_RUN_REFUSE 3 0 6 c)
    else if wbit v 0 then { c with devReq := some true, devAuto := false }
    else if wbit v 1 then { c with devReq := some false, devAuto := false }
    else c
  if priv ∧ wbit v 2 then restartCommand c else c

/-- Bits of the guards that a U-view reset request may not name: those with OP_RESET = 0 (R133). -/
def resetDenied (c : Chip) (w : Nat) (v : Word) : Word := v &&& mapWord w (fun g => !mB c.mem (guardRec g + 0x10) 1)

/-- A write of GUARD.RESET (R133). -/
def guardResetReq (bar : Bar) (w : Nat) (v : Word) (c : Chip) : Chip :=
  let a := Reg.GUARD_RESET + 4 * w
  let bad := if bar = .bar2 then 0 else resetDenied c w v
  let c := if bad = 0 then c else
    writeDenied .guard bar a (forEach (onesBelow 32 bad.toNat).length (fun _ c => regInc Reg.GUARD_RESET_DENIED_COUNT c) c)
  wr32 a (rd32 c a ||| (v &&& ~~~bad)) c

/-- A W1S register whose effect is at the next rim takes its bits now. -/
def setBits (a : Nat) (v : Word) (c : Chip) : Chip := wr32 a (rd32 c a ||| v) c

/-- FLAG_SET or FLAG_CLR, word `w` (R174). -/
def flagWrite (w : Nat) (set : Bool) (v : Word) (c : Chip) : Chip :=
  setBits ((if set then Reg.TASK_FLAG_SET else Reg.TASK_FLAG_CLR) + 4 * w) v
    { c with flagWrites := c.flagWrites ++ (onesBelow 32 v.toNat).map (fun b => (32 * w + b, set)) }

/-- ARM or DISARM (R335). -/
def armWrite (arm : Bool) (v : Word) (c : Chip) : Chip :=
  setBits (if arm then Reg.CAPTURE_ARM else Reg.CAPTURE_DISARM) (v &&& 0xFFFF)
    { c with capCmds := c.capCmds ++ (onesBelow 16 v.toNat).map (fun s => (s, arm)) }

/-- CHECK_CMD (R43). -/
def checkCmd (v : Word) (c : Chip) : Chip := if wbit v 1 then checkStart (wbit v 0).toNat c else c

/-- FIRST_CLR (R137). -/
def firstClr (c : Chip) : Chip := wr32 Reg.GUARD_FIRST_TRIP 0 (wr32 Reg.GUARD_FIRST_TICK 0 c)

/-- CHAL_CMD (R452, R453). -/
def chalCmd (v : Word) (c : Chip) : Chip :=
  let c := if wbit v 0 then newChallenge c else c
  if wbit v 1 then endSession 1 c else c

/-- BANKn_LEN and AVG_Bn (R43, R46, R57): a write to the active bank's is discarded, one to the other returns its bank to UNCHECKED,
from FAIL too (DESIGN CHOICE: R43 speaks of a write during the check and after a pass; log entry 62). -/
def bankRegWrite (b a : Nat) (mask v : Word) (c : Chip) : Chip :=
  if b = c.bankActive then raiseEv Event.WEAVE_ACTIVE_BANK_WRITE 0 [a] c
  else uncheckBank b (wrMask a mask v c)

/-! ### Interrupts (R464) -/

/-- Whether a channel's summary is true (R465). -/
def chanSummary (c : Chip) (ch : Nat) : Bool :=
  decide (rdN c (dmaBlock ch + 0x28) ≤ tabGet (fun _ => 0) c.lnk.wr ch - tabGet (fun _ => 0) c.lnk.irqFrom ch)
    || tabGet (fun _ => false) c.lnk.ended ch

/-- The pages and channels whose interrupts go to a vector. -/
def vectorPages (c : Chip) (v : Nat) : List Page :=
  allPages.filter (fun p => rdB c (pageBase p + Reg.HDR_PAGE_CTL) 0 && decide (rdF c (pageBase p + Reg.HDR_PAGE_CTL) 13 8 = v))
def vectorChans (c : Chip) (v : Nat) : List Nat :=
  (List.range 8).filter (fun ch => rdB c (dmaBlock ch) 2 && decide (rdF c (dmaBlock ch) 13 8 = v))

/-- A vector's summary. -/
def vectorSummary (c : Chip) (v : Nat) : Bool :=
  (vectorPages c v).any (fun p => decide (pageStat c p % 4 ≠ 0)) || (vectorChans c v).any (chanSummary c)

/-- Whether a vector's message may be sent. -/
def vectorOpen (c : Chip) (v : Nat) : Bool :=
  c.lnk.msixEn && !c.lnk.funcMask && c.lnk.bme && !rdB c (0x1440C + 16 * v) 0

/-- The PBA bit of a vector. -/
def pbaWord (v : Nat) : Nat := 0x14800 + 4 * (v / 32)

/-- Vectors whose summary has fallen may send again. -/
def settleVectors (c : Chip) : Chip :=
  { c with lnk := { c.lnk with sent := c.lnk.sent.filter (fun e => vectorSummary c e.1) } }

/-- A vector's message leaves; its channels count their progress from here (R465). -/
def sendVector (v : Nat) (c : Chip) : Chip :=
  let l := c.lnk
  let chans := vectorChans c v
  let l := { l with
    sent := tabIns v (nowAt c) l.sent,
    irqFrom := chans.foldl (fun t ch => tabPut (fun _ => 0) t ch (tabGet (fun _ => 0) l.wr ch)) l.irqFrom,
    ended := chans.foldl (fun t ch => tabDel t ch) l.ended }
  emit (.msix v) (wrB (pbaWord v) (v % 32) false { c with lnk := l })

/-- A vector's summary has risen: its message goes out, or its PBA bit is set. -/
def msixMessage (v : Nat) (c : Chip) : Chip :=
  if !vectorSummary c v || (tabFind c.lnk.sent v).isSome then c
  else if vectorOpen c v then settleVectors (sendVector v c)
  else wrB (pbaWord v) (v % 32) true c

/-- The hold-off of a vector has passed with its summary still true. -/
def irqHoldoff (v : Nat) (c : Chip) : Chip :=
  let us := rdF c Reg.HOST_IRQ_HOLDOFF 15 0
  match tabFind c.lnk.sent v with
  | none => c
  | some t =>
    if us = 0 ∨ nowAt c < t + 250 * us ∨ !vectorSummary c v then c
    else if vectorOpen c v then settleVectors (sendVector v c)
    else wrB (pbaWord v) (v % 32) true c

/-- Messages whose PBA bit is set go out once their vectors are open. -/
def sendPending (c : Chip) : Chip :=
  forEach 64 (fun v c => if rdB c (pbaWord v) (v % 32) && vectorOpen c v then settleVectors (sendVector v c) else c) c

/-- Host software clears a vector's Mask bit, or writes the configuration bits. -/
def msixUnmask (v : Option Nat) (cfg : Option HostCfg) (c : Chip) : Chip :=
  let c := match v with | some v => wrB (0x1440C + 16 * v) 0 false c | none => c
  let c := match cfg with
    | some g => wr32 Reg.HOST_CFG_STAT (Word.ofNat (g.mps % 8 + 0x10 * (g.mrrs % 8) + 0x100 * g.bme.toNat + 0x200 * g.msix.toNat))
        { c with lnk := { c.lnk with msixEn := g.msix, funcMask := g.funcMask, bme := g.bme } }
    | none => c
  sendPending c

/-! ### DMA (R465) -/

/-- The streaming set that names a channel and has something for it. -/
def dmaSet (c : Chip) (ch : Nat) : Option Nat :=
  (List.range 16).find? (fun s => capEn c.mem s && capStream c.mem s && decide (capDma c.mem s = ch)
    && (decide ((c.cap s).mode = .stream) || decide ((c.cap s).sent < (c.cap s).total)))

/-- Whether the channel's set streams. -/
def dmaStreams (c : Chip) (ch : Nat) : Bool :=
  (List.range 16).any (fun s => capEn c.mem s && capStream c.mem s && decide (capDma c.mem s = ch) && decide ((c.cap s).mode = .stream))

/-- A channel's ring size and free space. -/
def dmaSize (c : Chip) (ch : Nat) : Nat := 2 ^ rdF c (dmaBlock ch) 21 16
def dmaWr (c : Chip) (ch : Nat) : Nat := tabGet (fun _ => 0) c.lnk.wr ch
def dmaRd (c : Chip) (ch : Nat) : Nat := rdN c (dmaBlock ch + 0x18) + 0x100000000 * rdN c (dmaBlock ch + 0x1C)
def dmaFree (c : Chip) (ch : Nat) : Nat := dmaSize c ch - (dmaWr c ch - dmaRd c ch)

/-- DMA_STAT as it reads. -/
def showDma (c : Chip) : Chip :=
  forEach 8 (fun ch c =>
    let s := (List.range 16).find? (fun s => capEn c.mem s && capStream c.mem s && decide (capDma c.mem s = ch))
    let waits := rdB c (dmaBlock ch) 0 && (!c.lnk.bme || decide (dmaFree c ch < 8))
    wr32 (dmaBlock ch + 0x2C) (Word.ofNat (waits.toNat + 0x10 * s.getD 0 + 0x100 * s.isSome.toNat)) c) c

/-- A discarded write to a channel. -/
def dmaErr (ch : Nat) (c : Chip) : Chip := raiseHost Event.HOST_DMA_ERR ch [] c

/-- RD_COUNT takes a value (R465). -/
def rdCount (ch value : Nat) (c : Chip) : Chip :=
  if value < dmaRd c ch ∨ dmaWr c ch < value then dmaErr ch c
  else wr32 (dmaBlock ch + 0x18) (Word.ofNat value) (wr32 (dmaBlock ch + 0x1C) (Word.ofNat (value / 0x100000000)) c)

/-- A write to a channel's block, at offset `o` of it (R465, R471). -/
def dmaWrite (ch o : Nat) (v : Word) (c : Chip) : Chip :=
  let a := dmaBlock ch + o
  let en := rdB c (dmaBlock ch) 0
  if o = 0x00 then
    if (en ∧ fld v 21 16 ≠ rdF c a 21 16) ∨ (en ∧ wbit v 0 = false ∧ dmaStreams c ch) then dmaErr ch c
    else wrMask a 0x003F3F07 v c
  else if o = 0x18 then rdCount ch (v.toNat + 0x100000000 * tabGet (fun _ => 0) c.lnk.rdHigh ch) c
  else if o = 0x1C then { c with lnk := { c.lnk with rdHigh := tabPut (fun _ => 0) c.lnk.rdHigh ch v.toNat } }
  else if o = 0x08 ∨ o = 0x0C ∨ o = 0x20 ∨ o = 0x24 then if en then dmaErr ch c else wr32 a v c
  else if o = 0x28 then wr32 a v c
  else c

/-- The bytes of a set's ring from which DMA goes on, `n` of them. -/
def unsentBytes (c : Chip) (s n : Nat) : List Byte :=
  let x := c.cap s
  let size := max (capSize c.mem s) 1
  let from_ := (x.wptr + size - (x.total - x.sent) % size) % size
  let fit := min n (size - from_)
  recRead c.recMem (capBase c.mem s + from_) fit ++ recRead c.recMem (capBase c.mem s) (n - fit)

/-- A channel writes a batch of up to `n` items (R465); its read of the record memory is a grant of R336. -/
def dmaTransfer (ch n : Nat) (c : Chip) : Chip :=
  match dmaSet c ch with
  | none => showDma c
  | some s =>
    let x := c.cap s
    let k := 8 * min n (min ((x.total - x.sent) / 8) (dmaFree c ch / 8))
    if !rdB c (dmaBlock ch) 0 || !c.lnk.bme || decide (k = 0) then showDma c
    else
      let w := dmaWr c ch
      let base := rdN c (dmaBlock ch + 8) + 0x100000000 * rdN c (dmaBlock ch + 0xC)
      let c := emit (.dma ch (base + w % dmaSize c ch) (unsentBytes c s k)) c
      let ends := x.ended && decide (x.sent + k = x.total)
      let l := { c.lnk with
        wr := tabPut (fun _ => 0) c.lnk.wr ch (w + k),
        ended := if ends then tabIns ch true c.lnk.ended else c.lnk.ended }
      let c := { c.setCap s { x with sent := x.sent + k } with lnk := l, recPtr := 17 + ch }
      let c := if rdB c (dmaBlock ch) 1 then
          emit (.writeBack ch (rdN c (dmaBlock ch + 0x20) + 0x100000000 * rdN c (dmaBlock ch + 0x24)) (w + k)) c
        else c
      showDma c

/-! ### An accepted write -/

/-- The bits of a register's fields of one access code that a view may write and that LOCK leaves writable. -/
def fieldBits (l : List FieldDef) (acc : Acc) : Word := fieldsMask (l.filter (fun f => decide (f.acc = acc)))

/-- The fields of a register that a write through a view may act on (R459, R463), and whether LOCK has discarded some of it. -/
def actingFields (c : Chip) (p : Page) (a : Nat) (bar : Bar) : List FieldDef × Bool :=
  let l := (rowFields a).filter (fun f => !f.p || decide (bar = .bar2))
  let shut (f : FieldDef) : Bool := locked c p && f.p && (decide (f.acc = .rw) || decide (f.acc = .rws))
  (l.filter (fun f => !shut f), l.any shut)

/-- The write of a page register below its header. -/
def registerWrite (p : Page) (bar : Bar) (a : Nat) (bytes val : Word) (c : Chip) : Chip :=
  let f := actingFields c p a bar
  let priv := decide (bar = .bar2)
  let c := if f.2 then writeDenied p bar a c else c
  let rws := (if stagedRaw a && decide (f.1 ≠ []) then 0xFFFFFFFF else fieldBits f.1 .rws) &&& bytes
  let rw := fieldBits f.1 .rw &&& bytes
  let w1s := fieldBits f.1 .w1s &&& bytes &&& val
  let wo := fieldBits f.1 .wo &&& bytes
  let v := val &&& wo
  -- staged values
  let c := if rws = 0 then c
    else if a = Reg.HEALTH_CODE_CFG then stageItem p ⟨codeCfg (rdF c Reg.HEALTH_CODE_SEL 11 0), val, rws, false, priv⟩ c
    else stageItem p ⟨a, val, rws, false, priv⟩ c
  -- values that take effect now
  let c := if rw = 0 then c
    else if 0x14100 ≤ a ∧ a < 0x14300 then dmaWrite ((a - 0x14100) / 64) ((a - 0x14100) % 64) val c
    else if a = Reg.WEAVE_BANK0_LEN ∨ a = Reg.WEAVE_BANK1_LEN then bankRegWrite ((a - Reg.WEAVE_BANK0_LEN) / 4) a rw val c
    else if Reg.WEAVE_AVG_B0 ≤ a ∧ a < Reg.WEAVE_AVG_B0 + 0x400 then bankRegWrite ((a - Reg.WEAVE_AVG_B0) / 0x200) a rw val c
    else selEffects a (wrMask a rw val c)
  -- bits that set
  let c := if w1s = 0 then c
    else if Reg.GUARD_RESET ≤ a ∧ a < Reg.GUARD_RESET + 32 then guardResetReq bar ((a - Reg.GUARD_RESET) / 4) w1s c
    else if Reg.TASK_FLAG_SET ≤ a ∧ a < Reg.TASK_FLAG_SET + 32 then flagWrite ((a - Reg.TASK_FLAG_SET) / 4) true w1s c
    else if Reg.TASK_FLAG_CLR ≤ a ∧ a < Reg.TASK_FLAG_CLR + 32 then flagWrite ((a - Reg.TASK_FLAG_CLR) / 4) false w1s c
    else if a = Reg.CAPTURE_ARM then armWrite true w1s c
    else if a = Reg.CAPTURE_DISARM then armWrite false w1s c
    else if a = Reg.CAPTURE_SW_TRIG then swTrig w1s c
    else if a = Reg.STEPDRV_UNRETIRE ∨ a = Reg.STEPDRV_CLR_OFFS then stageItem p ⟨a, w1s, w1s, false, priv⟩ c
    else setBits a w1s c
  -- commands
  if wo = 0 then c
  else if a = Reg.SYS_DEV_CMD then devCmd priv v c
  else if a = Reg.WEAVE_CHECK_CMD then checkCmd v c
  else if a = Reg.GUARD_FIRST_CLR then if wbit v 0 then firstClr c else c
  else if a = Reg.TASK_CMD ∨ a = Reg.MOTION_SET_POS_CMD then stageItem p ⟨a, v, wo, true, priv⟩ c
  else if 0xA400 ≤ a ∧ a < 0xAC00 then
    let n := (a - 0xA400) / 64
    if (a - 0xA400) % 64 = 0x10 then fskTxData n (fld v 7 0) c
    else
      let c := if wbit v 2 then fskFlush n c else c
      if fld v 1 0 = 0 then c else stageItem p ⟨a, v &&& 0x01FF0003, wo &&& 0x01FF0003, true, priv⟩ c
  else if a = Reg.NET_HTX_CTL then htxGo v c
  else if a = Reg.NET_HRX_POP then if wbit v 0 then hrxPop c else c
  else if a = Reg.HEALTH_FLUSH_CMD then if wbit v 0 then triggerFlush false c else c
  else if a = Reg.SEC_CHAL_CMD then chalCmd v c
  else if a = Reg.HOST_WD_KICK then if wbit v 0 then { c with lnk := { c.lnk with kicked := nowAt c } } else c
  else if a = Reg.SEC_PKG_CMD ∨ a = Reg.SEC_QUOTE_CMD then c
  else if v = 0 then c
  else stageItem p ⟨a, v, wo, true, priv⟩ c

/-- The write of a window's word (R43, R46, R104, R460). -/
def windowWrite (w : Window) (bar : Bar) (a : Nat) (bytes val : Word) (c : Chip) : Chip :=
  let p := windowPage w
  let priv := decide (bar = .bar2)
  if w = .weave then bankRegWrite ((a - 0x00100000) / 0x10000) a bytes val c
  else
    let m := windowMask a &&& bytes
    let k := windowCmds a &&& bytes &&& val
    let c := if m = 0 then c else stageItem p ⟨a, val, m, false, priv⟩ c
    if k = 0 then c else stageItem p ⟨a, k, k, true, priv⟩ c

/-- What an accepted write does. -/
def hostAct (bar : Bar) (a : Nat) (val : Word) (be : Nat) (c : Chip) : Chip :=
  let bytes := byteMask be
  let c := match windowOfAddr a with
    | some w => windowWrite w bar a bytes val c
    | none =>
      match pageOfAddr a with
      | none => c
      | some p => if a % 0x1000 < 0x40 then headerWrite p (a % 0x1000) (decide (bar = .bar2)) val c else registerWrite p bar a bytes val c
  let c := if 0x14100 ≤ a ∧ a < 0x14300 then showDma c else c
  sendPending (settleVectors c)

/-! ### Writes that the partner acknowledges (R400, R401, R430) -/

/-- Whether an owner forwards a write to its partner before it accepts it (R401). Writes to the ENGINE page go over as well, RETIRE_REQ and
UNRETIRE among them, and so act on the partner's lanes too (DESIGN CHOICE: R401 forwards commands, while R82 and R424 keep each unit's lane map
and retirements its own; log entry 62). -/
def forwarded (c : Chip) (p : Page) (a : Nat) : Bool :=
  decide (roleCode c = 2) && linkUp c && (decide (partnerRole c = 1) || decide (partnerRole c = 3))
    && (match p with | .twin | .host | .clkpwr | .health | .ist | .capture | .sec => false | _ => true)
    && !(inMigration c && c.twin.divRecs.any (fun r => decide (r.1 ≤ a) && decide (a < r.2)))

/-- A host write (R5, R451, R459, R460): BAR, offset, DWORD and byte enables. -/
def hostWrite (bar : Bar) (addr : Nat) (val : Word) (be : Nat) (c : Chip) : Chip :=
  let a := addr - addr % 4
  match discarded bar a val be c with
  | some c => c
  | none =>
    if forwarded c ((ownerPage a).getD .sys) a then
      sendMirror (.entry (.write bar a val be)) { c with twin := { c.twin with awaiting := c.twin.awaiting ++ [⟨bar, a, val, be⟩] } }
    else hostAct bar a val be c

/-- The partner acknowledges the oldest write that awaits it (R401). -/
def twinAck (c : Chip) : Chip :=
  match c.twin.awaiting with
  | [] => c
  | w :: rest => hostAct w.bar w.addr w.val w.be { c with twin := { c.twin with awaiting := rest } }

/-- The link is lost: the owner accepts the writes that wait (R401). -/
def acceptAwaiting (c : Chip) : Chip :=
  forAll c.twin.awaiting (fun w c => hostAct w.bar w.addr w.val w.be c) { c with twin := { c.twin with awaiting := [] } }

/-- A host write that the owner forwards is accepted at the shadow (R401). -/
def mirrorWrite (bar : Bar) (a : Nat) (val : Word) (be : Nat) (c : Chip) : Chip :=
  if linkUp c ∧ (roleCode c = 3 ∨ roleCode c = 1) then hostAct bar a val be c else c

/-! ### Reads (R5, R459, R460) -/

/-- The packed state word of DEV_STAT and signal 0x0153 (R469). -/
def packedState (c : Chip) : Word :=
  let d := match c.dev with | .safeIdle => 0 | .run => 1 | .heldRestart => 2
  Word.ofNat (d + 4 * c.pf.toNat + 0x10 * roleCode c + 0x80 * (inMigration c).toNat + 0x100 * rdF c Reg.TIME_TIME_STAT 1 0
    + 0x400 * rdF c Reg.SEC_LC_STAT 2 0 + 0x2000 * c.sec.session.isSome.toNat)

/-- Whether a read is served with zero: in a restart, of a scrapped part, and of an offset that is not mapped (R424, R460, R480). -/
def readsZero (c : Chip) (bar : Bar) (a : Nat) : Bool :=
  !mapped bar a
    || (decide (c.dev = .heldRestart) && decide (a ≠ Reg.SYS_DEV_STAT))
    || (decide (rdF c Reg.SEC_LC_STAT 2 0 = 4) && decide (ownerPage a ≠ some .sec) && decide (ownerPage a ≠ some .health)
      && decide (ownerPage a ≠ some .host))

/-- Registers whose RC fields hold the latest or largest value rather than a count: BAD_ADDR, BAD_INFO and SKEW. -/
def rcValue (a : Nat) : Bool := [Reg.SYS_BAD_ADDR, Reg.SYS_BAD_INFO, Reg.CLKPWR_SKEW].contains a

/-- What the read of an RC field leaves in it: what the present cycle has added, or put there (R6). -/
def rcLeft (a : Nat) (was now : Word) (f : FieldDef) : Word :=
  let n := fld now f.hi f.lo
  let w := fld was f.hi f.lo
  setFld 0 f.hi f.lo (if rcValue a then (if n = w then 0 else n) else n - w)

/-- A read of a register with the RC fields `l`: it returns them as the present cycle found them, and they keep only what came in it (R5, R6). -/
def rcRead (a : Nat) (l : List FieldDef) (c : Chip) : Word × Chip :=
  let m := fieldsMask l
  let was := mrd32 c.before a
  let left := l.foldl (fun w f => w ||| rcLeft a was (rd32 c a) f) 0
  let c' := wrMask a m left { c with before := memPut32 c.before a (was &&& ~~~m) }
  ((rd32 c a &&& ~~~m) ||| (was &&& m), if a = Reg.CLKPWR_SKEW then { c' with skewPeak := fld left 31 16 } else c')

/-- A read of a page register: the word, and the chip with what the read clears or latches. -/
def registerRead (bar : Bar) (a : Nat) (c : Chip) : Word × Chip :=
  let hidden := if bar = .bar2 then 0 else fieldsMask ((rowFields a).filter (·.p))
  let clears := (rowFields a).filter (fun f => decide (f.acc = .rc) && (!f.p || decide (bar = .bar2)))
  if a % 0x1000 = Reg.HDR_PAGE_STAT then (Word.ofNat (pageStat c ((pageOfAddr a).getD .sys)), c)
  else if a % 0x1000 = Reg.HDR_LOCK ∧ bar ≠ .bar2 then (0, c)
  else if a = Reg.SYS_DEV_STAT then (packedState c, c)
  else if a = Reg.TASK_TASK_SEL ∧ rd32 c a = 0 then (1, c)
  else if a = Reg.TICK_TICK_COUNT_LO then
    (Word.ofNat (c.tick % 0x100000000), wr32 Reg.TICK_TICK_COUNT_HI (Word.ofNat (c.tick / 0x100000000 % 0x10000)) c)
  else if a = Reg.TICK_TICK_PHASE then (Word.ofNat (c.phase % 0x8000), c)
  else if a = Reg.TIME_NS_NOW then
    (Word.ofNat (ptpNs c % 1000000000), wr32 Reg.TIME_SEC_LO (Word.ofNat (ptpSec c % 0x100000000))
      (wr32 Reg.TIME_SEC_HI (Word.ofNat (ptpSec c / 0x100000000 % 0x10000)) c))
  else if a = Reg.HEALTH_OP_SEC_LO then
    (Word.ofNat (c.opSec % 0x100000000), wrF Reg.HEALTH_OP_SEC_HI 7 0 (c.opSec / 0x100000000) c)
  else if 0xA400 ≤ a ∧ a < 0xAC00 ∧ (a - 0xA400) % 64 = 0x1C then fskRead ((a - 0xA400) / 64) c
  else if 0x14100 ≤ a ∧ a < 0x14300 ∧ (a - 0x14100) % 64 = 0x10 then
    (Word.ofNat (dmaWr c ((a - 0x14100) / 64) % 0x100000000),
      wr32 (a + 4) (Word.ofNat (dmaWr c ((a - 0x14100) / 64) / 0x100000000)) c)
  else
    let c := if pageOfAddr a = some .task then showTaskLive c else if pageOfAddr a = some .net then netServe c.phase c else c
    let r := if clears = [] then (rd32 c a, c) else rcRead a clears c
    (r.1 &&& ~~~hidden, r.2)

/-- A host read of a DWORD (R5, R459, R460). -/
def hostRead (bar : Bar) (addr : Nat) (c : Chip) : Word × Chip :=
  let a := addr - addr % 4
  if bar = .bar4 then
    (if rdB c Reg.CLKPWR_CLK_STAT 6 then Word.ofNat (leVal (recRead c.recMem a 4)) else 0, c)
  else if readsZero c bar a then (0, c)
  else match windowOfAddr a with
    | some .board => ((settledRd c ((a - 0x00C00000) / 4)).val, c)
    | some _ => (rd32 c a, c)
    | none => registerRead bar a c

/-- A host read whose completion leaves the part. -/
def readOut (bar : Bar) (a : Nat) (c : Chip) : Chip :=
  let r := hostRead bar a c
  emit (.readData r.1) r.2

/-! ### The link itself (R457, R458, R509) -/

/-- The HOST page returns to its reset values; LOCK lasts until power-on (R458, R463). -/
def resetHostPage (c : Chip) : Chip :=
  let l := locked c .host
  let c := { c with mem := c.mem.filter (fun e => decide (e.1 < 0x14000) || decide (0x15000 ≤ e.1)) }
  let c := if l then lockPage .host c else c
  showCommit .host c

/-- A link-down, hot reset, D3hot or Function Level Reset (R458). -/
def hostReset (c : Chip) : Chip :=
  let c := resetHostPage { c with lnk := { kicked := c.lnk.kicked } }
  let c := forAll allPages (fun p c => if pendOf c p = [] then c else setPend p [] c) c
  let c := raiseEv Event.HOST_HOST_RESET 0 [] (endSession 1 c)
  showDma c

/-- The link trains (R457, R471): its generation 1 to 4 and its width, 1, 2 or 4. -/
def linkTraining (gen width : Nat) (c : Chip) : Chip :=
  let low := decide (gen < 4) || decide (width < 4)
  let c := wr32 Reg.HOST_LINK_STAT (Word.ofNat (gen + 0x10 * width + 0x100 * low.toNat)) c
  if low then raiseEv Event.HOST_PCIE_DEGRADED 0 [] c else c

/-- The host watchdog times out (R509). -/
def hostLost (c : Chip) : Chip :=
  let ms := rdF c Reg.HOST_WD_CFG 15 0
  let act := rdB c Reg.HOST_WD_CFG 16
  if c.dev ≠ .run ∨ ms = 0 ∨ nowAt c < c.lnk.kicked + 250000 * ms then c
  else
    let c := raiseEv Event.HOST_HOST_LOST 0 [ms, act.toNat] { c with lnk := { c.lnk with kicked := nowAt c } }
    if act ∧ ownsOutputs c then { c with safeCause := some Event.HOST_HOST_LOST.code } else c

end Sys2Proof.Machine
end

