-- ==== Sys2Proof/Machine/Lanes.lean ====
section
/-!
DEFINITION. Machine/Lanes.lean: the lane map at the rim and at power-on: retirements, spares, renumbering and un-retirement (R59, R74–R80, R83).
-/
namespace Sys2Proof.Machine

open Sys2Proof

/-- The cluster of a physical lane (R59). -/
def clusterOf (pl : Nat) : Nat := pl / 5

/-- The byte of LANE_MAPm for an active number: VALID and PHYS (R83). -/
def laneEntry (c : Chip) (a : Nat) : Nat := match c.laneMap[a]? with | some pl => pl + 0x80 | none => 0

/-- LANE_MAP, LANE_RETIRED, LANE_SPARE and LANE_COUNT (R83). -/
def showLanes (c : Chip) : Chip :=
  let c := forEach 4 (fun m c => wr32 (Reg.ENGINE_LANE_MAP0 + 4 * m)
    (Word.ofNat (((List.range 4).map (fun e => laneEntry c (4 * m + e) * 2 ^ (8 * e))).sum)) c) c
  let mask (l : List Nat) : Word := Word.ofNat ((l.map (2 ^ ·)).sum)
  wr32 Reg.ENGINE_LANE_RETIRED (mask c.laneOut) (wr32 Reg.ENGINE_LANE_SPARE (mask c.spares)
    (wr32 Reg.ENGINE_LANE_COUNT (Word.ofNat (laneCount c)) c))

/-- A physical lane retires (R74, R84): STOP_STAT, and LANE_RETIRED. A retirement that a stop caused keeps the strand of that stop. -/
def retireLane (pl cause : Nat) (strand : Option Nat) (c : Chip) : Chip :=
  let stat := pl + 0x20 * cause + (match strand with | some i => 0x100 * i | none => 0x200000)
  raiseEv Event.ENGINE_LANE_RETIRED pl [pl, cause] (wr32 Reg.ENGINE_STOP_STAT (Word.ofNat stat)
    { c with laneOut := c.laneOut ++ [pl], spares := c.spares.filter (fun x => decide (x ≠ pl)) })

/-- A cluster's spare, if it has one, takes the lowest active number whose lane has retired (R74); of two spares the lower physical number goes
first (DESIGN CHOICE: the rules give no order; log entry 62). -/
def spareIn (cl : Nat) (c : Chip) : Chip :=
  match (c.spares.filter (fun x => decide (clusterOf x = cl))).min?,
      (List.range c.laneMap.length).find? (fun a => match c.laneMap[a]? with
        | some pl => decide (clusterOf pl = cl) && c.laneOut.contains pl
        | none => false) with
  | some s, some a =>
    raiseEv Event.ENGINE_SPARE_IN s [s, a]
      { c with laneMap := c.laneMap.set a s, spares := c.spares.filter (fun x => decide (x ≠ s)) }
  | _, _ => c

/-- A retired lane returns to service (R79): as active number L where its cluster has fewer than four active lanes, else as a spare. -/
def unretireLane (pl : Nat) (c : Chip) : Chip :=
  if ¬ c.laneOut.contains pl then c else
  let l := laneCount c
  let c := clearHistory (laneUnit pl) { c with laneOut := c.laneOut.filter (fun x => decide (x ≠ pl)) }
  if l < 16 ∧ (c.laneMap.filter (fun x => decide (clusterOf x = clusterOf pl))).length < 4 then
    raiseEv Event.ENGINE_LANE_UNRETIRED pl [pl, l] { c with laneMap := c.laneMap ++ [pl] }
  else raiseEv Event.ENGINE_LANE_UNRETIRED pl [pl, 0xFFFFFFFF] { c with spares := c.spares ++ [pl] }

/-- What a change of L from `l0` brings (R77, R78, R82): both banks unchecked, and with fewer than 12 lanes the device's SAFE_IDLE, and at
a shadow, a blind shadow or a joining unit the end of its role (R396 cause 12). -/
def lanesChanged (l0 : Nat) (c : Chip) : Chip :=
  let l := laneCount c
  if l = l0 then c else
  let c := showTickRegs c
  let c := if l0 ≤ 14 ∨ l ≤ 14 then
      let walk := bankWalked c
      raiseEv Event.ENGINE_LANE_DEFICIT 0 [l] (uncheckBank 0 (uncheckBank 1 { c with walkAnyway := walk }))
    else c
  if l < 12 ∧ 12 ≤ l0 then
    let c := raiseEv Event.ENGINE_ENGINE_LOST 0 [l] { c with safeCause := some Event.ENGINE_ENGINE_LOST.code }
    if roleCode c = 3 ∨ roleCode c = 4 ∨ roleCode c = 1 then roleAtRim 5 12 2 c else c
  else c

/-- The lanes in rim cycles 480–495 (R74–R79): the retirements due and those asked for, spares and renumbering, then un-retirements of lanes
for which no retirement falls at this rim, in ascending physical number (DESIGN CHOICE: R79 gives no order; log entry 62). -/
def laneRim (c : Chip) : Chip :=
  let l0 := laneCount c
  let asked := onesBelow 20 (rdN c Reg.ENGINE_RETIRE_REQ)
  let back := onesBelow 20 (rdN c Reg.ENGINE_UNRETIRE)
  let c := wr32 Reg.ENGINE_RETIRE_REQ 0 (wr32 Reg.ENGINE_UNRETIRE 0 c)
  let due := (List.range 20).filterMap (fun pl =>
    if c.laneOut.contains pl then none
    else match c.laneDue.find? (fun d => decide (d.1 = pl)) with
      | some d => some d
      | none => if asked.contains pl then some (pl, 5, none) else none)
  let c := forAll due (fun d c => retireLane d.1 d.2.1 d.2.2 c) { c with laneDue := [] }
  let c := forEach 4 (fun cl c => spareIn cl (spareIn cl c)) c
  let c := { c with laneMap := c.laneMap.filter (fun pl => !c.laneOut.contains pl) }
  let c := forAll (back.filter (fun pl => !asked.contains pl && !due.any (fun d => decide (d.1 = pl)))) unretireLane c
  if due = [] ∧ back = [] then c else lanesChanged l0 (showLanes c)

/-- The lanes after self-test (R80): a default lane that passes keeps its number, the cluster's passing spare takes the lowest number of a
failed one, and the numbers left over close up. -/
def selfTestLanes (bad : List Nat) (c : Chip) : Chip :=
  let ok (pl : Nat) : Bool := !bad.contains pl
  let cluster (cl : Nat) : List Nat :=
    let lost := (List.range 4).find? (fun k => !ok (5 * cl + k))
    (List.range 4).filterMap (fun k =>
      if ok (5 * cl + k) then some (5 * cl + k)
      else if lost = some k ∧ ok (5 * cl + 4) then some (5 * cl + 4) else none)
  let c := { c with
    laneMap := (List.range 4).flatMap cluster,
    spares := ((List.range 4).map (fun cl => 5 * cl + 4)).filter (fun s => ok s && (List.range 4).all (fun k => ok (s - 4 + k))) }
  let c := forAll ((List.range 20).filter (fun pl => bad.contains pl)) (fun pl c => retireLane pl 6 none c) c
  let c := showTickRegs (showLanes c)
  if laneCount c < 12 then raiseEv Event.ENGINE_ENGINE_LOST 0 [laneCount c] c else c

end Sys2Proof.Machine
end

