-- ==== Sys2Proof/Machine/Power.lean ====
section
/-!
DEFINITION. Machine/Power.lean: power-on (R474–R477), the held-output restart (R475–R482), power failure (R483–R485), clocks and temperature
(R486–R488), and the life-cycle transitions, after which the part stands as after a power-on reset (R436).
-/
namespace Sys2Proof.Machine

open Sys2Proof

/-- The part with the checkpoint's guards and tasks, and the board in force, as a rim leaves them for the steps of the next tick (R172). -/
def takeSnaps (c : Chip) : Chip :=
  { c with rimTasks := (c.tasks.map (fun e => (e.1, taskStateCode e.2.state))).filter (fun (e : Nat × Nat) => decide (e.2 ≠ 0)),
           rimGuards := c.tripped }

/-! ### Power-on (R477) -/

/-- What a power-on leaves as it was: the health area, the count of power failures, the entropy source's draws and the levels at the pins. -/
def powerOnBase (strap : Bool) (old : Chip) : Chip :=
  let h := old.health
  let c := { Chip.reset with
    health := { area := h.area, head := h.head, wraps := h.wraps, sum0 := h.sum0, sum1 := h.sum1 },
    pfCount := old.pfCount, draws := old.draws,
    pins := (old.pins.filter (fun e => e.2.raw)).map (fun e => (e.1, { raw := true, deb := true })) }
  wr32 Reg.CLKPWR_CLK_STAT 0xFF (wr32 Reg.CLKPWR_PF_COUNT (Word.ofNat old.pfCount) (wrB Reg.TWIN_TWIN_STAT 3 strap c))

/-- Axes and loop ports that fail self-test retire before SAFE_IDLE is entered (R250, R282). -/
def selfTestUnits (bist : BistResult) (c : Chip) : Chip :=
  let c := forAll ((List.range 32).filter (fun n => bist.axes.contains n)) (fun n c =>
    raiseEv Event.STEPDRV_AXIS_RETIRED n [n, Event.STEPDRV_CHOP_TEST_FAIL.code] (c.setAx n { c.ax n with retired := true })) c
  forAll ((List.range 32).filter (fun n => bist.ports.contains n)) (fun n c =>
    portRim n (c.setPort n { c.port n with retDue := some Event.LPORT_READBACK_FAIL.code })) c

/-- The configuration slot at start-up (R449, R53), and the role of a unit in a pair (R416, R424). -/
def startConfig (v : Nv) (c : Chip) : Chip :=
  let m := c.mem
  let c := takeSwitches (checkBankNow 0 (configEffects m (loadSlot v c).2))
  let c := { c with tickLen := predictLen c, perN := tickN c }
  if pairEn c ∧ lcState v.fuses = 2 then
    wrF Reg.TWIN_TWIN_STAT 2 0 1 { c with twin := { c.twin with searching := true, joinAt := nowAt c } }
  else c

/-- The power-on sequence up to SAFE_IDLE (R477). Outputs keep their reset states until the first rim. -/
def powerOn (bist : BistResult) (strap : Bool) (v : Nv) (old : Chip) : Chip :=
  let c := selfTestUnits bist (selfTestLanes bist.lanes (powerOnBase strap old))
  let c := startConfig v (healthPowerOn c)
  let c := { c with autoCfg := rdB c Reg.SYS_DEV_CFG 0 }
  let c := if old.sec.session.isSome then raiseEv Event.SEC_SESSION_END 0 [0, 2] c else c
  secShow v c

/-- AUTO_RUN (R8, R477): the RUN that DEV_CFG asked for at the last reset of the logic die is issued at the rim of the first tick at which no port is STARTING and the role is SOLO or
ACTIVE; not after SLOT_INVALID. -/
def autoRun (c : Chip) : Chip :=
  if c.autoRun ∧ c.autoCfg ∧ ¬ c.sec.noAuto ∧ ¬ c.outReset ∧ ownsOutputs c
      ∧ (List.range 8).all (fun p => decide (wlState c p ≠ 1)) then
    { c with devReq := some true, devAuto := true, autoRun := false }
  else c

/-! ### Held-output restart (R475–R482) -/

/-- The logic-die reset asserts (R476, R478, R482): nothing in the field moves, but that an owner with a partner in SHADOW puts its outputs in
standby where it has not handed over (R413). -/
def assertRestart (cause : RestartCause) (c : Chip) : Chip :=
  if c.dev = .heldRestart then c else
  let c := if hasShadow c then dropOutputs c else c
  { c with
    devBefore := c.dev, dev := .heldRestart, restartReq := .none,
    restart := some { cause := cause, flushed := decide (cause = .command), arrays := decide (cause = .sramSupply) } }

/-- The cause of a restart that comes from a pin or a supply (Table 2 of R475). -/
def pinCause : RestartPin → RestartCause
  | .lreset => .lresetPin | .core => .coreSupply | .sram => .sramSupply

/-- A flush that a commanded restart waits for is complete (R480). -/
def restartFlushed (c : Chip) : Chip :=
  if c.restartReq = .flush ∧ ¬ c.health.flushing ∧ c.health.again = 0 then { c with restartReq := .rim } else c

/-- The end of a flush, which a commanded restart may await (R352, R480). -/
def flushEnd (ok : Bool) (c : Chip) : Chip :=
  if c.health.flushing ∧ ok then restartFlushed (healthFlush ok c) else healthFlush ok c

/-- The checkpoint half that a restore uses: the newer of those whose seal and CRC are good (R479). -/
def restoreHalf (sealA sealB : Bool) (c : Chip) : Option (Nat × Retained × Tab Byte) :=
  let a := if sealA then c.ckA else none
  let b := if sealB then c.ckB else none
  if c.ckNext then a.or b else b.or a

/-- Pages that run on through the restart (Table 4 of R478). -/
def pageRunsOn (a : Nat) : Bool :=
  match pageOfAddr a with
  | some .time | some .host | some .clkpwr => true
  | _ => false

/-- Addresses that the checkpoint holds: page registers, and the recorder's code configuration. -/
def inCheckpoint (a : Nat) : Bool := decide (a < 0x16000) || decide (0x02000000 ≤ a)

/-- The register memory after a restart: what runs on and the tables, which stand unless the large arrays were lost, and from the checkpoint
everything else. -/
def restoredMem (arrays : Bool) (m regs : Tab Byte) : Tab Byte :=
  (regs.filter (fun e => !pageRunsOn e.1)).foldl (fun m e => memPut m e.1 e.2)
    (m.filter (fun e => pageRunsOn e.1 || (!inCheckpoint e.1 && !arrays)))

/-- The chip at the first tick after a restart, before its blocks resume: the checkpoint's state, with what ran on (R478). -/
def restoredChip (ret : Retained) (regs : Tab Byte) (arrays : Bool) (elapsed : Nat) (c : Chip) : Chip :=
  { Chip.reset with
    toRetained := { ret with
      time := { c.time with base := c.time.base + elapsed * tickSpan c }, net := c.net, opSec := c.opSec, ports := c.ports, fsk := c.fsk,
      axes := c.axes, ais := c.ais, caps := c.caps, retValid := c.retValid },
    tick := tickAdd c.tick elapsed, cyc := c.cyc + elapsed * tickN c, mem := restoredMem arrays c.mem regs, recMem := c.recMem, health := c.health, lnk := c.lnk,
    sec := { c.sec with challenge := none, quoteDue := none, body := none, quote := [] },
    ckA := c.ckA, ckB := c.ckB, ckNext := c.ckNext, pins := c.pins, owNext := c.owNext, drvMem := c.drvMem, inMem := c.inMem, convAt := c.convAt, beat := c.beat + elapsed, boardTick := c.boardTick, tbFree := c.tbFree, axShown := c.axShown,
    pf := c.pf, pfCount := c.pfCount, draws := c.draws, hotLogic := c.hotLogic, hotField := c.hotField, syncSeen := c.syncSeen,
    skewPeak := c.skewPeak, vloopOk := c.vloopOk, vlowDue := c.vlowDue, outEn := c.outEn, outReset := c.outReset, autoRun := c.autoRun,
    autoCfg := mB (restoredMem arrays c.mem regs) Reg.SYS_DEV_CFG 0, before := restoredMem arrays c.mem regs, autoArm := c.autoArm,
    ring := { RingSt.reset with lost := c.ring.lost } }

/-- Loops whose destination is a loop port start from the command that the field die held: the code in effect, after the thermal limit, and of a
shared current the whole (R110, R279). -/
def holdPortLoops (c : Chip) : Chip :=
  forAll (listedRecords c.mem 0x00200000 256 2048) (fun l c =>
    let n := lrOutPort c.mem l
    if lrOutKind c.mem l = 1 ∧ n < 32 ∧ prSel c.mem n = 0 then
      let p := c.port n
      c.setLoop l { c.loop l with out := 4096 * ((if prShared c.mem n ∧ p.code ≠ 0 then min p.d p.limit else p.code : Nat) : Int) }
    else c) c

/-- The blocks after a restart, by each chapter's own rule (R54, R110, R155, R195, R221, R248, R283, R295, R313, R342, R391). -/
def resumeBlocks (c : Chip) : Chip :=
  let c := forAll allPages (fun p c => wr32 (pageBase p + Reg.HDR_COMMIT_STAT) 0 c) c
  let fixBank (b : Nat) (c : Chip) : Chip :=
    if b = c.bankActive ∧ bankStateOf c b ≠ .running then c else setBankState b .unchecked c
  let c := showBanks (fixBank 0 (fixBank 1 c))
  let c := wrB Reg.WEAVE_OVERRUN_STAT 14 false (wrF Reg.WEAVE_BANK_CTL 2 1 0 c)
  let c := forAll (tabKeys c.axes) axResume c
  let c := forAll (tabKeys c.ais) (fun n c => c.setAi n (aiRestarted (c.ai n))) c
  let c := vloopResumed (forEach 32 (fun n c => fskRestarted n (portResume n c)) c)
  let c := forAll (tabKeys c.echoes) (fun n c => c.setEcho n (echoRestarted (c.echoOf n))) c
  let c := takeSwitches (forEach 128 (fun n c => mpRestarted n true c) c)
  netRestarted (wlinkRestarted (tasksRestarted (holdPortLoops c)))

/-- The role of the unit after a restart (R482, Table 2 of R423): the twin paths are to be found again. -/
def resumeRole (c : Chip) : Chip :=
  let c := wrB Reg.TWIN_TWIN_STAT 4 false (wrB Reg.TWIN_TWIN_STAT 5 false (wrB Reg.TWIN_TWIN_STAT 10 false c))
  let r := roleCode c
  if r = 3 then setRole 1 9 0 c
  else if r = 4 then setRole 1 10 0 c
  else if r = 1 then { c with twin := { c.twin with firstCopy := false, joinAt := nowAt c } }
  else c

/-- The device-state code of STATE_CHANGE (R469). -/
def devCode : DevState → Nat
  | .safeIdle => 0 | .run => 1 | .heldRestart => 2

/-- The first tick after a restart takes its count under R33: where the period is no longer that of the ticks before, from the first boundary of
the new one. -/
def alignTick (n : Nat) (c : Chip) : Chip :=
  let c := if tickN c = n then c else
    let k := (c.time.base + tickSpan c - 1) / tickSpan c
    { c with tick := k % 2 ^ 48, cyc := c.cyc + cyclesTo (rateNow c) c.time.base (k * tickSpan c),
             time := { c.time with base := k * tickSpan c } }
  let c := { c with convAt := conversionsFrom c }
  { c with tickLen := predictLen c, perN := tickN c }

/-- The safe set (R481): every output at its value of SAFE_IDLE; axes keep chopping at hold, but those with SAFE_DIS go low. -/
def applySafeSet (c : Chip) : Chip :=
  let dev := c.dev
  let c := diosPOut (portsPOut true { c with dev := .safeIdle })
  let c := forAll (tabKeys c.axes) (fun n c =>
    let a := c.ax n
    c.setAx n { a.withEn (a.en && !mB c.drvMem (drv n) 6) with
      amp := drvIRun c.drvMem n * drvIHold c.drvMem n / 256, homedOff := a.homedOff || (a.en && mB c.drvMem (drv n) 6),
      safeOff := a.safeOff || (a.en && mB c.drvMem (drv n) 6) }) c
  { c with dev := dev }

/-- What a restart keeps where no half of the checkpoint is good: the lane map, retirements and spares, with the ENGINE page (R81). -/
def lanesKept (c : Chip) : Retained := { Retained.reset with laneMap := c.laneMap, spares := c.spares, laneOut := c.laneOut }

/-- RESTART_COMPLETE, `elapsed` ticks after the one in which the reset asserted (R479–R481): with a good checkpoint the device returns to the
state before; without one, after the hold expired or with the arrays lost, to SAFE_IDLE. -/
def restartComplete (sealA sealB : Bool) (elapsed : Nat) (v : Nv) (c : Chip) : Nv × Chip :=
  match c.restart with
  | none => (v, c)
  | some r =>
    if r.stopped then (v, c) else
    let half := if c.retValid then restoreHalf sealA sealB c else none
    let good := half.isSome && !r.arrays && !r.expired
    let cause := if r.expired then 0x002 else if good then 0 else 0x1E3
    let before := c.devBefore
    let strap := strapB c
    let session := c.sec.session.isSome
    -- without a good checkpoint the field die releases its outputs to the safe set
    let c := if good || r.expired then c else applySafeSet c
    let d := match half with
      | some h => restoredChip h.2.1 h.2.2 r.arrays elapsed c
      | none => wrB Reg.TWIN_TWIN_STAT 3 strap (restoredChip (lanesKept c) (c.mem.filter (fun e => decide (pageOfAddr e.1 = some Page.engine)))
          r.arrays elapsed c)
    let d := resumeBlocks { d with dev := if good then before else .safeIdle, devBefore := .safeIdle }
    let d := if r.arrays then takeSwitches (checkBankNow 0 (loadSlot v (showBanks { d with bankActive := 0, bank0 := .unchecked, bank1 := .unchecked })).2) else d
    let d := alignTick c.perN d
    -- the host watchdog has not run meanwhile, and starts anew (R509)
    let d := { d with lnk := { d.lnk with kicked := nowAt d } }
    let d := capGap true d.tick d.beat (healthRestarted r.flushed d)
    let d := resumeRole d
    let d := if roleCode d = 1 ∨ roleCode d = 5 then { d with dev := .safeIdle } else d
    let d := if before = .run ∧ d.dev = .safeIdle then suspendAll d else d
    let d := if session then raiseEv Event.SEC_SESSION_END 0 [0, 2] { d with sec := { d.sec with session := none } } else d
    let d := raiseEv Event.SYS_STATE_CHANGE 0 [2, devCode d.dev, cause] (wr32 Reg.SYS_STATE_TICK (Word.ofNat d.tick) d)
    let x := loadStopped v (takeSnaps d)
    (x.1, secShow x.1 x.2)

/-- The field die's hold expires (R481). -/
def holdExpiry (c : Chip) : Chip :=
  match c.restart with
  | some r => if r.expired ∨ r.stopped then c else applySafeSet { c with restart := some { r with expired := true } }
  | none => c

/-! ### Power failure (R483–R485) -/

/-- VHOLD and PF_COUNT (R472). -/
def showVhold (mv : Nat) (c : Chip) : Chip :=
  wr32 Reg.CLKPWR_VHOLD (Word.ofNat (min 0xFFFF mv + 0x10000 * c.pf.toNat)) (wr32 Reg.CLKPWR_PF_COUNT (Word.ofNat c.pfCount) c)

/-- Local outputs freeze at their power-fail states (R484): ports, axes, discrete and valve outputs. -/
def freezeOutputs (c : Chip) : Chip :=
  let c := diosPOut (portsPowerFail c)
  showAxes (forAll (tabKeys c.axes) (fun n c =>
    c.setAx n { (c.ax n).withEn ((c.ax n).en && axEnabled c n) with amp := drvIRun c.drvMem n * drvIHold c.drvMem n / 256 }) c)

/-- VHOLD below 16.0 V for 20 µs (R483, R484, R412): the outputs freeze, or change hands where the partner in SHADOW does not share the
failure; a flush starts, and the device enters SAFE_IDLE at the next rim. A held-output restart under way stops (R485). -/
def powerFail (mv : Nat) (shared : Bool) (c : Chip) : Chip :=
  if c.pf ∨ 16000 ≤ mv then c else
  let c := showVhold mv { c with pf := true, pfCount := satInc 32 c.pfCount, autoRun := false }
  match c.restart with
  | some r => freezeOutputs { c with restart := some { r with stopped := true } }
  | none =>
    let c := raiseEv Event.CLKPWR_POWER_FAIL 0 [mv, 1] { c with safeCause := some Event.CLKPWR_POWER_FAIL.code, restartReq := .none }
    let c := if ¬ hasShadow c then freezeOutputs c else if shared then dropOutputs c else handOver false c
    preemptFlush (if c.twin.handDue.isSome then { c with safeCause := none } else c)

/-- VHOLD at or above 18.0 V for 10 ms (R483, R485): output sets are taken again from the next P_OUT; axes whose AXn_EN went low lose HOMED. -/
def powerFailClear (mv : Nat) (c : Chip) : Chip :=
  if ¬ c.pf ∨ mv < 18000 then c else
  let c := showVhold mv { c with pf := false }
  let c := forEach 32 (fun n c => if (c.port n).pfOff then c.setPort n { c.port n with pfOff := false } else c) c
  let c := forAll (tabKeys c.axes) (fun n c =>
    let a := c.ax n
    if axEnabled c n ∧ ¬ a.en then c.setAx n { a with homedOff := true } else c) c
  if c.dev = .heldRestart then c else raiseEv Event.CLKPWR_POWER_FAIL 0 [mv, 0] c

/-! ### Clocks and temperature (R486–R488) -/

/-- A domain loses lock (Table 7 of R486). -/
def pllUnlock (d : Nat) (c : Chip) : Chip :=
  if ¬ rdB c Reg.CLKPWR_CLK_STAT d then c else
  let held := decide (c.dev = .heldRestart)
  let c := wrB Reg.CLKPWR_CLK_STAT d false c
  let c := if held then c else raiseEv Event.CLKPWR_PLL_UNLOCK 0 [d] c
  match d with
  | 3 => if held then c else netLinkDown 1 (netLinkDown 0 c)
  | 4 => if held then c else
      let owner := decide (roleCode c = 2)
      let c := twinLinkLost c.phase (forEach 8 wlDown c)
      if owner then acceptAwaiting c else c
  | 5 => hostReset c
  | 6 => if held then c else forEach 16 capOverflow c
  | _ => assertRestart .lossOfLock c

/-- A domain relocks, and what depends on it resumes (R486). -/
def pllRelock (d : Nat) (c : Chip) : Chip :=
  if rdB c Reg.CLKPWR_CLK_STAT d then c else
  let c := wrB Reg.CLKPWR_CLK_STAT d true c
  if c.dev = .heldRestart then c else
  match d with
  | 3 => netLinkUp 1 (netLinkUp 0 c)
  | 4 => forEach 8 (fun p c => if wlState c p = 0 then linkStart p c else c) c
  | _ => c

/-- A die's junction reaches 110 °C, once per episode, which ends below 100 °C (R488). -/
def tempWarn (field : Bool) (celsius : Nat) (c : Chip) : Chip :=
  let hot := if field then c.hotField else c.hotLogic
  let put (b : Bool) (c : Chip) : Chip := if field then { c with hotField := b } else { c with hotLogic := b }
  let c := if field then wrF Reg.CLKPWR_TEMP 15 8 (min 255 (celsius + 40)) c else wrF Reg.CLKPWR_TEMP 7 0 (min 255 (celsius + 40)) c
  if 110 ≤ celsius then
    if hot then c
    else if c.dev = .heldRestart then put true c
    else raiseEv Event.CLKPWR_TEMP_WARN 0 [field.toNat, celsius] (put true c)
  else if celsius < 100 then put false c
  else c

/-! ### Life-cycle transitions (R436) -/

/-- A transition to the store `v'`: the part stands as after a power-on reset, every session has ended, and LC_CHANGE reports the states. -/
def lifeCycle (o : SecOp) (v v' : Nv) (c : Chip) : Nv × Chip :=
  let open' := c.sec.session.isSome
  let d := powerOn ⟨[], [], []⟩ (strapB c) v' { c with sec := { c.sec with session := none } }
  let d := if open' then raiseEv Event.SEC_SESSION_END 0 [0, 3] d else d
  (v', secShow v' (finishOp o (raiseEv Event.SEC_LC_CHANGE 0 [lcState v.fuses, lcState v'.fuses] d)))

/-- CLAIM (R445): PROVISIONED to OWNED; the version counters clear (R444). -/
def claim (v : Nv) (c : Chip) : Nv × Chip :=
  match opOf 0x12 c with
  | none => (v, c)
  | some o =>
    if lcState v.fuses = 1 ∧ transitionOpen c then
      lifeCycle o v { v with fuses := claimFuses (bytesAt o.payload 0 128) v.fuses, versions := [] } c
    else (v, refuseOp o 6 c)

/-- A RETURN package: OWNED to RETURN; slots A and B and the retention SRAM are erased. -/
def returnPackage (v : Nv) (c : Chip) : Nv × Chip :=
  match opOf 0x13 c with
  | none => (v, c)
  | some o =>
    if lcState v.fuses = 2 ∧ transitionOpen c then
      lifeCycle o v { v with fuses := returnFuses v.fuses, slotA := {}, slotB := {}, newerB := false } c
    else (v, refuseOp o 6 c)

/-- A maker operation that is a transition from state `st`, where `also` holds: its challenge is taken first (R452). -/
def makerTransition (n st : Nat) (also : Bool) (f : Chip → Nv) (v : Nv) (c : Chip) : Nv × Chip :=
  match makerOp n c with
  | none => (v, c)
  | some o =>
    let r := takeChallenge (bytesAt o.payload 0 32) c
    if !r.1 then (v, refuseOp o 11 r.2)
    else if lcState v.fuses = st ∧ also ∧ transitionOpen r.2 then lifeCycle o v (f r.2) r.2
    else (v, refuseOp o 6 r.2)

/-- PROVISION: BLANK to PROVISIONED; the identity keys are generated from the entropy source (R438). -/
def provision (v : Nv) (c : Chip) : Nv × Chip :=
  makerTransition 1 0 true (fun c => { v with fuses := provisionFuses v.fuses, identity := newIdentity c.draws v.identity }) v
    { c with draws := c.draws + 1 }

/-- REFURB: RETURN to PROVISIONED, but not after the fourth cycle. -/
def refurb (v : Nv) (c : Chip) : Nv × Chip :=
  makerTransition 4 3 (decide (cycleOf v.fuses ≠ 4)) (fun _ => { v with fuses := refurbFuses v.fuses }) v c

/-- SCRAP: RETURN to SCRAPPED; the private keys are erased. -/
def scrap (v : Nv) (c : Chip) : Nv × Chip :=
  makerTransition 5 3 true (fun _ => { v with fuses := scrapFuses v.fuses, identity := { v.identity with seed := none } }) v c

end Sys2Proof.Machine
end

