-- ==== Sys2Proof/Machine/Rim.lean ====
section
/-!
DEFINITION. Machine/Rim.lean: the tick itself: its start, P_IN, the end of a strand, P_OUT and the rim (R11, R13, R16, R19–R25, R33–R35, R46–R52, R70,
R469, R470, R479).
-/
namespace Sys2Proof.Machine

open Sys2Proof

/-! ### Within the tick -/

/-- A strand reaches its done_time: its unit computes from what was released by its start, and its stores are released (R70, R85, R142, R39,
R325, R337). -/
def strandComplete (i : Nat) (c : Chip) : Chip :=
  match c.sched.find? (fun f => decide (f.index = i)) with
  | none => c
  | some f =>
    if f.lane = noLane then c else
    let st := strandOf c.mem c.bankActive i
    let c := atPhase (f.done / 4) { c with
      sched := c.sched.filter (fun g => decide (g.index ≠ i)), doneStr := c.doneStr ++ [(i, f.done)] }
    match st.kind with
    | 1 => loopRun i st f.start f.done (if lrEchoEn c.mem st.unit then tickTerm (lrEcho c.mem st.unit) c else 0) c
    | 2 => echoRun st f.start f.done c
    | 3 => avgRun st.unit f.start f.done c
    | 4 => changeRun st.unit f.start c
    | 5 => watchRun st f.start f.done c
    | _ => c

/-- SKEW and SKEW_COUNT, DIE_SKEW beyond ±2 ns and loss of lock of CK_AFE beyond ±20 ns (R472, R487). `skew` is in 0.25 ns. -/
def dieSkew (skew : Int) (c : Chip) : Chip :=
  let peak := max c.skewPeak (min 0xFFFF skew.natAbs)
  let c := wr32 Reg.CLKPWR_SKEW (Word.ofNat (unsx 16 skew + 0x10000 * peak)) { c with skewPeak := peak }
  let c := if 8 < skew.natAbs then raiseEv Event.CLKPWR_DIE_SKEW 0 [pw skew] (regInc Reg.CLKPWR_SKEW_COUNT c) else c
  if 80 < skew.natAbs then pllUnlock 7 c else c

/-- A tick starts (R13, R34, R398, R487): the new RATE takes effect and the rim is predicted. -/
def tickStart (skew glint : Int) (c : Chip) : Chip :=
  let c := atTickStart c
  let c := steerByGlint glint c
  let c := wr32 Reg.TIME_RATE (Word.ofInt c.time.rateNext) c
  let c := { c with tickLen := predictLen c }
  let c := boardWr 0 Sig.tickLo (Word.ofNat c.tick) true (boardWr 0 Sig.tickHi (Word.ofNat (c.tick / 0x100000000)) true
    (boardWr 0 Sig.ptpNs (Word.ofNat (ptpNs c % 1000000000)) true c))
  dieSkew skew c

/-- What part I carries of the board: the words that the local inputs have put there (R400). -/
def inputWords (c : Chip) : List (Nat × Word × Bool) :=
  (c.work.filter (fun e => decide (e.1 < Sig.tickLo))).map (fun e => (e.1, e.2.val, e.2.valid))

/-- P_IN (R241, R260–R267, R290, R296, R297, R472): the local inputs latch; an owner sends the digest of the last rim and part I (R400). -/
def pIn (xs : List PortMeas) (vloop : Nat) (sense : Sense) (c : Chip) : Chip :=
  let c := atPhase 0 { c with inMem := inputPage c.mem }
  let c := sendMirror (.digest (ownDigest c)) c
  let c := stepperPIn (portsPIn xs vloop (pinsPIn (forEach 64 aiWindow c)))
  let c := wrF Reg.CLKPWR_VHOLD 15 0 (min 0xFFFF sense.vhold) (wrF Reg.CLKPWR_POWER 15 0 (min 0xFFFF sense.power)
    (wrF Reg.CLKPWR_TEMP 7 0 (min 255 sense.logic) (wrF Reg.CLKPWR_TEMP 15 8 (min 255 sense.field) c)))
  sendMirror (.inputs (inputWords c) (decide (c.dev = .run)) (tstateCode c.time.state) ((tabKeys c.axes).map (fun n => (n, (c.ax n).offs)))) c

/-- Part L of an owner's mirror image: each running port's return (R400). -/
def mirrorReturns (c : Chip) : MirrorPart :=
  .returns (((List.range 8).filter (wlRuns c)).map (fun p =>
    let w := c.wl p
    (p, w.judged && !w.retEp, w.heads.map (fun h => decide (h.stale = 0)))))

/-- The start of a window; by the early one an owner has sent part L, and a shadow has part I (R400, R403). -/
def windowOpens (late : Bool) (c : Chip) : Chip :=
  let c := strandDispatch late c
  if late then c else
    let c := sendMirror (mirrorReturns c) c
    if c.twin.gotI then c else mirrorGap c

/-! ### P_OUT -/

/-- The code of a bad output set in DIE_LINK (R11); none for a good one. -/
def findingCode : LinkFinding → Option Nat
  | .good => none | .late => some 0 | .incomplete => some 1 | .crc => some 2

/-- The field die's judgement of the tick's output set (R11): whether it is taken. No set is sent after an early overrun (R49). -/
def judgeSet (f : LinkFinding) (c : Chip) : Bool × Chip :=
  if c.earlyOver then (false, { c with linkBad := 0 })
  else match findingCode f with
  | none => (true, { c with linkBad := 0 })
  | some k =>
    let n := min 2 (c.linkBad + 1)
    let c := raiseEv Event.SYS_DIE_LINK 0 [k, n] { c with linkBad := n }
    (false, if n = 2 then { c with safeCause := some Event.SYS_DIE_LINK.code } else c)

/-- P_OUT (R11, R36, R98, R131, R134, R168, R235, R257, R298, R304, R385, R395): the field die takes the set; tick frames and publish frames
leave, with the previous words after an early overrun (R49); a shadow has part L by now (R403). Outputs stay in their reset states until the first rim after power-on (R477). -/
def pOut (f : LinkFinding) (c : Chip) : Chip :=
  let c := atPhase (pOutPhase c) c
  let c := if c.twin.gotL ∨ (List.range 8).all (fun p => !wlRuns c p) then c else mirrorGap c
  if c.outReset then c else
  let rep := c.earlyOver
  let x := judgeSet f c
  let c := x.2
  let fresh := x.1 && !c.pf
  let c := if fresh then diosPOut { c with outEn := !standby c, drvMem := c.mem } else c
  let c := owChoose (fskPOut (stepperPOut fresh (portsPOut fresh c)))
  let c := netPOut rep (wlinkPOut rep c)
  if drivesLines c ∧ ¬ rep then
    forAll (guardLines c.rimGuards c) (fun g c => driveLine g.2 c) c
  else c

/-- P_OUT while a restart holds the logic die (R248, R478): the field die goes on by itself. -/
def pOutAlone (c : Chip) : Chip := if c.outReset then c else forEach 32 axisAlone (atPhase (pOutPhase c) c)

/-! ### The parts of the rim -/

/-- Cycles 0–15 (R48, R50): strands still due are abandoned, and a second consecutive overrun puts the device in its safe state. -/
def rimOverrun (c : Chip) : Chip :=
  let c := abandon true c.phase (abandon false c.phase c)
  let c := if c.overrun ∧ c.lastOver then
      raiseEv Event.WEAVE_OVERRUN_SAFE 0 [] { c with safeCause := some Event.WEAVE_OVERRUN_SAFE.code }
    else c
  wrB Reg.WEAVE_OVERRUN_STAT 14 c.overrun { c with lastOver := c.overrun }

/-- The commands of the registers QSTOP and HOME, which apply without slots, and the flags that HOME_DONE sets (R206, R215, R217). -/
def rimMotion (c : Chip) : Chip :=
  let stops := (List.range 128).filter (fun n => mapBit c Reg.MOTION_QSTOP n)
  let homes := (List.range 32).filter (fun n => mapBit c Reg.MOTION_HOME0 n)
  let c := wr32 Reg.MOTION_HOME0 0 (forEach 4 (fun w c => wr32 (Reg.MOTION_QSTOP + 4 * w) 0 c) c)
  let c := forAll homes homeCommand (forAll stops (fun n c => quickStop n 2 c) c)
  { forAll c.homeFlags (fun f c => c.setFlag f true) c with homeFlags := [] }

/-- The MARK steps of the tick, reported at its rim (R170, R199). -/
def rimMarks (c : Chip) : Chip :=
  forAll c.marks (fun k c => raiseVia Event.TASK_MARK (reqSE k.engine) k.task k.phase [k.task, k.num.toNat, k.step] c) c

/-- The signal board's exchange (R13, R16, R119): every word that the tick wrote becomes the settled word, and the ages move on. -/
def exchange (c : Chip) : Chip :=
  let older := (c.ages.map (fun e => (e.1, e.2 + 1))).filter (fun (e : Nat × Nat) => decide (e.2 < 255))
  let c : Chip := { c with
    settled := c.work.foldl (fun t e => tabIns e.1 ⟨e.2.val, e.2.valid⟩ t) c.settled,
    ages := (c.work.filter (fun e => e.2.valid && e.2.stored)).foldl (fun t e => tabIns e.1 1 t) older }
  wr32 Reg.SYS_BOARD_TICK (Word.ofNat c.tick) (capExchange { c with boardTick := c.tick })

/-- The loops not OFF and the echo controllers not IDLE that bank `b` does not name (R47). -/
def unscheduled (c : Chip) (b : Nat) : List Nat :=
  let named (k : Nat) : List Nat := ((bankStrands c.mem b).filter (fun p => decide (p.2.kind = k))).map (fun p => p.2.unit)
  (tabKeys c.loops).filter (fun n => decide ((c.loop n).mode ≠ .off) && !(named 1).contains n)
  ++ (tabKeys c.echoes).filter (fun n => decide ((c.echoOf n).state ≠ .idle) && !(named 2).contains n)

/-- The signals that the old bank's strands produce and nothing does under bank `b` (R14); a loop that is not OFF and an echo controller that
is not IDLE keep their last outputs (R47). -/
def losesProducer (c : Chip) (old b s : Nat) : Bool :=
  let kept := (tabKeys c.loops).flatMap (fun n => if (c.loop n).mode = .off then [] else [Sig.loopOut n, Sig.loopSp n])
    ++ (tabKeys c.echoes).flatMap (fun n => if (c.echoOf n).state = .idle then [] else [Sig.echo n])
  (bankOuts c.mem old).contains s && !(bankOuts c.mem b).contains s && !hwProduced c.mem s && !kept.contains s

/-- A swap of the weave banks, where one is asked for (R46, R47). A shadow whose own check of the bank failed is resynchronised (R55). -/
def bankSwap (c : Chip) : Chip :=
  if ¬ rdB c Reg.WEAVE_BANK_CTL 1 then c else
  let b := 1 - c.bankActive
  if bankStateOf c b ≠ .pass then
    let c := if roleCode c = 3 then roleAtRim 1 9 0 c else c
    raiseEv Event.WEAVE_SWAP_REFUSED 0 [b, bankStateCode (bankStateOf c b)] (wrF Reg.WEAVE_BANK_CTL 2 1 0 c)
  else if c.overrun then wrB Reg.WEAVE_BANK_CTL 2 true c
  else
    let c := raiseEv Event.WEAVE_BANK_SWAP 0 [b] (wrF Reg.WEAVE_BANK_CTL 2 1 0 { c with bankActive := b, walkAnyway := false })
    let c := forAll (unscheduled c b) (fun n c => raiseEv Event.WEAVE_UNSCHEDULED n [n] c)
      (dropSignals (losesProducer c (1 - b) b) (clearAverages c))
    capAfterSwap (showBanks c)

/-- The units that retire at this rim (R74, R153, R246, R271, R295, R356). -/
def rimRetirements (c : Chip) : Chip := echoRetirements (laneRim (stepperRim (forEach 64 aiRim (forEach 32 portRim c))))

/-- The twin commands that the rim's COMMITs carried (R414, R433). -/
def rimTwin (k : RimWork) (c : Chip) : Chip :=
  migFallback (forAll k.twins (fun t c => if t.1 then migCmd t.2 c else twinCmd t.2 c)
    (twinRim (k.ctl.map DigestItem.entry ++ k.wrote.map DigestItem.value) c))

/-! ### The device state (R421, R469, R470) -/

/-- The lowest condition of RUN_REFUSE that holds (R470). -/
def runReason (c : Chip) : Option Nat :=
  if bankStateOf c c.bankActive ≠ .pass then some 1
  else if rdF c Reg.SEC_LC_STAT 2 0 ≠ 2 then some 2
  else if c.sec.partPart then some 3
  else if laneCount c < 12 then some 4
  else if ¬ ownsOutputs c then some 5
  else none

/-- The device enters RUN: releases from SAFE_IDLE, and the tasks with RUN_START, but for those a CANCEL reaches (R118, R189, R193, R509). -/
def enterRun (gone : List Nat) (cause : Nat) (c : Chip) : Chip :=
  let c := { c with dev := .run, lnk := { c.lnk with kicked := nowAt c } }
  let c := runStarts gone (forAll (tabKeys c.loops) releaseLoop c)
  wr32 Reg.SYS_STATE_TICK (Word.ofNat c.tick) (raiseEv Event.SYS_STATE_CHANGE 0 [0, 1, cause] c)

/-- The device enters SAFE_IDLE: live tasks are suspended (R189). -/
def enterSafe (cause : Nat) (c : Chip) : Chip :=
  let c := suspendAll { c with dev := .safeIdle }
  wr32 Reg.SYS_STATE_TICK (Word.ofNat c.tick) (raiseEv Event.SYS_STATE_CHANGE 0 [1, 0, cause] c)

/-- What forces SAFE_IDLE at this rim: none where the owner hands over instead, to a partner that does not share the cause (R412). -/
def safeOrHandOver (shared : Bool) (c : Chip) : Option Nat × Chip :=
  match c.safeCause with
  | none => (none, c)
  | some k =>
    let c := { c with safeCause := none }
    if [Event.ENGINE_ENGINE_LOST.code, Event.WEAVE_OVERRUN_SAFE.code, Event.SYS_DIE_LINK.code, Event.IST_MEM_UE.code].contains k
        ∧ hasShadow c ∧ linkUp c ∧ ¬ shared then (none, handOver false c)
    else (some k, c)

/-- The device state at the rim (R421, R422, R470): an event that forces SAFE_IDLE prevails over a command; a shadow takes its owner's. -/
def rimDevice (shared : Bool) (gone : List Nat) (c : Chip) : Chip :=
  let x := safeOrHandOver shared c
  let c := { x.2 with devReq := none, devAuto := false }
  if roleCode c = 3 then
    match c.twin.devNext with
    | some true => if c.dev = .safeIdle then enterRun gone 0 c else c
    | some false => if c.dev = .run then enterSafe 0 c else c
    | none => c
  else match x.1 with
  | some k => if c.dev = .run then enterSafe k c else c
  | none =>
    match x.2.devReq with
    | some false => if c.dev = .run then enterSafe 0 c else c
    | some true =>
      if c.dev = .run then c else
      match runReason c with
      | some r => raiseEv Event.SYS_RUN_REFUSED 0 [r] (wrF Reg.SYS_RUN_REFUSE 3 0 r c)
      | none => enterRun gone x.2.devAuto.toNat c
    | none => c

/-! ### The end of the tick (R33, R51, R52) -/

/-- The start of the next tick's records: nothing written, dispatched, staged or reported yet; signal 0x0153 is written (R13, R469). -/
def freshTick (c : Chip) : Chip :=
  let c := { c with
    work := [], sched := [], doneStr := [], lanesDown := [], overrun := false, earlyOver := false, unforced := [], marks := [],
    engines := c.engines.map (fun e => (e.1, { e.2 with entries := 0, free := 0 })), seFree := 0, guardsDone := false,
    nextStamp := nextTickStamp c.nextStamp, perN := tickN c, beat := c.beat + 1,
    tasks := c.tasks.map (fun e => (e.1, { e.2 with held := false })),
    twin := { c.twin with devNext := none, gotI := false, gotL := false } }
  takeSnaps (wlinkTick (boardWr 0 Sig.devState (packedState c) true (secondMark c)))

/-- The tick runs again after a gap, at the first boundary of the new time that lies at least T_tick after the end of the old tick (R52). -/
def realign (goalFrom : Nat) (c : Chip) : Chip :=
  let old := c.tick
  let t := tickSpan c
  let goal := (goalFrom + t + t - 1) / t * t
  let gap := cyclesTo (rateNow c) goalFrom goal
  let new : Nat := goal / t % 2 ^ 48
  let c := { c with tick := new, cyc := c.cyc + c.tickLen + gap, time := { c.time with base := goalFrom + timeGain (rateNow c) gap } }
  let c := shiftWaits ((new : Int) - ((old : Int) + 1)) (atPhase 0 { c with convAt := conversionsFrom c })
  let c := wrF Reg.TICK_REALIGN_STAT 31 16 (satInc 16 (rdF c Reg.TICK_REALIGN_STAT 31 16)) c
  let c := capGap false new (c.beat + 1) (clearAverages (echoRealign old new c))
  raiseEv Event.TICK_TICK_REALIGN 0 [old % 0x100000000, new % 0x100000000, gap] c

/-- The time base reaches the end of the tick; a pending step is resolved, or a new tick period takes effect, and the count moves on (R33, R45,
R51, R52, R375, R380). -/
def nextTick (c : Chip) : Chip :=
  let endT := c.time.base + timeGain (rateNow c) c.tickLen
  let c := wr32 Reg.TICK_TICK_LEN_LAST (Word.ofNat c.tickLen) c
  let why := c.time.step
  let x := resolveStep endT c
  match x.1 with
  | some b => afterStep why ((endT : Int) / 2 ^ 32 - (b : Int) / 2 ^ 32) (realign b x.2)
  | none =>
    if tickN x.2 ≠ c.perN then realign endT x.2
    else { x.2 with tick := tickAdd x.2.tick 1, cyc := x.2.cyc + x.2.tickLen, time := { x.2.time with base := endT } }

/-- Every status register that the units' states decide. -/
def showAll (c : Chip) : Chip :=
  let c := showMotion (showTasks (showEcho (showLoopCounts (forAll (tabKeys c.loops) showLoop c))))
  let c := showWlink (showInputs (forEach 32 showFsk (showPorts c)))
  let c := showNet (showRealign (showTime (showCapture c)))
  showBanks (showDma (showTwin (showIst (showHealth c))))

/-- The checkpoint that a rim seals, in the halves by turns (R479). -/
def checkpoint (tick : Nat) (c : Chip) : Chip :=
  let k := some (tick, c.toRetained, c.mem.filter (fun e => inCheckpoint e.1))
  if c.ckNext then { c with ckB := k, ckNext := false } else { c with ckA := k, ckNext := true }

/-- The tasks whose step pointer or state this rim changed (part S of R400). -/
def tasksMoved (old c : Chip) : List (Nat × Nat × TaskState) :=
  (c.tasks.filter (fun e => decide ((old.task e.1).pc ≠ e.2.pc) || decide ((old.task e.1).state ≠ e.2.state))).map
    (fun e => (e.1, e.2.pc, e.2.state))

/-- The rim (R19): completion check, commit apply, guard latches, exchange, swap and retirements, roles and device state, and the end of the
tick. Every event of the rim's own carries the phase at which it begins (R506). `shared` says whether a SHADOW partner shares what would force
SAFE_IDLE; `v` is what a quotation takes its values from. -/
def rim (shared : Bool) (v : Nv) (c0 : Chip) : Chip :=
  let start := rimPhase c0
  let c := rimOverrun (atPhase start c0)
  let x := commitApply c
  let c := netRim (echoCommands (rimMotion x.2))
  let c := capRimCauses c.rimGuards c
  let c := rimMarks (applyGuardResets c)
  let c := exchange (showGuards (4 * start) c)
  let c := rimRetirements (bankSwap c)
  let c := rimDevice shared x.1.gone (rimTwin x.1 c)
  let c := sendMirror (.tasks (tasksMoved c0 c)) c
  let c := takeQuote v c
  let tick := c.tick
  let c := nextTick (txTickEnd c)
  let c := if c.outReset then autoStarts { c with outReset := false } else c
  let c := checkpoint tick (showAll (freshTick c))
  if c.restartReq = .rim then assertRestart .command c else c

end Sys2Proof.Machine
end

