-- ==== Sys2Proof/Machine/Command.lean ====
section
/-!
DEFINITION. Machine/Command.lean: how a command's effect is put on the state: on the part alone, on its nonvolatile store as well, or through a
host access. What the latest command sent out of the part is kept in `emitted`. The logic die does nothing while a restart holds it in reset (R478).
-/
namespace Sys2Proof.Machine

open Sys2Proof

/-- The part as a command finds it: nothing has left it yet. -/
def opened (c : Chip) : Chip := { c with emitted := [] }

/-- A command whose effect is on the part alone. -/
def onChip (f : Chip → Chip) (s : State) : Host.Outcome State Fault Refusal := .next { s with chip := f (opened s.chip) }

/-- The effect of a command of the logic die: none while a held-output restart holds it in reset. -/
def running (f : Chip → Chip) (c : Chip) : Chip := if c.dev = .heldRestart then c else f c

/-- A command of the logic die. -/
def onLogic (f : Chip → Chip) (s : State) : Host.Outcome State Fault Refusal := onChip (running f) s

/-- A host access at a phase of the tick; the SEC page shows the store afterwards. -/
def onHost (ph : Nat) (f : Chip → Chip) (s : State) : Host.Outcome State Fault Refusal :=
  onChip (fun c => secShow s.nv (f (atPhase ph c))) s

/-- A command that may change the nonvolatile store. -/
def onNv (f : Nv → Chip → Nv × Chip) (s : State) : Host.Outcome State Fault Refusal :=
  let x := f s.nv (opened s.chip)
  .next { s with nv := x.1, chip := secShow x.1 x.2 }

/-- The effect of the security block: none while a restart holds the logic die in reset. -/
def liveNv (ph : Nat) (f : Nv → Chip → Nv × Chip) (v : Nv) (c : Chip) : Nv × Chip :=
  if c.dev = .heldRestart then (v, c) else f v (atPhase ph c)

/-- A command of the security block at a phase of the tick. -/
def onSec (ph : Nat) (f : Nv → Chip → Nv × Chip) (s : State) : Host.Outcome State Fault Refusal := onNv (liveNv ph f) s

/-- The BAR of a view (R459). -/
def viewBar : View → Bar
  | .u => .bar0 | .p => .bar2

/-- A host write of a whole DWORD through a view. -/
def hostPut (v : View) (ph a : Nat) (w : Word) (s : State) : Host.Outcome State Fault Refusal :=
  onHost ph (hostWrite (viewBar v) a w 15) s

/-- A host write that sets the bits `set` of a DWORD and leaves its other fields, but for the bits `clear`, as they read. -/
def hostSet (v : View) (ph a : Nat) (clear set : Word) (s : State) : Host.Outcome State Fault Refusal :=
  onHost ph (fun c => hostWrite (viewBar v) a ((rd32 c a &&& ~~~clear) ||| set) 15 c) s

/-- A host read of a DWORD through a view. -/
def hostGet (v : View) (ph a : Nat) (s : State) : Host.Outcome State Fault Refusal := onHost ph (readOut (viewBar v) a) s

end Sys2Proof.Machine
end

