-- ==== Sys2Proof/Machine/ExecHost.lean ====
section
/-!
DEFINITION. Machine/ExecHost.lean: the commands that host software gives through the register pages, each a write or a read of its register at a
phase of the tick (R5–R9, R459–R463).
-/
namespace Sys2Proof.Machine

open Sys2Proof

/-! ### Page headers and plain registers -/

/-- COMMIT: a write of COMMIT.GO (R9, R22–R25). -/
def execCommit (p : Page) (v : View) (ph : Nat) (s : State) : Host.Outcome State Fault Refusal := hostPut v ph (pageBase p + Reg.HDR_COMMIT) 1 s
/-- DISCARD: the page's pending values are dropped (R462). -/
def execDiscard (p : Page) (v : View) (ph : Nat) (s : State) : Host.Outcome State Fault Refusal := hostPut v ph (pageBase p + Reg.HDR_COMMIT) 2 s
/-- EVT_FORCE (R462). -/
def execEvtForce (p : Page) (v : View) (bits : Word) (ph : Nat) (s : State) : Host.Outcome State Fault Refusal :=
  hostPut v ph (pageBase p + Reg.HDR_EVT_FORCE) bits s
/-- LOCK (R463). -/
def execLock (p : Page) (v : View) (ph : Nat) (s : State) : Host.Outcome State Fault Refusal := hostPut v ph (pageBase p + Reg.HDR_LOCK) 1 s
/-- What an access does: the write's effect, or that of a read (no value), whose word leaves the part. -/
def hostAccess (bar : Bar) (addr : Nat) (val : Option Word) (be : Fin 16) : Chip → Chip :=
  match val with
  | some w => hostWrite bar addr w be.val
  | none => readOut bar addr
/-- HOST_REGISTER_WRITE: an access to any offset of a BAR, which acts by its fields' access codes (R5, R6, R451, R459, R460). The table has no
row for a plain read, so that the read of a field is a form of this row (DESIGN CHOICE, log entry 58). -/
def execHostRegisterWrite (bar : Bar) (addr : Nat) (val : Option Word) (be : Fin 16) (ph : Nat) (s : State) : Host.Outcome State Fault Refusal :=
  onHost ph (hostAccess bar addr val be) s
/-- TICK_COUNT_LO: a read that latches the high half (R56). -/
def execTickCountLo (v : View) (ph : Nat) (s : State) : Host.Outcome State Fault Refusal := hostGet v ph Reg.TICK_TICK_COUNT_LO s
/-- NS_NOW: a read that latches the seconds (R381). -/
def execNsNow (v : View) (ph : Nat) (s : State) : Host.Outcome State Fault Refusal := hostGet v ph Reg.TIME_NS_NOW s
/-- OP_SEC_LO: a read that latches the high half (R362). -/
def execOpSecLo (v : View) (ph : Nat) (s : State) : Host.Outcome State Fault Refusal := hostGet v ph Reg.HEALTH_OP_SEC_LO s
/-- WR_COUNT: a read of a channel's count, which latches its high half (R471). -/
def execWrCount (v : View) (ch : Fin 8) (ph : Nat) (s : State) : Host.Outcome State Fault Refusal := hostGet v ph (dmaBlock ch.val + 0x10) s
/-- RX_DATA: a read that takes a character from a port's receive FIFO (R286). -/
def execRxData (v : View) (n : Fin 32) (ph : Nat) (s : State) : Host.Outcome State Fault Refusal := hostGet v ph (portBlock n.val + 0x1C) s

/-! ### Weave, engine, loops, guards and echo -/

/-- SWAP_REQ: the inactive bank is to become active at the next rim (R46). -/
def execSwapReq (v : View) (ph : Nat) (s : State) : Host.Outcome State Fault Refusal := hostPut v ph Reg.WEAVE_BANK_CTL 2 s
/-- CHECK_CMD: the check of a bank starts (R43). -/
def execCheckCmd (v : View) (b : Fin 2) (ph : Nat) (s : State) : Host.Outcome State Fault Refusal :=
  hostPut v ph Reg.WEAVE_CHECK_CMD (Word.ofNat (b.val + 2)) s
/-- RETIRE_REQ (R74). -/
def execRetireReq (v : View) (bits : Word) (ph : Nat) (s : State) : Host.Outcome State Fault Refusal := hostPut v ph Reg.ENGINE_RETIRE_REQ bits s
/-- ENGINE.UNRETIRE (R79). -/
def execEngineUnretire (v : View) (bits : Word) (ph : Nat) (s : State) : Host.Outcome State Fault Refusal := hostPut v ph Reg.ENGINE_UNRETIRE bits s
/-- MODE_CTL.CLR_STATE of a loop, staged for its page's COMMIT (R107). -/
def execLoopClrState (v : View) (n : Fin 2048) (ph : Nat) (s : State) : Host.Outcome State Fault Refusal := hostSet v ph (loopRec n.val + 0xC0) 0x40 0x40 s
/-- CLR_STATE of a section, staged for its page's COMMIT (R103). -/
def execSosClrState (v : View) (j : Fin 8192) (ph : Nat) (s : State) : Host.Outcome State Fault Refusal := hostSet v ph (sosRec j.val + 0x14) 2 2 s
/-- RESETw: guard resets are asked for (R133). -/
def execGuardResetRequest (v : View) (w : Fin 8) (bits : Word) (ph : Nat) (s : State) : Host.Outcome State Fault Refusal :=
  hostPut v ph (Reg.GUARD_RESET + 4 * w.val) bits s
/-- FIRST_CLR (R137). -/
def execFirstClr (v : View) (ph : Nat) (s : State) : Host.Outcome State Fault Refusal := hostPut v ph Reg.GUARD_FIRST_CLR 1 s
/-- LEARNw (R146). -/
def execLearn (v : View) (w : Fin 4) (bits : Word) (ph : Nat) (s : State) : Host.Outcome State Fault Refusal := hostPut v ph (Reg.ECHO_LEARN + 4 * w.val) bits s
/-- FREEZEw (R146). -/
def execFreeze (v : View) (w : Fin 4) (bits : Word) (ph : Nat) (s : State) : Host.Outcome State Fault Refusal := hostPut v ph (Reg.ECHO_FREEZE + 4 * w.val) bits s
/-- FADEw (R146). -/
def execFade (v : View) (w : Fin 4) (bits : Word) (ph : Nat) (s : State) : Host.Outcome State Fault Refusal := hostPut v ph (Reg.ECHO_FADE + 4 * w.val) bits s
/-- CLEARw (R146). -/
def execClear (v : View) (w : Fin 4) (bits : Word) (ph : Nat) (s : State) : Host.Outcome State Fault Refusal := hostPut v ph (Reg.ECHO_CLEAR + 4 * w.val) bits s
/-- ECHO.UNRETIREw (R153). -/
def execEchoUnretire (v : View) (w : Fin 4) (bits : Word) (ph : Nat) (s : State) : Host.Outcome State Fault Refusal := hostPut v ph (Reg.ECHO_UNRETIRE + 4 * w.val) bits s

/-! ### Tasks and motion -/

/-- TASK.CMD with a code of Table 5, staged for the page's COMMIT (R179). -/
def taskCmdPut (v : View) (t op ph : Nat) (s : State) : Host.Outcome State Fault Refusal := hostPut v ph Reg.TASK_CMD (Word.ofNat (t + 0x100 * op)) s
/-- START (R179). -/
def execStart (v : View) (t : Fin 256) (ph : Nat) (s : State) : Host.Outcome State Fault Refusal := taskCmdPut v t.val 1 ph s
/-- CANCEL (R179). -/
def execCancel (v : View) (t : Fin 256) (ph : Nat) (s : State) : Host.Outcome State Fault Refusal := taskCmdPut v t.val 2 ph s
/-- SUSPEND (R179). -/
def execSuspend (v : View) (t : Fin 256) (ph : Nat) (s : State) : Host.Outcome State Fault Refusal := taskCmdPut v t.val 3 ph s
/-- RESUME (R179). -/
def execResume (v : View) (t : Fin 256) (ph : Nat) (s : State) : Host.Outcome State Fault Refusal := taskCmdPut v t.val 4 ph s
/-- FLAG_SETw (R174). -/
def execFlagSet (v : View) (w : Fin 8) (bits : Word) (ph : Nat) (s : State) : Host.Outcome State Fault Refusal := hostPut v ph (Reg.TASK_FLAG_SET + 4 * w.val) bits s
/-- FLAG_CLRw (R174). -/
def execFlagClr (v : View) (w : Fin 8) (bits : Word) (ph : Nat) (s : State) : Host.Outcome State Fault Refusal := hostPut v ph (Reg.TASK_FLAG_CLR + 4 * w.val) bits s
/-- QSTOPw (R206). -/
def execQstop (v : View) (w : Fin 4) (bits : Word) (ph : Nat) (s : State) : Host.Outcome State Fault Refusal := hostPut v ph (Reg.MOTION_QSTOP + 4 * w.val) bits s
/-- HOME0 (R215). -/
def execHome (v : View) (bits : Word) (ph : Nat) (s : State) : Host.Outcome State Fault Refusal := hostPut v ph Reg.MOTION_HOME0 bits s
/-- SET_POS_CMD, staged for the page's COMMIT (R223). -/
def execSetPosCmd (v : View) (n : Fin 128) (ph : Nat) (s : State) : Host.Outcome State Fault Refusal := hostPut v ph Reg.MOTION_SET_POS_CMD (Word.ofNat n.val) s
/-- STEPDRV.UNRETIRE (R246). -/
def execStepdrvUnretire (v : View) (bits : Word) (ph : Nat) (s : State) : Host.Outcome State Fault Refusal := hostPut v ph Reg.STEPDRV_UNRETIRE bits s
/-- CLR_OFFS (R243). -/
def execClrOffs (v : View) (bits : Word) (ph : Nat) (s : State) : Host.Outcome State Fault Refusal := hostPut v ph Reg.STEPDRV_CLR_OFFS bits s

/-! ### Ports, inputs and field links -/

/-- LPORT.UNRETIRE (R271). -/
def execLportUnretire (v : View) (bits : Word) (ph : Nat) (s : State) : Host.Outcome State Fault Refusal := hostPut v ph Reg.LPORT_UNRETIRE bits s
/-- TX_DATA: a character for the transmit FIFO (R275, R286). -/
def execTxData (v : View) (n : Fin 32) (char : Byte) (ph : Nat) (s : State) : Host.Outcome State Fault Refusal :=
  hostPut v ph (portBlock n.val + 0x10) (Word.ofNat char.toNat) s
/-- FSK_CMD.TX_GO with LEN, staged for the page's COMMIT (R275). -/
def execTxGo (v : View) (n : Fin 32) (len : Fin 512) (ph : Nat) (s : State) : Host.Outcome State Fault Refusal :=
  hostPut v ph (portBlock n.val + 0x14) (Word.ofNat (1 + 0x10000 * len.val)) s
/-- FSK_CMD.TX_ABORT, staged for the page's COMMIT (R275). -/
def execTxAbort (v : View) (n : Fin 32) (ph : Nat) (s : State) : Host.Outcome State Fault Refusal := hostPut v ph (portBlock n.val + 0x14) 2 s
/-- FSK_CMD.RX_FLUSH (R286). -/
def execRxFlush (v : View) (n : Fin 32) (ph : Nat) (s : State) : Host.Outcome State Fault Refusal := hostPut v ph (portBlock n.val + 0x14) 4 s
/-- AI_UNRETIREw (R295). -/
def execAiUnretire (v : View) (w : Fin 2) (bits : Word) (ph : Nat) (s : State) : Host.Outcome State Fault Refusal := hostPut v ph (Reg.INPUT_AI_UNRETIRE + 4 * w.val) bits s
/-- WL_CTL.START of a port, staged for the page's COMMIT (R305). -/
def execLinkStart (v : View) (p : Fin 8) (ph : Nat) (s : State) : Host.Outcome State Fault Refusal := hostSet v ph (wb p.val) 6 2 s
/-- WL_CTL.STOP of a port, staged for the page's COMMIT (R318). -/
def execLinkStop (v : View) (p : Fin 8) (ph : Nat) (s : State) : Host.Outcome State Fault Refusal := hostSet v ph (wb p.val) 6 4 s

/-! ### Capture -/

/-- ARM (R335). -/
def execArm (v : View) (bits : BitVec 16) (ph : Nat) (s : State) : Host.Outcome State Fault Refusal := hostPut v ph Reg.CAPTURE_ARM (Word.ofNat bits.toNat) s
/-- DISARM (R335). -/
def execDisarm (v : View) (bits : BitVec 16) (ph : Nat) (s : State) : Host.Outcome State Fault Refusal := hostPut v ph Reg.CAPTURE_DISARM (Word.ofNat bits.toNat) s
/-- SW_TRIG (R326). -/
def execSwTrig (v : View) (bits : BitVec 16) (ph : Nat) (s : State) : Host.Outcome State Fault Refusal := hostPut v ph Reg.CAPTURE_SW_TRIG (Word.ofNat bits.toNat) s
/-- SYNC_CTL.PING, staged for the page's COMMIT (R340). -/
def execPing (v : View) (ph : Nat) (s : State) : Host.Outcome State Fault Refusal := hostSet v ph Reg.CAPTURE_SYNC_CTL 0x80 0x80 s

/-! ### Host, system and health -/

/-- RD_COUNT: the high word, then the low one, which acts (R465, R471). -/
def execRdCount (v : View) (ch : Fin 8) (value : BitVec 64) (ph : Nat) (s : State) : Host.Outcome State Fault Refusal :=
  onHost ph (fun c => hostWrite (viewBar v) (dmaBlock ch.val + 0x18) (Word.ofNat value.toNat) 15
    (hostWrite (viewBar v) (dmaBlock ch.val + 0x1C) (Word.ofNat (value.toNat / 0x100000000)) 15 c)) s
/-- WD_KICK (R509). -/
def execWdKick (v : View) (ph : Nat) (s : State) : Host.Outcome State Fault Refusal := hostPut v ph Reg.HOST_WD_KICK 1 s
/-- DEV_CMD.RUN (R470). -/
def execRun (v : View) (ph : Nat) (s : State) : Host.Outcome State Fault Refusal := hostPut v ph Reg.SYS_DEV_CMD 1 s
/-- DEV_CMD.SAFE (R470). -/
def execSafe (v : View) (ph : Nat) (s : State) : Host.Outcome State Fault Refusal := hostPut v ph Reg.SYS_DEV_CMD 2 s
/-- DEV_CMD.RESTART (R480). -/
def execRestart (v : View) (ph : Nat) (s : State) : Host.Outcome State Fault Refusal := hostPut v ph Reg.SYS_DEV_CMD 4 s
/-- FLUSH_CMD (R352). -/
def execFlush (v : View) (ph : Nat) (s : State) : Host.Outcome State Fault Refusal := hostPut v ph Reg.HEALTH_FLUSH_CMD 1 s
/-- CODE_CFG of the code that CODE_SEL selects, staged for the page's COMMIT (R362). -/
def execCodeCfg (v : View) (val : Word) (ph : Nat) (s : State) : Host.Outcome State Fault Refusal := hostPut v ph Reg.HEALTH_CODE_CFG val s
/-- RD_INDEX: a record of the health area is to be read (R362). -/
def execRdIndex (v : View) (i : BitVec 18) (ph : Nat) (s : State) : Host.Outcome State Fault Refusal := hostPut v ph Reg.HEALTH_RD_INDEX (Word.ofNat i.toNat) s

/-! ### Time, network and twin -/

/-- TIME_CMD.RESTEP, staged for the page's COMMIT (R380). -/
def execRestep (v : View) (ph : Nat) (s : State) : Host.Outcome State Fault Refusal := hostPut v ph Reg.TIME_TIME_CMD 1 s
/-- TIME_CMD.SET (R380). -/
def execTimeCmdSet (v : View) (ph : Nat) (s : State) : Host.Outcome State Fault Refusal := hostPut v ph Reg.TIME_TIME_CMD 2 s
/-- TIME_CMD.CANCEL (R380). -/
def execTimeCmdCancel (v : View) (ph : Nat) (s : State) : Host.Outcome State Fault Refusal := hostPut v ph Reg.TIME_TIME_CMD 4 s
/-- HTX_CTL with GO: a frame of the transmit buffer is sent (R382). -/
def execHtxGo (v : View) (word : Word) (ph : Nat) (s : State) : Host.Outcome State Fault Refusal := hostPut v ph Reg.NET_HTX_CTL (word ||| 0x800) s
/-- HRX_POP (R382). -/
def execHrxPop (v : View) (ph : Nat) (s : State) : Host.Outcome State Fault Refusal := hostPut v ph Reg.NET_HRX_POP 1 s
/-- CMD.SWAP, staged for the page's COMMIT (R414). -/
def execSwap (v : View) (ph : Nat) (s : State) : Host.Outcome State Fault Refusal := hostPut v ph Reg.TWIN_CMD 1 s
/-- CMD.REJOIN (R396). -/
def execRejoin (v : View) (ph : Nat) (s : State) : Host.Outcome State Fault Refusal := hostPut v ph Reg.TWIN_CMD 2 s
/-- CMD.RETIRE (R396). -/
def execRetire (v : View) (ph : Nat) (s : State) : Host.Outcome State Fault Refusal := hostPut v ph Reg.TWIN_CMD 4 s
/-- CMD.SOLO (R416). -/
def execSolo (v : View) (ph : Nat) (s : State) : Host.Outcome State Fault Refusal := hostPut v ph Reg.TWIN_CMD 8 s
/-- MIG_CTL.HANDOVER (R432). -/
def execMigHandover (v : View) (ph : Nat) (s : State) : Host.Outcome State Fault Refusal := hostSet v ph Reg.TWIN_MIG_CTL 6 2 s
/-- MIG_CTL.ABORT (R433). -/
def execMigAbort (v : View) (ph : Nat) (s : State) : Host.Outcome State Fault Refusal := hostSet v ph Reg.TWIN_MIG_CTL 6 4 s
/-- CHAL_CMD.NEW (R452). -/
def execChalCmdNew (v : View) (ph : Nat) (s : State) : Host.Outcome State Fault Refusal := hostPut v ph Reg.SEC_CHAL_CMD 1 s
/-- CHAL_CMD.CLOSE (R453). -/
def execChalCmdClose (v : View) (ph : Nat) (s : State) : Host.Outcome State Fault Refusal := hostPut v ph Reg.SEC_CHAL_CMD 2 s

end Sys2Proof.Machine
end

