-- ==== Sys2Proof/Machine/ExecTick.lean ====
section
/-!
DEFINITION. Machine/ExecTick.lean: power and clocks, the tick, the step engines, the weave and the rim: each command's meaning.
-/
namespace Sys2Proof.Machine

open Sys2Proof

/-! ### Power, restart and clocks (R473–R488) -/

/-- POWER_ON_RESET: the power-on sequence up to SAFE_IDLE, from whatever the part was doing (R474–R477). -/
def execPowerOnReset (bist : BistResult) (strap : Bool) (s : State) : Host.Outcome State Fault Refusal :=
  onNv (fun v c => (v, powerOn bist strap v c)) s
/-- AUTO_RUN: RUN is asked for as DEV_CFG says, once the field links have ended their start (R477). -/
def execAutoRun (s : State) : Host.Outcome State Fault Refusal := onLogic autoRun s
/-- HELD_OUTPUT_RESTART: LRESET or a supply asserts the logic-die reset at once (R475, R480). -/
def execHeldOutputRestart (pin : RestartPin) (s : State) : Host.Outcome State Fault Refusal := onChip (assertRestart (pinCause pin)) s
/-- RESTART_COMPLETE: the first tick after a restart (R479–R482). -/
def execRestartComplete (sealA sealB : Bool) (elapsed : Nat) (s : State) : Host.Outcome State Fault Refusal :=
  onNv (restartComplete sealA sealB elapsed) s
/-- FIELD_DIE_HOLD_EXPIRY: 250 ms after the reset asserted (R481). -/
def execFieldDieHoldExpiry (s : State) : Host.Outcome State Fault Refusal := onChip holdExpiry s
/-- LOGIC_WATCHDOG: 1 ms without a valid output set (R480). -/
def execLogicWatchdog (s : State) : Host.Outcome State Fault Refusal := onChip (assertRestart .watchdog) s
/-- POWER_FAIL (R483–R485). -/
def execPowerFail (mv : Nat) (shared : Bool) (ph : Nat) (s : State) : Host.Outcome State Fault Refusal :=
  onChip (fun c => powerFail mv shared (atPhase ph c)) s
/-- POWER_FAIL_CLEAR (R483, R485). -/
def execPowerFailClear (mv ph : Nat) (s : State) : Host.Outcome State Fault Refusal := onChip (fun c => powerFailClear mv (atPhase ph c)) s
/-- PLL_UNLOCK (R486). -/
def execPllUnlock (d : Fin 8) (ph : Nat) (s : State) : Host.Outcome State Fault Refusal := onChip (fun c => pllUnlock d.val (atPhase ph c)) s
/-- PLL_RELOCK (R486). -/
def execPllRelock (d : Fin 8) (ph : Nat) (s : State) : Host.Outcome State Fault Refusal := onChip (fun c => pllRelock d.val (atPhase ph c)) s
/-- TEMP_WARN (R488). -/
def execTempWarn (field : Bool) (celsius ph : Nat) (s : State) : Host.Outcome State Fault Refusal :=
  onChip (fun c => tempWarn field celsius (atPhase ph c)) s

/-! ### The start of the tick -/

/-- TICK_START (R34, R487). -/
def execTickStart (skew glint : Int) (s : State) : Host.Outcome State Fault Refusal := onLogic (tickStart skew glint) s
/-- P_IN (R290). While a restart holds the logic die, the field die goes on regulating its ports and delivers nothing (R478, R479). -/
def execPIn (xs : List PortMeas) (vloop : Nat) (sense : Sense) (s : State) : Host.Outcome State Fault Refusal :=
  onChip (fun c => if c.dev = .heldRestart then { c with ports := (portsPIn xs vloop c).ports } else pIn xs vloop sense c) s
/-- WAKE_PASS (R183). -/
def execWakePass (s : State) : Host.Outcome State Fault Refusal := onLogic wakePass s
/-- DELAY_EXPIRY (R173). -/
def execDelayExpiry (t : Fin 256) (s : State) : Host.Outcome State Fault Refusal := onLogic (delayExpiry t.val) s
/-- WAIT_TIMEOUT (R171). -/
def execWaitTimeout (t : Fin 256) (s : State) : Host.Outcome State Fault Refusal := onLogic (waitTimeout t.val) s

/-! ### The step engines -/

/-- TASK_DISPATCH: a grant, and the steps that the engine then executes (R185–R188). -/
def execTaskDispatch (e : Fin 16) (ph : Nat) (s : State) : Host.Outcome State Fault Refusal := onLogic (taskDispatch e.val ph) s
/-- SET: set-point and ramp rate of a loop, in effect at the rim (R167). -/
def execStepSet (e : Fin 16) (w : StepWord) (s : State) : Host.Outcome State Fault Refusal := onLogic (engineStep e.val 0x01 w) s
/-- RAMP (R167). -/
def execStepRamp (e : Fin 16) (w : StepWord) (s : State) : Host.Outcome State Fault Refusal := onLogic (engineStep e.val 0x02 w) s
/-- VALVE (R168). -/
def execStepValve (e : Fin 16) (w : StepWord) (s : State) : Host.Outcome State Fault Refusal := onLogic (engineStep e.val 0x03 w) s
/-- MOVE (R169). -/
def execStepMove (e : Fin 16) (w : StepWord) (s : State) : Host.Outcome State Fault Refusal := onLogic (engineStep e.val 0x04 w) s
/-- MODE (R115). -/
def execStepMode (e : Fin 16) (w : StepWord) (s : State) : Host.Outcome State Fault Refusal := onLogic (engineStep e.val 0x05 w) s
/-- DELAY (R173). -/
def execStepDelay (e : Fin 16) (w : StepWord) (s : State) : Host.Outcome State Fault Refusal := onLogic (engineStep e.val 0x06 w) s
/-- WAIT_UNTIL (R171). -/
def execStepWaitUntil (e : Fin 16) (w : StepWord) (s : State) : Host.Outcome State Fault Refusal := onLogic (engineStep e.val 0x07 w) s
/-- WAIT_EVENT (R174). -/
def execStepWaitEvent (e : Fin 16) (w : StepWord) (s : State) : Host.Outcome State Fault Refusal := onLogic (engineStep e.val 0x08 w) s
/-- SIGNAL (R174). -/
def execStepSignal (e : Fin 16) (w : StepWord) (s : State) : Host.Outcome State Fault Refusal := onLogic (engineStep e.val 0x09 w) s
/-- FORK (R177). -/
def execStepFork (e : Fin 16) (w : StepWord) (s : State) : Host.Outcome State Fault Refusal := onLogic (engineStep e.val 0x0A w) s
/-- CALL (R176). -/
def execStepCall (e : Fin 16) (w : StepWord) (s : State) : Host.Outcome State Fault Refusal := onLogic (engineStep e.val 0x0B w) s
/-- RETURN (R176). -/
def execStepReturn (e : Fin 16) (w : StepWord) (s : State) : Host.Outcome State Fault Refusal := onLogic (engineStep e.val 0x0C w) s
/-- JUMP (R176). -/
def execStepJump (e : Fin 16) (w : StepWord) (s : State) : Host.Outcome State Fault Refusal := onLogic (engineStep e.val 0x0D w) s
/-- BRANCH (R175). -/
def execStepBranch (e : Fin 16) (w : StepWord) (s : State) : Host.Outcome State Fault Refusal := onLogic (engineStep e.val 0x0E w) s
/-- MARK (R170). -/
def execStepMark (e : Fin 16) (w : StepWord) (s : State) : Host.Outcome State Fault Refusal := onLogic (engineStep e.val 0x0F w) s
/-- CAPTURE (R170). -/
def execStepCapture (e : Fin 16) (w : StepWord) (s : State) : Host.Outcome State Fault Refusal := onLogic (engineStep e.val 0x10 w) s
/-- END (R176). -/
def execStepEnd (e : Fin 16) (w : StepWord) (s : State) : Host.Outcome State Fault Refusal := onLogic (engineStep e.val 0x11 w) s
/-- RECIPE_MEM_ERR: an uncorrectable error at the fetch of engine `e`'s step (R191, R192). -/
def execRecipeMemErr (e : Fin 16) (s : State) : Host.Outcome State Fault Refusal := onLogic (fetchError e.val) s

/-! ### The weave, the outputs and the rim -/

/-- STRAND_DISPATCH (R41): a window opens. -/
def execStrandDispatch (late : Bool) (s : State) : Host.Outcome State Fault Refusal := onLogic (windowOpens late) s
/-- STRAND_COMPLETE (R70). -/
def execStrandComplete (i : Fin 8192) (s : State) : Host.Outcome State Fault Refusal := onLogic (strandComplete i.val) s
/-- LANE_STOP (R73): a residue or parity error, which is a hard error (R356). -/
def execLaneStop (pl : Fin 20) (parity : Bool) (ph : Nat) (s : State) : Host.Outcome State Fault Refusal :=
  onLogic (fun c => permanentOutcome 1 (laneUnit pl.val) 1 (laneStop pl.val (if parity then 2 else 1) ph true c)) s
/-- EARLY_COMPLETION_CHECK (R48). -/
def execEarlyCompletionCheck (s : State) : Host.Outcome State Fault Refusal := onLogic earlyCheck s
/-- GUARD_EVALUATION (R130). -/
def execGuardEvaluation (s : State) : Host.Outcome State Fault Refusal := onLogic guardEvaluation s
/-- PROFILE_PASS (R202). -/
def execProfilePass (s : State) : Host.Outcome State Fault Refusal := onLogic profilePass s
/-- P_OUT (R11). While a restart holds the logic die, the field die goes on by itself (R248). -/
def execPOut (f : LinkFinding) (s : State) : Host.Outcome State Fault Refusal :=
  onChip (fun c => if c.dev = .heldRestart then pOutAlone c else pOut f c) s
/-- ECHO_UPDATE (R143); `bad` lists the pool entries that read uncorrectable. -/
def execEchoUpdate (bad : List Nat) (s : State) : Host.Outcome State Fault Refusal := onLogic (echoUpdate bad) s
/-- RIM (R19). -/
def execRim (shared : Bool) (s : State) : Host.Outcome State Fault Refusal := onChip (fun c => secShow s.nv (running (rim shared s.nv) c)) s
/-- CHECK_DONE: the weave check of a bank ends (R43). -/
def execCheckDone (b : Fin 2) (ph : Nat) (s : State) : Host.Outcome State Fault Refusal := onLogic (fun c => checkDone b.val (atPhase ph c)) s

end Sys2Proof.Machine
end

