-- ==== Sys2Proof/Machine/ExecTwin.lean ====
section
/-!
DEFINITION. Machine/ExecTwin.lean: what passes between the units of a pair, and the sealed packages: each command's meaning.
-/
namespace Sys2Proof.Machine

open Sys2Proof

/-! ### The pair (R395–R434) -/

/-- GLINT_PULSE: the glint departs (R397). -/
def execGlintPulse (ph : Nat) (s : State) : Host.Outcome State Fault Refusal := onLogic (fun c => glintPulse (atPhase ph c)) s
/-- GLINT_LOST: no edge for 6.0 µs, the last one at `tick` and `phase` (R397). -/
def execGlintLost (tick phase ph : Nat) (s : State) : Host.Outcome State Fault Refusal := onLogic (fun c => glintLost tick phase (atPhase ph c)) s
/-- GLINT_PRESENT: an edge is received (R398). -/
def execGlintPresent (tick phase : Nat) (s : State) : Host.Outcome State Fault Refusal := onLogic (glintPresent tick phase) s
/-- TWIN_LINK_LOST (R397): an owner accepts the writes that awaited the partner (R401). -/
def execTwinLinkLost (ph : Nat) (s : State) : Host.Outcome State Fault Refusal :=
  onLogic (fun c => if roleCode c = 2 then acceptAwaiting (twinLinkLost ph c) else twinLinkLost ph c) s
/-- TWIN_LINK_LOCK (R396, R415). -/
def execTwinLinkLock (info : JoinInfo) (ph : Nat) (s : State) : Host.Outcome State Fault Refusal := onLogic (fun c => twinLinkLock info (atPhase ph c)) s
/-- What a unit does with a part of the mirror image: a host write acts, and a supplement is verified and stored, as at the owner (R400, R401,
R455); every other part is the twin's own. -/
def takePart (part : MirrorPart) (v : Nv) (c : Chip) : Nv × Chip :=
  match part with
  | .entry (.write bar addr val be) => (v, mirrorWrite bar addr val be (mirrorPart part c))
  | .entry (.package bytes) => if linkUp c ∧ roleCode c = 3 then takePackage bytes true v c else (v, c)
  | _ => (v, mirrorPart part c)
/-- MIRROR_PART (R400–R405, R415). -/
def execMirrorPart (part : MirrorPart) (ph : Nat) (s : State) : Host.Outcome State Fault Refusal := onSec ph (takePart part) s
/-- TWIN_ACK (R401). -/
def execTwinAck (ph : Nat) (s : State) : Host.Outcome State Fault Refusal := onHost ph (running twinAck) s
/-- TAKEOVER (R406–R408). -/
def execTakeover (ph : Nat) (s : State) : Host.Outcome State Fault Refusal := onLogic (takeover ph) s
/-- DEGRADED_TAKEOVER (R410). -/
def execDegradedTakeover (outs : List (Nat × Int)) (ph : Nat) (s : State) : Host.Outcome State Fault Refusal := onLogic (degradedTakeover outs ph) s
/-- WITNESS_SEND (R408). -/
def execWitnessSend (s : State) : Host.Outcome State Fault Refusal := onLogic witnessSend s
/-- WITNESS_FRAME (R409). -/
def execWitnessFrame (f : WitnessMsg) (ph : Nat) (s : State) : Host.Outcome State Fault Refusal := onLogic (witnessFrame f ph) s
/-- WITNESS_LOST (R397). -/
def execWitnessLost (ph : Nat) (s : State) : Host.Outcome State Fault Refusal := onLogic (fun c => witnessLost (atPhase ph c)) s
/-- HANDOFF: the owner's message, sent at a phase of this tick, arrives (R412). -/
def execHandoff (sent : Nat) (s : State) : Host.Outcome State Fault Refusal := onLogic (handoff sent) s
/-- HANDOFF_SWITCH (R412). -/
def execHandoffSwitch (s : State) : Host.Outcome State Fault Refusal := onLogic handoffSwitch s
/-- FAILBACK_REQUEST (R414). -/
def execFailbackRequest (s : State) : Host.Outcome State Fault Refusal := onLogic failbackRequest s
/-- FAILBACK: the planned swap at a quiet point (R414). -/
def execFailback (s : State) : Host.Outcome State Fault Refusal := onLogic failback s
/-- JOIN_COMPLETE (R415). -/
def execJoinComplete (digest : Nat) (s : State) : Host.Outcome State Fault Refusal := onLogic (joinComplete digest) s
/-- JOIN_SLOW (R415). -/
def execJoinSlow (ph : Nat) (s : State) : Host.Outcome State Fault Refusal := onLogic (fun c => joinSlow (atPhase ph c)) s
/-- JOIN_WAIT (R416). -/
def execJoinWait (r : SearchResult) (ph : Nat) (s : State) : Host.Outcome State Fault Refusal := onLogic (fun c => joinWait r (atPhase ph c)) s
/-- XCHECK_DIFF (R405). -/
def execXcheckDiff (sig : Nat) (s : State) : Host.Outcome State Fault Refusal := onLogic (xcheckDiff sig) s
/-- MIG_DONE (R432): the watch ends with a second of OP_SEC, whose place in the tick is free (DESIGN CHOICE, log entry 3). -/
def execMigDone (s : State) : Host.Outcome State Fault Refusal :=
  onLogic (fun c => migDone (atPhase (Config.secondPhase c.opSec % 25013) c)) s

/-! ### Sealed configuration (R435–R456) -/

/-- SESSION_END (R453). -/
def execSessionEnd (ph : Nat) (s : State) : Host.Outcome State Fault Refusal := onSec ph (fun v c => (v, sessionEnd c)) s
/-- PKG_LOAD: PKG_CMD LOAD, with the bytes at PKG_ADDR (R446–R448). -/
def execPkgLoad (bytes : List Byte) (partnerOk : Bool) (ph : Nat) (s : State) : Host.Outcome State Fault Refusal := onSec ph (pkgLoad bytes partnerOk) s
/-- PKG_LOADED: an operation has completed (R446). -/
def execPkgLoaded (ph : Nat) (s : State) : Host.Outcome State Fault Refusal := onSec ph (fun v c => (v, pkgLoaded c)) s
/-- SUPPLEMENT_APPLY (R448). -/
def execSupplementApply (ph : Nat) (s : State) : Host.Outcome State Fault Refusal := onSec ph supplementApply s
/-- PKG_APPLY: PKG_CMD APPLY (R427, R448). -/
def execPkgApply (ph : Nat) (s : State) : Host.Outcome State Fault Refusal := onSec ph (fun v c => (v, pkgApply v c)) s
/-- ANCHOR (R441). -/
def execAnchor (ph : Nat) (s : State) : Host.Outcome State Fault Refusal := onSec ph anchorEffect s
/-- GRANT (R452). -/
def execGrant (ph : Nat) (s : State) : Host.Outcome State Fault Refusal := onSec ph (fun v c => (v, grantEffect v c)) s
/-- CLAIM (R436, R445). -/
def execClaim (ph : Nat) (s : State) : Host.Outcome State Fault Refusal := onSec ph claim s
/-- A RETURN package (R436). -/
def execReturnPackage (ph : Nat) (s : State) : Host.Outcome State Fault Refusal := onSec ph returnPackage s
/-- PROVISION (R436, R438, R439). -/
def execProvision (ph : Nat) (s : State) : Host.Outcome State Fault Refusal := onSec ph provision s
/-- CERT (R438, R439). -/
def execCert (ph : Nat) (s : State) : Host.Outcome State Fault Refusal := onSec ph certEffect s
/-- DEBUG (R437, R439). -/
def execDebug (ph : Nat) (s : State) : Host.Outcome State Fault Refusal := onSec ph (fun v c => (v, debugEffect v c)) s
/-- REFURB (R436, R439). -/
def execRefurb (ph : Nat) (s : State) : Host.Outcome State Fault Refusal := onSec ph refurb s
/-- SCRAP (R436, R439). -/
def execScrap (ph : Nat) (s : State) : Host.Outcome State Fault Refusal := onSec ph scrap s
/-- QUOTE_GO (R454). -/
def execQuoteGo (view : View) (ph : Nat) (s : State) : Host.Outcome State Fault Refusal :=
  onSec ph (fun v c => match view with
    | .u => (v, hostWrite .bar0 Reg.SEC_QUOTE_CMD 1 15 c)
    | .p => (v, quoteGo v c)) s
/-- QUOTE_DONE (R454). -/
def execQuoteDone (ph : Nat) (s : State) : Host.Outcome State Fault Refusal := onSec ph (fun v c => (v, quoteDone v c)) s

end Sys2Proof.Machine
end

