-- ==== Sys2Proof/Machine/ExecUnits.lean ====
section
/-!
DEFINITION. Machine/ExecUnits.lean: what happens at the echo controllers, axes, loop ports, modems, inputs, field links, capture sets, host link,
recorder, in-service test, time base and network: each command's meaning.
-/
namespace Sys2Proof.Machine

open Sys2Proof

/-! ### Echo controllers and axes -/

/-- CLEAR_DONE: a controller's memory has been zeroed (R146). -/
def execClearDone (n : Timed (Fin 128)) (s : State) : Host.Outcome State Fault Refusal :=
  onLogic (fun c => clearDone n.val.val (atPhase n.ph c)) s
/-- INDEX_EDGE (R147, R148). -/
def execIndexEdge (n : Fin 128) (tick phase : Nat) (s : State) : Host.Outcome State Fault Refusal := onLogic (indexEdge n.val tick phase) s
/-- INDEX_LOST (R149). -/
def execIndexLost (n : Fin 128) (tick phase : Nat) (s : State) : Host.Outcome State Fault Refusal := onLogic (indexLost n.val tick phase) s
/-- EDGE_QUALIFIED (R209, R212). -/
def execEdgeQualified (n : Fin 32) (which : Fin 3) (level : Bool) (tick phase : Nat) (s : State) : Host.Outcome State Fault Refusal :=
  onLogic (edgeQualified n.val which.val level tick phase) s
/-- CHATTER: a chatter window closes (R213). -/
def execChatter (n : Fin 32) (which : Fin 3) (s : State) : Host.Outcome State Fault Refusal := onLogic (closeChatter n.val which.val) s
/-- TABLE_UPDATE (R226), at the field die. -/
def execTableUpdate (n : Fin 32) (i : Nat) (sampA sampB : Int) (s : State) : Host.Outcome State Fault Refusal := onChip (tableUpdate n.val i sampA sampB) s
/-- STANDSTILL_REDUCTION (R237), at the field die. -/
def execStandstillReduction (n : Fin 32) (s : State) : Host.Outcome State Fault Refusal := onChip (startReduction n.val) s
/-- OVERCURRENT (R244): a hard error. -/
def execOvercurrent (n : Fin 32) (winding : Fin 2) (ph : Nat) (s : State) : Host.Outcome State Fault Refusal :=
  onChip (fun c => overcurrent n.val winding.val (atPhase ph c)) s
/-- OPEN_COIL (R245). -/
def execOpenCoil (n : Fin 32) (winding : Fin 2) (s : State) : Host.Outcome State Fault Refusal := onLogic (openCoil n.val winding.val) s
/-- CHOP_TEST (R245): the test begins; its outcome comes with the off time that ends its last cycle. -/
def execChopTest (n : Fin 32) (ph : Nat) (s : State) : Host.Outcome State Fault Refusal := onLogic (fun c => chopTest n.val (atPhase ph c)) s
/-- STEP_EDGE (R232, R299). -/
def execStepEdge (ch : Fin 24) (tick phase : Nat) (s : State) : Host.Outcome State Fault Refusal := onLogic (stepEdge ch.val tick phase) s
/-- ON_TIME_END (R239), at the field die. -/
def execOnTimeEnd (n : Fin 32) (winding : Fin 2) (current : Int) (tick phase : Nat) (s : State) : Host.Outcome State Fault Refusal :=
  onChip (onTimeEnd n.val winding.val current tick phase) s
/-- OFF_TIME_END (R239), at the field die. -/
def execOffTimeEnd (n : Fin 32) (winding : Fin 2) (current : Int) (tick phase : Nat) (s : State) : Host.Outcome State Fault Refusal :=
  onChip (offTimeEnd n.val winding.val current tick phase) s

/-! ### Loop ports and their modems -/

/-- COMPLIANCE (R263). -/
def execCompliance (n : Fin 32) (s : State) : Host.Outcome State Fault Refusal := onLogic (compliance n.val) s
/-- OPEN_LOOP (R264). -/
def execOpenLoop (n : Fin 32) (s : State) : Host.Outcome State Fault Refusal := onLogic (openLoop n.val) s
/-- THERMAL_SHUT (R268, R269). -/
def execThermalShut (n : Fin 32) (celsius : Int) (ph : Nat) (s : State) : Host.Outcome State Fault Refusal :=
  onChip (fun c => thermalShut n.val celsius (atPhase ph c)) s
/-- PORT_THERMAL_RESTART (R268). -/
def execPortThermalRestart (n : Fin 32) (celsius : Int) (s : State) : Host.Outcome State Fault Refusal := onChip (thermalRestart n.val celsius) s
/-- VLOOP_LOW (R272). -/
def execVloopLow (mv ph : Nat) (s : State) : Host.Outcome State Fault Refusal := onChip (fun c => vloopLow mv (atPhase ph c)) s
/-- VLOOP_RESUME (R272). -/
def execVloopResume (mv : Nat) (s : State) : Host.Outcome State Fault Refusal := onChip (vloopResume mv) s
/-- PORT_READBACK (R270). -/
def execPortReadback (n : Fin 32) (ret : Nat) (share : Timed Nat) (s : State) : Host.Outcome State Fault Refusal :=
  onLogic (fun c => portReadback n.val ret share.val (atPhase share.ph c)) s
/-- SHARE_LOST (R280). -/
def execShareLost (n : Fin 32) (cause : Timed (Fin 3)) (s : State) : Host.Outcome State Fault Refusal :=
  onLogic (fun c => shareLost n.val cause.val.val (atPhase cause.ph c)) s
/-- OVERSHARE (R281). -/
def execOvershare (n : Fin 32) (s : State) : Host.Outcome State Fault Refusal := onLogic (overshare n.val) s
/-- What a modem does on the field die, which goes on through a restart of the logic die without its events (R283). -/
def onFskDie (f : Chip → Chip) (s : State) : Host.Outcome State Fault Refusal :=
  onChip (fun c => if c.dev = .heldRestart then { c with fsk := (f c).fsk } else f c) s
/-- FSK_MESSAGE_START (R275). -/
def execFskMessageStart (n : Fin 32) (ph : Nat) (s : State) : Host.Outcome State Fault Refusal := onLogic (fun c => fskStart n.val (atPhase ph c)) s
/-- FSK_BIT (R274). -/
def execFskBit (n : Fin 32) (tick phase : Nat) (s : State) : Host.Outcome State Fault Refusal := onFskDie (fskBit n.val tick phase) s
/-- FSK_CD (R277). -/
def execFskCd (n : Fin 32) (on : Bool) (tick phase : Nat) (s : State) : Host.Outcome State Fault Refusal := onFskDie (fskCarrier n.val on tick phase) s
/-- FSK_RX_CHARACTER (R277). -/
def execFskRxCharacter (n : Fin 32) (char : Byte) (parity framing : Bool) (tick phase : Nat) (s : State) : Host.Outcome State Fault Refusal :=
  onFskDie (fskReceive n.val char.toNat parity framing tick phase) s

/-! ### Inputs and field links -/

/-- AI_CONVERSION (R289), at the field die. -/
def execAiConversion (codes : List Int) (ph : Nat) (s : State) : Host.Outcome State Fault Refusal := onChip (aiConversion codes ph) s
/-- OPEN_WIRE_TEST (R294). -/
def execOpenWireTest (i : Fin 64) (s : State) : Host.Outcome State Fault Refusal := onLogic (openWireTest i.val) s
/-- CHECK_ADC (R295). -/
def execCheckAdc (i : Fin 64) (code : Timed Int) (s : State) : Host.Outcome State Fault Refusal :=
  onLogic (fun c => checkAdc i.val code.val (atPhase code.ph c)) s
/-- RAW_EDGE (R296, R297): an owner sends the edge on in part X (R400); a shadow takes part X in place of its own edges. -/
def execRawEdge (pin : Fin 144) (level : Bool) (phase : Nat) (s : State) : Host.Outcome State Fault Refusal :=
  onChip (fun c =>
    if c.dev ≠ .heldRestart ∧ roleCode c = 3 then c
    else sendMirror (.edges [(pin.val, level, phase)]) (rawEdge pin.val level c.tick phase c)) s
/-- LINK_START_DONE (R305–R308). -/
def execLinkStartDone (p : Fin 8) (r : LinkResult) (ph : Nat) (s : State) : Host.Outcome State Fault Refusal :=
  onLogic (fun c => linkStartDone p.val r (atPhase ph c)) s
/-- RETURN_FRAME (R304). -/
def execReturnFrame (p : Fin 8) (f : ReturnFrame) (ph : Nat) (s : State) : Host.Outcome State Fault Refusal := onLogic (returnFrame p.val f ph) s
/-- RETURN_LOST (R310). -/
def execReturnLost (p : Fin 8) (s : State) : Host.Outcome State Fault Refusal := onLogic (returnLost p.val) s
/-- WL_DOWN (R311). -/
def execWlDown (p : Fin 8) (ph : Nat) (s : State) : Host.Outcome State Fault Refusal := onLogic (fun c => wlDown p.val (atPhase ph c)) s

/-! ### Capture and the sync bus -/

/-- BOARD_SWEEP (R320). -/
def execBoardSweep (s : State) : Host.Outcome State Fault Refusal := onLogic boardSweep s
/-- TRIGGER_JUDGEMENT (R328). -/
def execTriggerJudgement (edges : List (Nat × Nat)) (s : State) : Host.Outcome State Fault Refusal := onLogic (triggerJudgement edges) s
/-- REARM_END (R331). -/
def execRearmEnd (n : Fin 16) (s : State) : Host.Outcome State Fault Refusal := onLogic (rearmEnd n.val) s
/-- CAP_OVERFLOW (R334). -/
def execCapOverflow (n : Timed (Fin 16)) (s : State) : Host.Outcome State Fault Refusal :=
  onLogic (fun c => capOverflow n.val.val (atPhase n.ph c)) s
/-- STREAM_DRAINED (R333). -/
def execStreamDrained (n : Fin 16) (s : State) : Host.Outcome State Fault Refusal := onLogic (streamDrained n.val) s
/-- TB_BURST (R339). -/
def execTbBurst (line : Fin 8) (unit : Nat) (ok : Bool) (ns : Nat) (s : State) : Host.Outcome State Fault Refusal := onLogic (tbBurst line.val unit ok ns) s
/-- SYNC_LOST (R338). -/
def execSyncLost (ph : Nat) (s : State) : Host.Outcome State Fault Refusal := onLogic (fun c => syncLost (atPhase ph c)) s
/-- REF_LOCKED (R338). -/
def execRefLocked (ph : Nat) (s : State) : Host.Outcome State Fault Refusal := onLogic (fun c => syncLocked (atPhase ph c)) s
/-- PING_ROUND (R340). -/
def execPingRound (answers : Timed (List (Nat × Nat))) (s : State) : Host.Outcome State Fault Refusal :=
  onLogic (fun c => pingRound answers.val (atPhase answers.ph c)) s

/-! ### The host link -/

/-- DMA_TRANSFER (R465). -/
def execDmaTransfer (ch : Fin 8) (items : Nat) (s : State) : Host.Outcome State Fault Refusal := onLogic (dmaTransfer ch.val items) s
/-- MSIX_MESSAGE (R464). -/
def execMsixMessage (v : Fin 64) (ph : Nat) (s : State) : Host.Outcome State Fault Refusal := onChip (fun c => msixMessage v.val (atPhase ph c)) s
/-- IRQ_HOLDOFF (R464). -/
def execIrqHoldoff (v : Fin 64) (ph : Nat) (s : State) : Host.Outcome State Fault Refusal := onChip (fun c => irqHoldoff v.val (atPhase ph c)) s
/-- MSIX_UNMASK (R464). -/
def execMsixUnmask (v : Option (Fin 64)) (cfg : Option HostCfg) (ph : Nat) (s : State) : Host.Outcome State Fault Refusal :=
  onChip (fun c => msixUnmask (v.map (·.val)) cfg (atPhase ph c)) s
/-- HOST_RESET (R458). -/
def execHostReset (ph : Nat) (s : State) : Host.Outcome State Fault Refusal := onChip (fun c => secShow s.nv (hostReset (atPhase ph c))) s
/-- LINK_TRAINING (R457). -/
def execLinkTraining (gen : Fin 4) (lanes : Fin 3) (ph : Nat) (s : State) : Host.Outcome State Fault Refusal :=
  onChip (fun c => linkTraining (gen.val + 1) (2 ^ lanes.val) (atPhase ph c)) s
/-- HOST_LOST (R509). -/
def execHostLost (ph : Nat) (s : State) : Host.Outcome State Fault Refusal := onLogic (fun c => hostLost (atPhase ph c)) s

/-! ### The recorder and the in-service test -/

/-- EVENT_TAKE (R348): the recorder takes an entry as it is written, at the instant of the command that has raised it (log entry 3). -/
def execEventTake (s : State) : Host.Outcome State Fault Refusal := onLogic eventTake s
/-- FLUSH_INTERVAL (R352). -/
def execFlushInterval (s : State) : Host.Outcome State Fault Refusal := onLogic flushInterval s
/-- HEALTH_FLUSH: a flush ends (R352, R354), which a commanded restart may await (R480). -/
def execHealthFlush (ok : Bool) (ph : Nat) (s : State) : Host.Outcome State Fault Refusal := onLogic (fun c => flushEnd ok (atPhase ph c)) s
/-- FLUSH_RETRY (R354). -/
def execFlushRetry (ph : Nat) (s : State) : Host.Outcome State Fault Refusal := onLogic (fun c => flushRetry (atPhase ph c)) s
/-- FLUSH_SPACING (R352). -/
def execFlushSpacing (ph : Nat) (s : State) : Host.Outcome State Fault Refusal := onLogic (fun c => flushSpacing (atPhase ph c)) s
/-- OP_SEC: the field die counts an operating second (R346). -/
def execOpSec (s : State) : Host.Outcome State Fault Refusal := onChip opSecond s
/-- HEALTH_SAMPLE (R350). -/
def execHealthSample (s : State) : Host.Outcome State Fault Refusal := onLogic healthSample s
/-- LANE_CHECK (R355). -/
def execLaneCheck (pl : Fin 20) (kernels : Nat) (ok : Timed Bool) (s : State) : Host.Outcome State Fault Refusal :=
  onLogic (fun c => laneCheck pl.val kernels ok.val (atPhase ok.ph c)) s
/-- RECOMPUTE (R355). -/
def execRecompute (spare : Fin 20) (ok : Bool) (ph : Nat) (s : State) : Host.Outcome State Fault Refusal :=
  onLogic (fun c => recompute spare.val ok (atPhase ph c)) s
/-- SCRUB (R355). -/
def execScrub (words ph : Nat) (s : State) : Host.Outcome State Fault Refusal := onLogic (fun c => scrub words (atPhase ph c)) s
/-- SRAM_ERROR (R357). -/
def execSramError (mem addr unit sub : Nat) (corrected : Bool) (ph : Nat) (s : State) : Host.Outcome State Fault Refusal :=
  onLogic (fun c => sramError mem addr unit sub corrected (atPhase ph c)) s
/-- LINK_CHECK (R355). -/
def execLinkCheck (counts : Timed (List Nat)) (s : State) : Host.Outcome State Fault Refusal :=
  onLogic (fun c => linkCheck counts.val (atPhase counts.ph c)) s

/-! ### Time and network -/

/-- OFFSET_MEASUREMENT (R372–R377). -/
def execOffsetMeasurement (p : Fin 2) (offset : Int) (ph : Nat) (s : State) : Host.Outcome State Fault Refusal :=
  onLogic (fun c => offsetMeasurement p.val offset (atPhase ph c)) s
/-- PATH_DELAY_MEASUREMENT (R379). -/
def execPathDelayMeasurement (p : Fin 2) (delay : Int) (ph : Nat) (s : State) : Host.Outcome State Fault Refusal :=
  onLogic (fun c => pathDelay p.val delay (atPhase ph c)) s
/-- ANNOUNCE (R370, R378). -/
def execAnnounce (p : Fin 2) (msg : Announce) (ph : Nat) (s : State) : Host.Outcome State Fault Refusal := onLogic (fun c => announce p.val msg (atPhase ph c)) s
/-- MASTER_LOST (R372). -/
def execMasterLost (ph : Nat) (s : State) : Host.Outcome State Fault Refusal := onLogic (fun c => masterLost (atPhase ph c)) s
/-- SYNC_RECEIPT_TIMEOUT (R372). -/
def execSyncReceiptTimeout (p : Fin 2) (ph : Nat) (s : State) : Host.Outcome State Fault Refusal := onLogic (fun c => syncTimeout p.val (atPhase ph c)) s
/-- PTP_TRANSMIT (R371). -/
def execPtpTransmit (p : Fin 2) (kind : PtpKind) (corr turn ph : Nat) (s : State) : Host.Outcome State Fault Refusal :=
  onLogic (fun c => ptpTransmit p.val kind corr turn (atPhase ph c)) s
/-- PRP_RECEIVE (R367). -/
def execPrpReceive (p : Fin 2) (src : Nat) (bad : Bool) (rct : Option (Nat × Nat)) (ph : Nat) (s : State) : Host.Outcome State Fault Refusal :=
  onLogic (fun c => prpReceive p.val src bad rct (atPhase ph c)) s
/-- PRP_SUPERVISION (R367). -/
def execPrpSupervision (ph : Nat) (s : State) : Host.Outcome State Fault Refusal := onLogic (fun c => prpSupervision (atPhase ph c)) s
/-- NET_LINK_DOWN (R368). -/
def execNetLinkDown (p : Fin 2) (ph : Nat) (s : State) : Host.Outcome State Fault Refusal := onLogic (fun c => netLinkDown p.val (atPhase ph c)) s
/-- NET_LINK_UP (R368). -/
def execNetLinkUp (p : Fin 2) (ph : Nat) (s : State) : Host.Outcome State Fault Refusal := onLogic (fun c => netLinkUp p.val (atPhase ph c)) s
/-- HOST_FRAME_RX (R382). -/
def execHostFrameRx (p : Fin 2) (bytes : List Byte) (ph : Nat) (s : State) : Host.Outcome State Fault Refusal :=
  onLogic (fun c => hostFrameRx p.val bytes (atPhase ph c)) s
/-- SIGNAL_FRAME_RX (R387). -/
def execSignalFrameRx (f : SignalFrame) (ph : Nat) (s : State) : Host.Outcome State Fault Refusal := onLogic (signalFrameRx f ph) s
/-- SUB_LOST (R389). -/
def execSubLost (h : Timed (Fin 16)) (s : State) : Host.Outcome State Fault Refusal :=
  onLogic (fun c => subLost h.val.val (atPhase h.ph c)) s

end Sys2Proof.Machine
end

