-- ==== Sys2Proof/Machine/Dispatch.lean ====
section
/-!
DEFINITION. Machine/Dispatch.lean: the one place where a command meets its meaning.
-/
namespace Sys2Proof.Machine

open Sys2Proof

/-- The effect of a command on everything but the queue. -/
def exec (i : Instr) (s : State) : Host.Outcome State Fault Refusal :=
  match i with
  | .powerOnReset bist strapB => Sys2Proof.Machine.execPowerOnReset bist strapB s
  | .autoRun => Sys2Proof.Machine.execAutoRun s
  | .heldOutputRestart pin => Sys2Proof.Machine.execHeldOutputRestart pin s
  | .restartComplete sealA sealB elapsed => Sys2Proof.Machine.execRestartComplete sealA sealB elapsed s
  | .fieldDieHoldExpiry => Sys2Proof.Machine.execFieldDieHoldExpiry s
  | .logicWatchdog => Sys2Proof.Machine.execLogicWatchdog s
  | .powerFail mv shared ph => Sys2Proof.Machine.execPowerFail mv shared ph s
  | .powerFailClear mv ph => Sys2Proof.Machine.execPowerFailClear mv ph s
  | .pllUnlock domain ph => Sys2Proof.Machine.execPllUnlock domain ph s
  | .tempWarn field celsius ph => Sys2Proof.Machine.execTempWarn field celsius ph s
  | .tickStart skew glint => Sys2Proof.Machine.execTickStart skew glint s
  | .pIn ports vloop sense => Sys2Proof.Machine.execPIn ports vloop sense s
  | .wakePass => Sys2Proof.Machine.execWakePass s
  | .delayExpiry task => Sys2Proof.Machine.execDelayExpiry task s
  | .waitTimeout task => Sys2Proof.Machine.execWaitTimeout task s
  | .taskDispatch e ph => Sys2Proof.Machine.execTaskDispatch e ph s
  | .stepSet e w => Sys2Proof.Machine.execStepSet e w s
  | .stepRamp e w => Sys2Proof.Machine.execStepRamp e w s
  | .stepValve e w => Sys2Proof.Machine.execStepValve e w s
  | .stepMove e w => Sys2Proof.Machine.execStepMove e w s
  | .stepMode e w => Sys2Proof.Machine.execStepMode e w s
  | .stepDelay e w => Sys2Proof.Machine.execStepDelay e w s
  | .stepWaitUntil e w => Sys2Proof.Machine.execStepWaitUntil e w s
  | .stepWaitEvent e w => Sys2Proof.Machine.execStepWaitEvent e w s
  | .stepSignal e w => Sys2Proof.Machine.execStepSignal e w s
  | .stepFork e w => Sys2Proof.Machine.execStepFork e w s
  | .stepCall e w => Sys2Proof.Machine.execStepCall e w s
  | .stepReturn e w => Sys2Proof.Machine.execStepReturn e w s
  | .stepJump e w => Sys2Proof.Machine.execStepJump e w s
  | .stepBranch e w => Sys2Proof.Machine.execStepBranch e w s
  | .stepMark e w => Sys2Proof.Machine.execStepMark e w s
  | .stepCapture e w => Sys2Proof.Machine.execStepCapture e w s
  | .stepEnd e w => Sys2Proof.Machine.execStepEnd e w s
  | .recipeMemErr e => Sys2Proof.Machine.execRecipeMemErr e s
  | .strandDispatch late => Sys2Proof.Machine.execStrandDispatch late s
  | .strandComplete index => Sys2Proof.Machine.execStrandComplete index s
  | .laneStop pl parity ph => Sys2Proof.Machine.execLaneStop pl parity ph s
  | .earlyCompletionCheck => Sys2Proof.Machine.execEarlyCompletionCheck s
  | .guardEvaluation => Sys2Proof.Machine.execGuardEvaluation s
  | .profilePass => Sys2Proof.Machine.execProfilePass s
  | .pOut finding => Sys2Proof.Machine.execPOut finding s
  | .echoUpdate bad => Sys2Proof.Machine.execEchoUpdate bad s
  | .rim shared => Sys2Proof.Machine.execRim shared s
  | .commit page view ph => Sys2Proof.Machine.execCommit page view ph s
  | .discard page view ph => Sys2Proof.Machine.execDiscard page view ph s
  | .evtForce page view bits ph => Sys2Proof.Machine.execEvtForce page view bits ph s
  | .lock page view ph => Sys2Proof.Machine.execLock page view ph s
  | .hostRegisterWrite bar addr val be ph => Sys2Proof.Machine.execHostRegisterWrite bar addr val be ph s
  | .tickCountLo view ph => Sys2Proof.Machine.execTickCountLo view ph s
  | .nsNow view ph => Sys2Proof.Machine.execNsNow view ph s
  | .opSecLo view ph => Sys2Proof.Machine.execOpSecLo view ph s
  | .wrCount view ch ph => Sys2Proof.Machine.execWrCount view ch ph s
  | .rxData view port ph => Sys2Proof.Machine.execRxData view port ph s
  | .swapReq view ph => Sys2Proof.Machine.execSwapReq view ph s
  | .checkCmd view bank ph => Sys2Proof.Machine.execCheckCmd view bank ph s
  | .checkDone bank ph => Sys2Proof.Machine.execCheckDone bank ph s
  | .retireReq view bits ph => Sys2Proof.Machine.execRetireReq view bits ph s
  | .engineUnretire view bits ph => Sys2Proof.Machine.execEngineUnretire view bits ph s
  | .loopClrState view loop ph => Sys2Proof.Machine.execLoopClrState view loop ph s
  | .sosClrState view sect ph => Sys2Proof.Machine.execSosClrState view sect ph s
  | .guardResetRequest view w bits ph => Sys2Proof.Machine.execGuardResetRequest view w bits ph s
  | .firstClr view ph => Sys2Proof.Machine.execFirstClr view ph s
  | .learn view w bits ph => Sys2Proof.Machine.execLearn view w bits ph s
  | .freeze view w bits ph => Sys2Proof.Machine.execFreeze view w bits ph s
  | .fade view w bits ph => Sys2Proof.Machine.execFade view w bits ph s
  | .clear view w bits ph => Sys2Proof.Machine.execClear view w bits ph s
  | .clearDone echo => Sys2Proof.Machine.execClearDone echo s
  | .echoUnretire view w bits ph => Sys2Proof.Machine.execEchoUnretire view w bits ph s
  | .indexEdge echo tick phase => Sys2Proof.Machine.execIndexEdge echo tick phase s
  | .indexLost echo tick phase => Sys2Proof.Machine.execIndexLost echo tick phase s
  | .start view task ph => Sys2Proof.Machine.execStart view task ph s
  | .cancel view task ph => Sys2Proof.Machine.execCancel view task ph s
  | .suspend view task ph => Sys2Proof.Machine.execSuspend view task ph s
  | .resume view task ph => Sys2Proof.Machine.execResume view task ph s
  | .flagSet view w bits ph => Sys2Proof.Machine.execFlagSet view w bits ph s
  | .flagClr view w bits ph => Sys2Proof.Machine.execFlagClr view w bits ph s
  | .qstop view w bits ph => Sys2Proof.Machine.execQstop view w bits ph s
  | .home view bits ph => Sys2Proof.Machine.execHome view bits ph s
  | .setPosCmd view mp ph => Sys2Proof.Machine.execSetPosCmd view mp ph s
  | .edgeQualified axis which level tick phase => Sys2Proof.Machine.execEdgeQualified axis which level tick phase s
  | .chatter axis which => Sys2Proof.Machine.execChatter axis which s
  | .tableUpdate axis xi sampA sampB => Sys2Proof.Machine.execTableUpdate axis xi sampA sampB s
  | .standstillReduction axis => Sys2Proof.Machine.execStandstillReduction axis s
  | .overcurrent axis winding ph => Sys2Proof.Machine.execOvercurrent axis winding ph s
  | .openCoil axis winding => Sys2Proof.Machine.execOpenCoil axis winding s
  | .chopTest axis ph => Sys2Proof.Machine.execChopTest axis ph s
  | .stepEdge ch tick phase => Sys2Proof.Machine.execStepEdge ch tick phase s
  | .stepdrvUnretire view bits ph => Sys2Proof.Machine.execStepdrvUnretire view bits ph s
  | .clrOffs view bits ph => Sys2Proof.Machine.execClrOffs view bits ph s
  | .compliance port => Sys2Proof.Machine.execCompliance port s
  | .openLoop port => Sys2Proof.Machine.execOpenLoop port s
  | .thermalShut port celsius ph => Sys2Proof.Machine.execThermalShut port celsius ph s
  | .portThermalRestart port celsius => Sys2Proof.Machine.execPortThermalRestart port celsius s
  | .vloopLow mv ph => Sys2Proof.Machine.execVloopLow mv ph s
  | .vloopResume mv => Sys2Proof.Machine.execVloopResume mv s
  | .portReadback port ret share => Sys2Proof.Machine.execPortReadback port ret share s
  | .shareLost port cause => Sys2Proof.Machine.execShareLost port cause s
  | .overshare port => Sys2Proof.Machine.execOvershare port s
  | .lportUnretire view bits ph => Sys2Proof.Machine.execLportUnretire view bits ph s
  | .txData view port char ph => Sys2Proof.Machine.execTxData view port char ph s
  | .txGo view port len ph => Sys2Proof.Machine.execTxGo view port len ph s
  | .fskMessageStart port ph => Sys2Proof.Machine.execFskMessageStart port ph s
  | .txAbort view port ph => Sys2Proof.Machine.execTxAbort view port ph s
  | .rxFlush view port ph => Sys2Proof.Machine.execRxFlush view port ph s
  | .fskBit port tick phase => Sys2Proof.Machine.execFskBit port tick phase s
  | .fskCd port xon tick phase => Sys2Proof.Machine.execFskCd port xon tick phase s
  | .fskRxCharacter port char parity framing tick phase => Sys2Proof.Machine.execFskRxCharacter port char parity framing tick phase s
  | .aiConversion codes ph => Sys2Proof.Machine.execAiConversion codes ph s
  | .openWireTest input => Sys2Proof.Machine.execOpenWireTest input s
  | .checkAdc input code => Sys2Proof.Machine.execCheckAdc input code s
  | .aiUnretire view w bits ph => Sys2Proof.Machine.execAiUnretire view w bits ph s
  | .rawEdge pin level phase => Sys2Proof.Machine.execRawEdge pin level phase s
  | .linkStart view port ph => Sys2Proof.Machine.execLinkStart view port ph s
  | .linkStartDone port result ph => Sys2Proof.Machine.execLinkStartDone port result ph s
  | .linkStop view port ph => Sys2Proof.Machine.execLinkStop view port ph s
  | .returnFrame port frame ph => Sys2Proof.Machine.execReturnFrame port frame ph s
  | .returnLost port => Sys2Proof.Machine.execReturnLost port s
  | .wlDown port ph => Sys2Proof.Machine.execWlDown port ph s
  | .boardSweep => Sys2Proof.Machine.execBoardSweep s
  | .triggerJudgement edges => Sys2Proof.Machine.execTriggerJudgement edges s
  | .rearmEnd cset => Sys2Proof.Machine.execRearmEnd cset s
  | .capOverflow cset => Sys2Proof.Machine.execCapOverflow cset s
  | .arm view bits ph => Sys2Proof.Machine.execArm view bits ph s
  | .disarm view bits ph => Sys2Proof.Machine.execDisarm view bits ph s
  | .streamDrained cset => Sys2Proof.Machine.execStreamDrained cset s
  | .swTrig view bits ph => Sys2Proof.Machine.execSwTrig view bits ph s
  | .tbBurst line unit ok ns => Sys2Proof.Machine.execTbBurst line unit ok ns s
  | .syncLost ph => Sys2Proof.Machine.execSyncLost ph s
  | .ping view ph => Sys2Proof.Machine.execPing view ph s
  | .pingRound answers => Sys2Proof.Machine.execPingRound answers s
  | .rdCount view ch value ph => Sys2Proof.Machine.execRdCount view ch value ph s
  | .dmaTransfer ch items => Sys2Proof.Machine.execDmaTransfer ch items s
  | .msixMessage vector ph => Sys2Proof.Machine.execMsixMessage vector ph s
  | .irqHoldoff vector ph => Sys2Proof.Machine.execIrqHoldoff vector ph s
  | .hostReset ph => Sys2Proof.Machine.execHostReset ph s
  | .wdKick view ph => Sys2Proof.Machine.execWdKick view ph s
  | .hostLost ph => Sys2Proof.Machine.execHostLost ph s
  | .run view ph => Sys2Proof.Machine.execRun view ph s
  | .safe view ph => Sys2Proof.Machine.execSafe view ph s
  | .restart view ph => Sys2Proof.Machine.execRestart view ph s
  | .eventTake => Sys2Proof.Machine.execEventTake s
  | .flush view ph => Sys2Proof.Machine.execFlush view ph s
  | .flushInterval => Sys2Proof.Machine.execFlushInterval s
  | .healthFlush ok ph => Sys2Proof.Machine.execHealthFlush ok ph s
  | .flushRetry ph => Sys2Proof.Machine.execFlushRetry ph s
  | .opSec => Sys2Proof.Machine.execOpSec s
  | .healthSample => Sys2Proof.Machine.execHealthSample s
  | .codeCfg view val ph => Sys2Proof.Machine.execCodeCfg view val ph s
  | .rdIndex view index ph => Sys2Proof.Machine.execRdIndex view index ph s
  | .laneCheck pl kernels ok => Sys2Proof.Machine.execLaneCheck pl kernels ok s
  | .recompute spare ok ph => Sys2Proof.Machine.execRecompute spare ok ph s
  | .scrub words ph => Sys2Proof.Machine.execScrub words ph s
  | .sramError mem addr unit sub corrected ph => Sys2Proof.Machine.execSramError mem addr unit sub corrected ph s
  | .linkCheck counts => Sys2Proof.Machine.execLinkCheck counts s
  | .offsetMeasurement port offset ph => Sys2Proof.Machine.execOffsetMeasurement port offset ph s
  | .pathDelayMeasurement port delay ph => Sys2Proof.Machine.execPathDelayMeasurement port delay ph s
  | .announce port msg ph => Sys2Proof.Machine.execAnnounce port msg ph s
  | .masterLost ph => Sys2Proof.Machine.execMasterLost ph s
  | .ptpTransmit port kind corr turn ph => Sys2Proof.Machine.execPtpTransmit port kind corr turn ph s
  | .restep view ph => Sys2Proof.Machine.execRestep view ph s
  | .timeCmdSet view ph => Sys2Proof.Machine.execTimeCmdSet view ph s
  | .timeCmdCancel view ph => Sys2Proof.Machine.execTimeCmdCancel view ph s
  | .prpReceive port src bad rct ph => Sys2Proof.Machine.execPrpReceive port src bad rct ph s
  | .prpSupervision ph => Sys2Proof.Machine.execPrpSupervision ph s
  | .netLinkDown port ph => Sys2Proof.Machine.execNetLinkDown port ph s
  | .netLinkUp port ph => Sys2Proof.Machine.execNetLinkUp port ph s
  | .htxGo view word ph => Sys2Proof.Machine.execHtxGo view word ph s
  | .hostFrameRx port bytes ph => Sys2Proof.Machine.execHostFrameRx port bytes ph s
  | .hrxPop view ph => Sys2Proof.Machine.execHrxPop view ph s
  | .signalFrameRx frame ph => Sys2Proof.Machine.execSignalFrameRx frame ph s
  | .subLost group => Sys2Proof.Machine.execSubLost group s
  | .glintPulse ph => Sys2Proof.Machine.execGlintPulse ph s
  | .glintLost tick phase ph => Sys2Proof.Machine.execGlintLost tick phase ph s
  | .twinLinkLost ph => Sys2Proof.Machine.execTwinLinkLost ph s
  | .twinLinkLock info ph => Sys2Proof.Machine.execTwinLinkLock info ph s
  | .mirrorPart part ph => Sys2Proof.Machine.execMirrorPart part ph s
  | .twinAck ph => Sys2Proof.Machine.execTwinAck ph s
  | .takeover ph => Sys2Proof.Machine.execTakeover ph s
  | .degradedTakeover outs ph => Sys2Proof.Machine.execDegradedTakeover outs ph s
  | .witnessSend => Sys2Proof.Machine.execWitnessSend s
  | .witnessFrame frame ph => Sys2Proof.Machine.execWitnessFrame frame ph s
  | .witnessLost ph => Sys2Proof.Machine.execWitnessLost ph s
  | .handoff sent => Sys2Proof.Machine.execHandoff sent s
  | .handoffSwitch => Sys2Proof.Machine.execHandoffSwitch s
  | .swap view ph => Sys2Proof.Machine.execSwap view ph s
  | .failbackRequest => Sys2Proof.Machine.execFailbackRequest s
  | .failback => Sys2Proof.Machine.execFailback s
  | .rejoin view ph => Sys2Proof.Machine.execRejoin view ph s
  | .retire view ph => Sys2Proof.Machine.execRetire view ph s
  | .solo view ph => Sys2Proof.Machine.execSolo view ph s
  | .joinComplete digest => Sys2Proof.Machine.execJoinComplete digest s
  | .joinSlow ph => Sys2Proof.Machine.execJoinSlow ph s
  | .joinWait result ph => Sys2Proof.Machine.execJoinWait result ph s
  | .xcheckDiff sig => Sys2Proof.Machine.execXcheckDiff sig s
  | .migHandover view ph => Sys2Proof.Machine.execMigHandover view ph s
  | .migDone => Sys2Proof.Machine.execMigDone s
  | .migAbort view ph => Sys2Proof.Machine.execMigAbort view ph s
  | .chalCmdNew view ph => Sys2Proof.Machine.execChalCmdNew view ph s
  | .chalCmdClose view ph => Sys2Proof.Machine.execChalCmdClose view ph s
  | .sessionEnd ph => Sys2Proof.Machine.execSessionEnd ph s
  | .pkgLoad bytes partnerOk ph => Sys2Proof.Machine.execPkgLoad bytes partnerOk ph s
  | .pkgLoaded ph => Sys2Proof.Machine.execPkgLoaded ph s
  | .supplementApply ph => Sys2Proof.Machine.execSupplementApply ph s
  | .pkgApply ph => Sys2Proof.Machine.execPkgApply ph s
  | .anchor ph => Sys2Proof.Machine.execAnchor ph s
  | .grant ph => Sys2Proof.Machine.execGrant ph s
  | .claim ph => Sys2Proof.Machine.execClaim ph s
  | .returnPackage ph => Sys2Proof.Machine.execReturnPackage ph s
  | .provision ph => Sys2Proof.Machine.execProvision ph s
  | .cert ph => Sys2Proof.Machine.execCert ph s
  | .debug ph => Sys2Proof.Machine.execDebug ph s
  | .refurb ph => Sys2Proof.Machine.execRefurb ph s
  | .scrap ph => Sys2Proof.Machine.execScrap ph s
  | .quoteGo view ph => Sys2Proof.Machine.execQuoteGo view ph s
  | .quoteDone ph => Sys2Proof.Machine.execQuoteDone ph s
  | .pllRelock domain ph => Sys2Proof.Machine.execPllRelock domain ph s
  | .refLocked ph => Sys2Proof.Machine.execRefLocked ph s
  | .syncReceiptTimeout port ph => Sys2Proof.Machine.execSyncReceiptTimeout port ph s
  | .flushSpacing ph => Sys2Proof.Machine.execFlushSpacing ph s
  | .onTimeEnd axis winding current tick phase => Sys2Proof.Machine.execOnTimeEnd axis winding current tick phase s
  | .offTimeEnd axis winding current tick phase => Sys2Proof.Machine.execOffTimeEnd axis winding current tick phase s
  | .linkTraining gen lanes ph => Sys2Proof.Machine.execLinkTraining gen lanes ph s
  | .msixUnmask vector cfg ph => Sys2Proof.Machine.execMsixUnmask vector cfg ph s
  | .glintPresent tick phase => Sys2Proof.Machine.execGlintPresent tick phase s

end Sys2Proof.Machine
end

