-- ==== Sys2Proof/Safety.lean ====
section
/-!
DEFINITION. Safety.lean: the terms in which claims about the machine are stated: canonical memories, the fuses that a part can have, when a host
write may act, what a command leaves as it was, and what it is for a command to complete.
-/
namespace Sys2Proof.Machine

open Sys2Proof

/-! ### Canonical memories -/

/-- A register memory in canonical form: offsets strictly rising, and no byte listed that has its reset value. -/
abbrev memWf (m : Tab Byte) : Prop := tabWf resetByte m = true

/-! ### Fuses (R435, R436, R440) -/

/-- Fuses that a part can have: the transitions of each cycle were blown in the order CLAIM, RETURN, REFURB; the first CLAIM came after PROVISION;
the fourth cycle has no REFURB and SCRAP comes in RETURN; a group's anchors are written from its cycle on, and only a written one is revoked. -/
structure Fuses.Ok (f : Fuses) : Prop where
  sizes   : f.own.length = 4 ∧ f.ret.length = 4 ∧ f.refurb.length = 4 ∧ f.anchors.length = 16
  first   : f.own.getD 0 false = true → f.prov = true
  order   : ∀ k, k < 4 → (f.ret.getD k false = true → f.own.getD k false = true)
              ∧ (f.refurb.getD k false = true → f.ret.getD k false = true)
              ∧ (f.own.getD (k + 1) false = true → f.refurb.getD k false = true)
  fourth  : f.refurb.getD 3 false = false
  scraps  : f.scrap = true → 0 < cycleOf f ∧ f.ret.getD (cycleOf f - 1) false = true ∧ f.refurb.getD (cycleOf f - 1) false = false
  groups  : ∀ g s, s < 4 → cycleOf f ≤ g → (anchorOf f g s).written = false
  revoked : ∀ g s, (anchorOf f g s).revoked = true → (anchorOf f g s).written = true

/-- The invariant of the machine. -/
def State.Inv (s : State) : Prop := s.nv.fuses.Ok

/-- The life-cycle transitions of R436, by the codes of LC_STAT. -/
def lcEdge (a b : Nat) : Prop := (a, b) ∈ [(0, 1), (1, 2), (2, 3), (3, 1), (3, 4)]

/-- The commands that may change the fuses, the slots, the identity or the version counters: those that take, verify or apply a package, and the
end of a restart, which may stop one. -/
def storesNv : Instr → Bool
  | .restartComplete _ _ _ | .mirrorPart _ _ | .pkgLoad _ _ _ | .supplementApply _ | .anchor _ | .claim _ | .returnPackage _ | .provision _ | .cert _
  | .refurb _ | .scrap _ => true
  | _ => false

/-- The commands that blow fuses (R436, R441). -/
def blowsFuses : Instr → Bool
  | .anchor _ | .claim _ | .returnPackage _ | .provision _ | .refurb _ | .scrap _ => true
  | _ => false

/-! ### What a command leaves as it was -/

/-- The part apart from its registers and windows (and their image at the start of the cycle), its event ring, what it sends out and the phase it
stands at. -/
def Chip.quiet (c : Chip) : Chip := { c with mem := [], before := [], ring := RingSt.reset, emitted := [], phase := 0 }

/-- The part apart from those and from what the host link remembers of the messages it has sent. -/
def Chip.still (c : Chip) : Chip := { c.quiet with lnk := { c.lnk with sent := [], irqFrom := [], ended := [] } }

/-- Every register byte outside the ranges (offset, length) reads as before. -/
def Untouched (l : List (Nat × Nat)) (c d : Chip) : Prop := ∀ a, (∀ r ∈ l, a < r.1 ∨ r.1 + r.2 ≤ a) → rd8 d a = rd8 c a

/-- The registers that raising an event of a page may change: its EVT_STAT and FAULT_STAT, and the counts of what the ring's consumers lost. -/
def evRegs (p : Page) : List (Nat × Nat) :=
  [(pageBase p + Reg.HDR_EVT_STAT, 4), (pageBase p + Reg.HDR_FAULT_STAT, 4), (Reg.SYS_RING_LOSS_DATA, 4), (Reg.SYS_RING_LOSS_MGMT, 4)]

/-- The SEC page below its header. -/
def secRegs : Nat × Nat := (0x13040, 0xFC0)

/-- The pending bits of the MSI-X vectors. -/
def pbaRegs : Nat × Nat := (0x14800, 8)

/-- An event that was enabled stands in its page's EVT_STAT (R462). -/
def Reported (d : EvDef) (c c' : Chip) : Prop := evEnabled c d = true → rdB c' (pageBase d.page + Reg.HDR_EVT_STAT) d.bit = true

/-- The bits of a register that only the P-view may write, by the view (R459). -/
def pOnly (v : View) (k : Word) : Word := if v = .p then k else 0

/-- A request register has taken bits beside those that stood, and nothing else has changed but what every host write may change. -/
def Takes (a : Nat) (bits : Word) (s : State) (c : Chip) : Prop :=
  rd32 c a = rd32 s.chip a ||| bits ∧ c.still = s.chip.still ∧ Untouched [(a, 4), secRegs, pbaRegs] s.chip c

/-- A page has staged items behind those that it held, and nothing else has changed but its COMMIT_STAT and what every host write may change. -/
def Stages (p : Page) (items : List PendItem) (s : State) (c : Chip) : Prop :=
  pendOf c p = pendOf s.chip p ++ items
    ∧ c.still = { s.chip.still with pend := c.pend } ∧ (∀ q, q ≠ p → pendOf c q = pendOf s.chip q)
    ∧ Untouched [(pageBase p + Reg.HDR_COMMIT_STAT, 4), secRegs, pbaRegs] s.chip c

/-! ### Completion -/

/-- A command completes: it answers a next state, with the store and the waiting commands as they were and the part as `P` says. -/
def Completes (i : Instr) (s : State) (P : Chip → Prop) : Prop :=
  ∃ t, exec i s = .next t ∧ t.nv = s.nv ∧ t.pending = s.pending ∧ P t.chip

/-- The logic die runs: no held-output restart holds it in reset (R478). -/
def State.Live (s : State) : Prop := s.chip.dev ≠ .heldRestart

/-- A page register below its header, outside the DMA channels' blocks, that a view may write, and that takes every value. -/
def goodReg (v : View) (p : Page) (a : Nat) : Bool :=
  decide (pageOfAddr a = some p) && decide (windowOfAddr a = none) && decide (a % 4 = 0) && decide (0x40 ≤ a % 0x1000)
    && !(decide (0x14100 ≤ a) && decide (a < 0x14300)) && decide (a ≠ Reg.WEAVE_BANK0_LEN) && decide (a ≠ Reg.WEAVE_BANK1_LEN)
    && (decide (v = .p) || decide (p ≠ .sec))

/-- A host write through a view to offset `a` of a page may act at once: the logic die runs, the part is not scrapped, a P-view write has its
session where it needs one, the unit owns its outputs or the page takes writes in every role, and no partner is to acknowledge the write. -/
structure State.HostMay (s : State) (v : View) (p : Page) (a : Nat) : Prop where
  live    : s.Live
  inUse   : rdF s.chip Reg.SEC_LC_STAT 2 0 ≠ 4
  session : v = .p → s.chip.sec.session.isSome = true ∨ sessionFree a = true
  owns    : ownsOutputs s.chip = true ∨ anyRole p = true
  alone   : forwarded s.chip p a = false

/-! ### The step engines -/

/-- Engine `e` may carry out the step of its task `t`: the scheduler dispatches, the rim is not too near, and no guard blocks the step. -/
structure State.AtStep (s : State) (e t : Nat) (w : StepWord) : Prop where
  holds : (s.chip.engine e).task = t ∧ t ≠ 0 ∧ engineOf s.chip t = some e
  runs  : dispatchOpen s.chip = true ∧ stepStart s.chip e ≤ lastStart s.chip
  free  : w.tagEn = true → blockingGuard s.chip w.tag = none
  bits  : w.rsv15 = false

/-- The task goes on at step `pc`: in its engine, or at the back of its ready list after its 32nd step (R186). -/
def GoesOn (e t pc : Nat) (s : State) (c : Chip) : Prop :=
  (c.task t).pc = pc ∧ (c.task t).steps = satInc 32 (s.chip.task t).steps
    ∧ ((s.chip.engine e).count = 31 → (c.task t).state = .ready ∧ (c.engine e).task = 0)
    ∧ ((s.chip.engine e).count ≠ 31 → (c.task t).state = (s.chip.task t).state ∧ (c.engine e).task = t
        ∧ (c.engine e).count = (s.chip.engine e).count + 1)

/-- The CK_SEQ cycle at which the step that engine `e` may carry out ends: 8 cycles after its start (Table 6). -/
def boundary (s : State) (e : Nat) : Nat := stepStart s.chip e + 8

/-- A control-plane entry is asked for at the boundary of its step (R187). -/
def Posts (e : Nat) (op : CtlOp) (s : State) (c : Chip) : Prop :=
  c.cqueue = s.chip.cqueue ++ [⟨e, op, boundary s e⟩]
    ∧ (c.engine e).entries = (s.chip.engine e).entries + 1 ∧ c.mqueue = s.chip.mqueue ∧ c.dev = s.chip.dev

/-- The task waits at its step for `wt`, up to a deadline, and its engine is idle (R171, R173). -/
def Waits (e t : Nat) (w : StepWord) (wt : Wait) (deadline : Option Nat) (s : State) (c : Chip) : Prop :=
  (c.task t).state = .waiting ∧ (c.task t).wait = some wt ∧ (c.task t).deadline = deadline ∧ (c.task t).pc = (s.chip.task t).pc
    ∧ (c.task t).realignOk = w.realignOk ∧ (c.task t).quiet = w.quiet ∧ (c.task t).ranTick = s.chip.tick ∧ (c.engine e).task = 0

/-- Whether a wait is one that its evaluations judge: WAIT_UNTIL's or WAIT_EVENT's (R171). -/
def judgedWait : Option Wait → Bool
  | some (.sig _ _ _ _ _) => true
  | some (.event _ _) => true
  | _ => false

/-- The task has stopped in FAULTED at its step, with a cause (R191). -/
def Faults (e t cause : Nat) (s : State) (c : Chip) : Prop :=
  (c.task t).state = .faulted ∧ (c.task t).cause = cause ∧ (c.task t).faultPc = (s.chip.task t).pc ∧ (c.engine e).task = 0
    ∧ c.cqueue = s.chip.cqueue

end Sys2Proof.Machine
end

