-- ==== Sys2Proof/Certificates/Slice0/Obligations.lean ====
section
/-!
DEFINITION. Certificates/Slice0/Obligations.lean: the statements about the machine that are to be proved.
-/
open Sys2Proof Sys2Proof.Machine

/-! ### The queue, reset and the store -/

/-- The command at the front of the queue is the one that a step runs, on the state with the queue's rest; with no command waiting the block idles
(the model's own rule, log entry 1). -/
def Obligations.StepRunsTheFrontCommand : Prop :=
  (∀ (c : Instr) (rest : List Instr) (s : State), step { s with pending := c :: rest } = exec c { s with pending := rest })
    ∧ ∀ s : State, s.pending = [] → step s = .next s

/-- No command stops the machine, and none touches the commands that wait behind it. -/
def Obligations.EveryCommandAnswers : Prop := ∀ (i : Instr) (s : State), ∃ t, exec i s = .next t ∧ t.pending = s.pending

/-- The part right after reset: SAFE_IDLE, role SOLO, tick 0, bank 0 active and neither bank checked, nothing staged, queued or written, no session,
and every register byte at its reset value. -/
def Obligations.ResetState : Prop :=
  let c := State.reset.chip
  c.dev = .safeIdle ∧ roleCode c = 0 ∧ c.tick = 0 ∧ c.bankActive = 0 ∧ c.bank0 = .unchecked ∧ c.bank1 = .unchecked
    ∧ c.work = [] ∧ c.settled = [] ∧ c.ring.entries = [] ∧ c.mqueue = [] ∧ c.cqueue = [] ∧ c.sec.session = none ∧ State.reset.pending = []
    ∧ tickN c = 5000 ∧ lcState State.reset.nv.fuses = 0 ∧ (∀ p, pendOf c p = []) ∧ (∀ a, rd8 c a = resetByte a)

/-- The fuses of the part at reset are fuses that a part can have, and its register memory is canonical. -/
def Obligations.InvariantAtReset : Prop := State.reset.Inv ∧ memWf State.reset.chip.mem

/-- The fuses stay fuses that a part can have, over every step. -/
def Obligations.StepKeepsTheInvariant : Prop := ∀ s t : State, s.Inv → step s = .next t → t.Inv

/-- A step leaves the life-cycle state as it is or takes one of R436's transitions; SCRAPPED is left by none. -/
def Obligations.LifeCycleMovesAlongItsEdges : Prop :=
  ∀ s t : State, s.Inv → step s = .next t →
    (lcState t.nv.fuses = lcState s.nv.fuses ∨ lcEdge (lcState s.nv.fuses) (lcState t.nv.fuses))
      ∧ (lcState s.nv.fuses = 4 → lcState t.nv.fuses = 4)

/-- A fuse that is blown stays blown: the life-cycle fuses, and an anchor slot's writing and revocation. -/
def Obligations.BlownFusesStayBlown : Prop :=
  ∀ (s t : State) (k : Nat), s.Inv → step s = .next t →
    (s.nv.fuses.prov = true → t.nv.fuses.prov = true) ∧ (s.nv.fuses.scrap = true → t.nv.fuses.scrap = true)
      ∧ (s.nv.fuses.own.getD k false = true → t.nv.fuses.own.getD k false = true)
      ∧ (s.nv.fuses.ret.getD k false = true → t.nv.fuses.ret.getD k false = true)
      ∧ (s.nv.fuses.refurb.getD k false = true → t.nv.fuses.refurb.getD k false = true)
      ∧ (∀ g n, (anchorOf s.nv.fuses g n).written = true → (anchorOf t.nv.fuses g n).written = true)
      ∧ (∀ g n, (anchorOf s.nv.fuses g n).revoked = true → (anchorOf t.nv.fuses g n).revoked = true)

/-- Only an ANCHOR package and the commands of a life-cycle transition blow fuses; only the commands of packages, and the end of a restart, change
slots, identity or version counters. -/
def Obligations.StoreChangesOnlyByPackages : Prop :=
  ∀ (i : Instr) (s t : State), exec i s = .next t →
    (blowsFuses i = false → t.nv.fuses = s.nv.fuses) ∧ (storesNv i = false → t.nv = s.nv)

/-! ### Registers and numbers -/

/-- A register memory reads back what was written, leaves every other DWORD as it was, and stays canonical. -/
def Obligations.RegistersReadBack : Prop :=
  ∀ (c : Chip) (a : Nat) (w : Word), rd32 (wr32 a w c) a = w
    ∧ (∀ x, x + 4 ≤ a ∨ a + 4 ≤ x → rd32 (wr32 a w c) x = rd32 c x) ∧ (memWf c.mem → memWf (wr32 a w c).mem)

/-- A value stored to 32 bits is the exact value rounded to nearest with ties to even, then saturated to the symmetric range: 0x8000_0000 is never
stored. A section state is stored without rounding and saturates to the symmetric range of 64 bits. -/
def Obligations.StoresRoundAndSaturate : Prop :=
  ∀ (acc : Int) (k : Nat),
    (store32 acc k).1 ≤ sigMax ∧ -sigMax ≤ (store32 acc k).1 ∧ Word.ofInt (store32 acc k).1 ≠ 0x80000000
      ∧ (store32 acc k).1 = clampInt (-sigMax) sigMax (roundShift acc k)
      ∧ 2 * (acc - roundShift acc k * 2 ^ k) ≤ 2 ^ k ∧ -(2 ^ k) ≤ 2 * (acc - roundShift acc k * 2 ^ k)
      ∧ ((2 * (acc - roundShift acc k * 2 ^ k)).natAbs = 2 ^ k → k ≠ 0 → roundShift acc k % 2 = 0)
      ∧ ((store32 acc k).2 = true ↔ roundShift acc k < -sigMax ∨ sigMax < roundShift acc k)
      ∧ (store64 acc).1 = clampInt (-stateMax) stateMax acc ∧ -stateMax ≤ (store64 acc).1 ∧ (store64 acc).1 ≤ stateMax
      ∧ ((store64 acc).2 = false ↔ (store64 acc).1 = acc)/-! ### Host writes that are discarded -/

/-- While a held-output restart holds the logic die in reset, a host write does nothing; a read then, or of a scrapped part's page, answers zero. -/
def Obligations.ClosedAccessesDoNothing : Prop :=
  (∀ (s : State) (bar : Bar) (addr : Nat) (val : Word) (be : Fin 16) (ph : Nat), s.chip.dev = .heldRestart →
    Completes (.hostRegisterWrite bar addr (some val) be ph) s (fun c => c.quiet = s.chip.quiet ∧ c.emitted = [] ∧ c.ring = s.chip.ring
      ∧ Untouched [secRegs] s.chip c))
  ∧ (∀ (s : State) (v : View) (ph : Nat) (i : Instr) (a : Nat),
    (i, a) ∈ [(Instr.tickCountLo v ph, Reg.TICK_TICK_COUNT_LO), (.nsNow v ph, Reg.TIME_NS_NOW), (.opSecLo v ph, Reg.HEALTH_OP_SEC_LO)]
        ++ (List.finRange 8).map (fun ch => (Instr.wrCount v ch ph, dmaBlock ch + 0x10))
        ++ (List.finRange 32).map (fun n => (Instr.rxData v n ph, portBlock n + 0x1C)) →
      readsZero s.chip (viewBar v) a = true →
      Completes i s (fun c => c.emitted = [.readData 0] ∧ c.quiet = s.chip.quiet ∧ Untouched [secRegs] s.chip c))

/-- A write to an offset that is not mapped, at an aligned offset below 2^32, is discarded: BAD_ADDR and BAD_INFO record it and BAD_ACCESS reports it. -/
def Obligations.UnmappedWriteIsBadAccess : Prop :=
  ∀ (s : State) (bar : Bar) (addr : Nat) (val : Word) (be : Fin 16) (ph : Nat), s.Live → addr % 4 = 0 → addr < 2 ^ 32 → mapped bar addr = false →
    Completes (.hostRegisterWrite bar addr (some val) be ph) s (fun c =>
      rd32 c Reg.SYS_BAD_ADDR = Word.ofNat addr ∧ rd32 c Reg.SYS_BAD_INFO = Word.ofNat (2 * barCode bar + 8)
        ∧ Reported Event.SYS_BAD_ACCESS s.chip c ∧ c.quiet = s.chip.quiet
        ∧ Untouched ([(Reg.SYS_BAD_ADDR, 4), (Reg.SYS_BAD_INFO, 4), secRegs] ++ evRegs .sys) s.chip c)

/-- A write without the right is discarded, and the page's WRITE_DENIED reports it where the page has one: a P-view write of a page register without a
privilege session, but for the registers of SEC that need none, and a write at a unit whose outputs are in standby, but for TWIN, HOST, CLKPWR and SEC.
Nothing that the page holds changes. -/
def Obligations.WritesWithoutTheRightAreDenied : Prop :=
  (∀ (s : State) (p : Page) (a : Nat) (w : Word) (ph : Nat), s.Live → rdF s.chip Reg.SEC_LC_STAT 2 0 ≠ 4 → s.chip.sec.session = none →
      goodReg .p p a = true → sessionFree a = false → p ≠ .loopctl →
      Completes (.hostRegisterWrite .bar2 a (some w) 15 ph) s (fun c =>
        c.quiet = s.chip.quiet ∧ Untouched (evRegs p ++ [secRegs]) s.chip c ∧ (∀ d, deniedEvent p = some d → Reported d s.chip c)))
  ∧ (∀ (s : State) (v : View) (p : Page) (a : Nat) (w : Word) (ph : Nat), s.Live → rdF s.chip Reg.SEC_LC_STAT 2 0 ≠ 4 →
      (v = .p → s.chip.sec.session.isSome = true) → ownsOutputs s.chip = false → anyRole p = false → goodReg v p a = true →
      p ≠ .loopctl → a ≠ Reg.SYS_DEV_CMD →
      Completes (.hostRegisterWrite (viewBar v) a (some w) 15 ph) s (fun c =>
        c.quiet = s.chip.quiet ∧ Untouched (evRegs p ++ [secRegs]) s.chip c ∧ (∀ d, deniedEvent p = some d → Reported d s.chip c)))


/-- An owner whose partner is in JOINING or SHADOW forwards a write and keeps it until the partner acknowledges it: the register does not change yet.
TWIN_ACK: the oldest write that awaits the partner acts, as it would have at a unit without a partner, and leaves the others waiting. -/
def Obligations.ForwardedWritesActWhenAcknowledged : Prop :=
  (∀ (s : State) (v : View) (p : Page) (a : Nat) (w : Word) (ph : Nat), s.Live → rdF s.chip Reg.SEC_LC_STAT 2 0 ≠ 4 →
      (v = .p → s.chip.sec.session.isSome = true) → goodReg v p a = true → forwarded s.chip p a = true →
      Completes (.hostRegisterWrite (viewBar v) a (some w) 15 ph) s (fun c =>
        c.twin.awaiting = s.chip.twin.awaiting ++ [⟨viewBar v, a, w, 15⟩]
          ∧ Emission.mirror (.entry (.write (viewBar v) a w 15)) ∈ c.emitted ∧ c.pend = s.chip.pend ∧ Untouched [secRegs] s.chip c))
  ∧ (∀ (s : State) (w : HostWrite) (rest : List HostWrite) (ph : Nat), s.Live → s.chip.twin.awaiting = w :: rest →
      Completes (.twinAck ph) s (fun c => ∃ d, d = hostAct w.bar w.addr w.val w.be
          { atPhase ph (opened s.chip) with twin := { s.chip.twin with awaiting := rest } } ∧ c.quiet = d.quiet ∧ Untouched [secRegs] d c))


/-! ### Requests, stagings and commands by register writes -/

/-- HOST_REGISTER_WRITE: a write of ones clears those bits of EVT_STAT that stood when its cycle began, and one that the cycle itself has set stays; no
other register changes but what every host write may change. -/
def Obligations.EventStatusIsWriteOneClear : Prop :=
  ∀ (s : State) (v : View) (p : Page) (w : Word) (ph : Nat), s.HostMay v p (pageBase p + Reg.HDR_EVT_STAT) → (v = .u → p ≠ .sec) →
    Completes (.hostRegisterWrite (viewBar v) (pageBase p + Reg.HDR_EVT_STAT) (some w) 15 ph) s (fun c =>
      rd32 c (pageBase p + Reg.HDR_EVT_STAT) = rd32 s.chip (pageBase p + Reg.HDR_EVT_STAT)
          &&& ~~~(w &&& mrd32 (if ph = s.chip.phase then s.chip.before else s.chip.mem) (pageBase p + Reg.HDR_EVT_STAT))
        ∧ c.still = s.chip.still
        ∧ Untouched [(pageBase p + Reg.HDR_EVT_STAT, 4), secRegs, pbaRegs] s.chip c)

/-- The requests whose bits wait for the rim: a write adds its bits to those that stand; through the U-view a register that needs the P-view takes
none. Nothing else changes. RESETw: the P-view asks for every guard it names; the U-view only for those with OP_RESET = 1, the others being denied. -/
def Obligations.RequestsWaitForTheRim : Prop :=
  (∀ (s : State) (v : View) (bits : Word) (ph : Nat),
      (s.HostMay v .engine Reg.ENGINE_RETIRE_REQ → Completes (.retireReq v bits ph) s (Takes Reg.ENGINE_RETIRE_REQ (pOnly v 0xFFFFF &&& bits) s))
      ∧ (s.HostMay v .engine Reg.ENGINE_UNRETIRE → Completes (.engineUnretire v bits ph) s (Takes Reg.ENGINE_UNRETIRE (pOnly v 0xFFFFF &&& bits) s))
      ∧ (s.HostMay v .weave Reg.WEAVE_BANK_CTL → Completes (.swapReq v ph) s (Takes Reg.WEAVE_BANK_CTL 2 s))
      ∧ (∀ w : Fin 4, s.HostMay v .echo (Reg.ECHO_LEARN + 4 * w) → Completes (.learn v w bits ph) s (Takes (Reg.ECHO_LEARN + 4 * w) (pOnly v 0xFFFFFFFF &&& bits) s))
      ∧ (∀ w : Fin 4, s.HostMay v .echo (Reg.ECHO_FREEZE + 4 * w) → Completes (.freeze v w bits ph) s (Takes (Reg.ECHO_FREEZE + 4 * w) bits s))
      ∧ (∀ w : Fin 4, s.HostMay v .echo (Reg.ECHO_FADE + 4 * w) → Completes (.fade v w bits ph) s (Takes (Reg.ECHO_FADE + 4 * w) bits s))
      ∧ (∀ w : Fin 4, s.HostMay v .echo (Reg.ECHO_CLEAR + 4 * w) → Completes (.clear v w bits ph) s (Takes (Reg.ECHO_CLEAR + 4 * w) (pOnly v 0xFFFFFFFF &&& bits) s))
      ∧ (∀ w : Fin 4, s.HostMay v .echo (Reg.ECHO_UNRETIRE + 4 * w) → Completes (.echoUnretire v w bits ph) s (Takes (Reg.ECHO_UNRETIRE + 4 * w) (pOnly v 0xFFFFFFFF &&& bits) s))
      ∧ (∀ w : Fin 4, s.HostMay v .motion (Reg.MOTION_QSTOP + 4 * w) → Completes (.qstop v w bits ph) s (Takes (Reg.MOTION_QSTOP + 4 * w) bits s))
      ∧ (s.HostMay v .motion Reg.MOTION_HOME0 → Completes (.home v bits ph) s (Takes Reg.MOTION_HOME0 bits s))
      ∧ (s.HostMay v .lport Reg.LPORT_UNRETIRE → Completes (.lportUnretire v bits ph) s (Takes Reg.LPORT_UNRETIRE (pOnly v 0xFFFFFFFF &&& bits) s))
      ∧ (∀ w : Fin 2, s.HostMay v .input (Reg.INPUT_AI_UNRETIRE + 4 * w) → Completes (.aiUnretire v w bits ph) s (Takes (Reg.INPUT_AI_UNRETIRE + 4 * w) (pOnly v 0xFFFFFFFF &&& bits) s)))
  ∧ (∀ (s : State) (v : View) (w : Fin 8) (bits : Word) (ph : Nat), s.HostMay v .guard (Reg.GUARD_RESET + 4 * w) →
      Completes (.guardResetRequest v w bits ph) s (fun c =>
        rd32 c (Reg.GUARD_RESET + 4 * w) = rd32 s.chip (Reg.GUARD_RESET + 4 * w)
            ||| (bits &&& ~~~(if v = .p then 0 else resetDenied s.chip w bits))
          ∧ c.still = s.chip.still))

/-- The task commands, SET_POS_CMD and the other commands that wait for their page's COMMIT are staged, in the order written. UNRETIRE and CLR_OFFS of the
stepper drive are staged as values of their bits; a U-view write, or one of no bit, stages nothing. -/
def Obligations.CommandsAreStaged : Prop :=
  (∀ (s : State) (v : View) (ph : Nat),
      (∀ t : Fin 256, s.HostMay v .task Reg.TASK_CMD →
        Completes (.start v t ph) s (Stages .task [⟨Reg.TASK_CMD, Word.ofNat (t + 0x100), 0x7FF, true, decide (v = .p)⟩] s)
        ∧ Completes (.cancel v t ph) s (Stages .task [⟨Reg.TASK_CMD, Word.ofNat (t + 0x200), 0x7FF, true, decide (v = .p)⟩] s)
        ∧ Completes (.suspend v t ph) s (Stages .task [⟨Reg.TASK_CMD, Word.ofNat (t + 0x300), 0x7FF, true, decide (v = .p)⟩] s)
        ∧ Completes (.resume v t ph) s (Stages .task [⟨Reg.TASK_CMD, Word.ofNat (t + 0x400), 0x7FF, true, decide (v = .p)⟩] s))
      ∧ (∀ n : Fin 128, s.HostMay v .motion Reg.MOTION_SET_POS_CMD → Completes (.setPosCmd v n ph) s
          (Stages .motion (if v = .p then [⟨Reg.MOTION_SET_POS_CMD, Word.ofNat n, 0x7F, true, true⟩] else []) s))
      ∧ (s.HostMay v .time Reg.TIME_TIME_CMD →
        Completes (.restep v ph) s (Stages .time (if v = .p then [⟨Reg.TIME_TIME_CMD, 1, 7, true, true⟩] else []) s)
        ∧ Completes (.timeCmdSet v ph) s (Stages .time (if v = .p then [⟨Reg.TIME_TIME_CMD, 2, 7, true, true⟩] else []) s)
        ∧ Completes (.timeCmdCancel v ph) s (Stages .time (if v = .p then [⟨Reg.TIME_TIME_CMD, 4, 7, true, true⟩] else []) s))
      ∧ (s.HostMay v .twin Reg.TWIN_CMD →
        Completes (.swap v ph) s (Stages .twin (if v = .p then [⟨Reg.TWIN_CMD, 1, 0xF, true, true⟩] else []) s)
        ∧ Completes (.rejoin v ph) s (Stages .twin (if v = .p then [⟨Reg.TWIN_CMD, 2, 0xF, true, true⟩] else []) s)
        ∧ Completes (.retire v ph) s (Stages .twin (if v = .p then [⟨Reg.TWIN_CMD, 4, 0xF, true, true⟩] else []) s)
        ∧ Completes (.solo v ph) s (Stages .twin (if v = .p then [⟨Reg.TWIN_CMD, 8, 0xF, true, true⟩] else []) s)))
  ∧ (∀ (s : State) (v : View) (bits : Word) (ph : Nat),
      (s.HostMay v .stepdrv Reg.STEPDRV_UNRETIRE → Completes (.stepdrvUnretire v bits ph) s
        (Stages .stepdrv (if v = .p ∧ bits ≠ 0 then [⟨Reg.STEPDRV_UNRETIRE, bits, bits, false, true⟩] else []) s))
      ∧ (s.HostMay v .stepdrv Reg.STEPDRV_CLR_OFFS → Completes (.clrOffs v bits ph) s
        (Stages .stepdrv (if v = .p ∧ bits ≠ 0 then [⟨Reg.STEPDRV_CLR_OFFS, bits, bits, false, true⟩] else []) s)))

/-- Commands that share a register with staged fields write the register as it reads, and stage its fields and the command: LINK_START and STOP, PING,
MIG_CTL's HANDOVER and ABORT and CODE_CFG of the selected code, which the U-view does not stage, and CLR_STATE of a loop and of a section, which the U-view
is denied. -/
def Obligations.CommandsBesideFieldsAreStaged : Prop :=
  (∀ (s : State) (v : View) (ph : Nat),
      (∀ p : Fin 8, s.HostMay v .wlink (wb p) → locked s.chip .wlink = false →
        Completes (.linkStart v p ph) s (Stages .wlink (if v = .p then
          [⟨wb p, (rd32 s.chip (wb p) &&& ~~~6) ||| 2, 9, false, true⟩, ⟨wb p, 2, 6, true, true⟩] else []) s)
        ∧ Completes (.linkStop v p ph) s (Stages .wlink (if v = .p then
          [⟨wb p, (rd32 s.chip (wb p) &&& ~~~6) ||| 4, 9, false, true⟩, ⟨wb p, 4, 6, true, true⟩] else []) s))
      ∧ (s.HostMay v .capture Reg.CAPTURE_SYNC_CTL → locked s.chip .capture = false →
        Completes (.ping v ph) s (Stages .capture (if v = .p then
          [⟨Reg.CAPTURE_SYNC_CTL, (rd32 s.chip Reg.CAPTURE_SYNC_CTL &&& ~~~0x80) ||| 0x80, 0xFF7F, false, true⟩,
           ⟨Reg.CAPTURE_SYNC_CTL, 0x80, 0x80, true, true⟩] else []) s))
      ∧ (s.HostMay v .twin Reg.TWIN_MIG_CTL → locked s.chip .twin = false →
        Completes (.migHandover v ph) s (Stages .twin (if v = .p then
          [⟨Reg.TWIN_MIG_CTL, (rd32 s.chip Reg.TWIN_MIG_CTL &&& ~~~6) ||| 2, 0x0FFF0001, false, true⟩, ⟨Reg.TWIN_MIG_CTL, 2, 6, true, true⟩] else []) s)
        ∧ Completes (.migAbort v ph) s (Stages .twin (if v = .p then
          [⟨Reg.TWIN_MIG_CTL, (rd32 s.chip Reg.TWIN_MIG_CTL &&& ~~~6) ||| 4, 0x0FFF0001, false, true⟩, ⟨Reg.TWIN_MIG_CTL, 4, 6, true, true⟩] else []) s))
      ∧ (∀ val, s.HostMay v .health Reg.HEALTH_CODE_CFG → locked s.chip .health = false →
        Completes (.codeCfg v val ph) s (Stages .health (if v = .p then
          [⟨codeCfg (rdF s.chip Reg.HEALTH_CODE_SEL 11 0), val, 0x01FFFFFF, false, true⟩] else []) s)))
  ∧ (∀ (s : State) (ph : Nat),
      (∀ n : Fin 2048, s.HostMay .p .loopctl (loopRec n + 0xC0) → locked s.chip .loopctl = false →
        Completes (.loopClrState .p n ph) s (Stages .loopctl
          [⟨loopRec n + 0xC0, (rd32 s.chip (loopRec n + 0xC0) &&& ~~~0x40) ||| 0x40, 0x37, false, true⟩, ⟨loopRec n + 0xC0, 0x40, 0x40, true, true⟩] s))
      ∧ (∀ j : Fin 8192, s.HostMay .p .loopctl (sosRec j + 0x14) → locked s.chip .loopctl = false →
        Completes (.sosClrState .p j ph) s (Stages .loopctl
          [⟨sosRec j + 0x14, (rd32 s.chip (sosRec j + 0x14) &&& ~~~2) ||| 2, 1, false, true⟩, ⟨sosRec j + 0x14, 2, 2, true, true⟩] s))
      ∧ (∀ n : Fin 2048, s.HostMay .u .loopctl (loopRec n + 0xC0) →
        Completes (.loopClrState .u n ph) s (fun c => c.quiet = s.chip.quiet ∧ Reported Event.LOOPCTL_WRITE_DENIED s.chip c))
      ∧ (∀ j : Fin 8192, s.HostMay .u .loopctl (sosRec j + 0x14) →
        Completes (.sosClrState .u j ph) s (fun c => c.quiet = s.chip.quiet ∧ Reported Event.LOOPCTL_WRITE_DENIED s.chip c)))
/-- Commands that act at once on queues: FLAG_SET and FLAG_CLR (in the order written, for the rim), ARM, DISARM and SW_TRIG of capture sets. -/
def Obligations.FlagAndCaptureCommandsQueue : Prop :=
  ∀ (s : State) (v : View) (ph : Nat),
    (∀ (w : Fin 8) (bits : Word), s.HostMay v .task (Reg.TASK_FLAG_SET + 4 * w) → Completes (.flagSet v w bits ph) s (fun c =>
      c.still = { s.chip.still with flagWrites := s.chip.flagWrites ++ (onesBelow 32 bits.toNat).map (fun b => (32 * w.val + b, true)) }
        ∧ rd32 c (Reg.TASK_FLAG_SET + 4 * w) = rd32 s.chip (Reg.TASK_FLAG_SET + 4 * w) ||| bits))
    ∧ (∀ (w : Fin 8) (bits : Word), s.HostMay v .task (Reg.TASK_FLAG_CLR + 4 * w) → Completes (.flagClr v w bits ph) s (fun c =>
      c.still = { s.chip.still with flagWrites := s.chip.flagWrites ++ (onesBelow 32 bits.toNat).map (fun b => (32 * w.val + b, false)) }
        ∧ rd32 c (Reg.TASK_FLAG_CLR + 4 * w) = rd32 s.chip (Reg.TASK_FLAG_CLR + 4 * w) ||| bits))
    ∧ (∀ bits : BitVec 16, s.HostMay v .capture Reg.CAPTURE_ARM → Completes (.arm v bits ph) s (fun c =>
      c.still = { s.chip.still with capCmds := s.chip.capCmds ++ (onesBelow 16 bits.toNat).map (fun n => (n, true)) }))
    ∧ (∀ bits : BitVec 16, s.HostMay v .capture Reg.CAPTURE_DISARM → Completes (.disarm v bits ph) s (fun c =>
      c.still = { s.chip.still with capCmds := s.chip.capCmds ++ (onesBelow 16 bits.toNat).map (fun n => (n, false)) }))
    ∧ (∀ bits : BitVec 16, s.HostMay v .capture Reg.CAPTURE_SW_TRIG → Completes (.swTrig v bits ph) s (fun c =>
      c.still = { s.chip.still with causes := s.chip.causes ++ (onesBelow 16 bits.toNat).map (fun n => ⟨s.chip.beat, 18, ph, n, false⟩) }))

/-- A port's modem: TX_DATA takes a character while its FIFO of 64 has room, and else counts it as dropped; RX_FLUSH empties the receive FIFO at
once; TX_GO with its length and TX_ABORT are staged for the page's COMMIT. No other modem changes. -/
def Obligations.ModemCommands : Prop :=
  ∀ (s : State) (v : View) (n : Fin 32) (ph : Nat),
    (∀ char : Byte, s.HostMay v .lport (portBlock n + 0x10) → Completes (.txData v n char ph) s (fun c =>
      c.modem n = (if (s.chip.modem n).tx.length < 64 then { s.chip.modem n with tx := (s.chip.modem n).tx ++ [char.toNat] }
          else { s.chip.modem n with txDrop := satInc 8 (s.chip.modem n).txDrop })
        ∧ (∀ m : Nat, m ≠ n → c.modem m = s.chip.modem m) ∧ c.still = { s.chip.still with fsk := c.fsk }
        ∧ Untouched [secRegs, pbaRegs] s.chip c))
    ∧ (s.HostMay v .lport (portBlock n + 0x14) →
      Completes (.rxFlush v n ph) s (fun c =>
        c.modem n = { s.chip.modem n with rx := [] } ∧ (∀ m : Nat, m ≠ n → c.modem m = s.chip.modem m)
          ∧ c.still = { s.chip.still with fsk := c.fsk } ∧ rdF c (portBlock n + 0x18) 14 8 = 0
          ∧ Untouched [(portBlock n + 0x18, 4), secRegs, pbaRegs] s.chip c)
      ∧ (∀ len : Fin 512, Completes (.txGo v n len ph) s
        (Stages .lport [⟨portBlock n + 0x14, Word.ofNat (1 + 0x10000 * len), 0x01FF0003, true, decide (v = .p)⟩] s))
      ∧ Completes (.txAbort v n ph) s (Stages .lport [⟨portBlock n + 0x14, 2, 0x01FF0003, true, decide (v = .p)⟩] s))

/-- CHECK_CMD starts the check of a bank on the registers as they stand, and a check of the other bank that it stops leaves that bank unchecked;
FIRST_CLR clears the first-out registers of the guards. -/
def Obligations.ChecksStartAndFirstOutClears : Prop :=
  ∀ (s : State) (v : View) (ph : Nat),
    (∀ b : Fin 2, s.HostMay v .weave Reg.WEAVE_CHECK_CMD → Completes (.checkCmd v b ph) s (fun c =>
      (∃ k, c.check = some k ∧ k.bank = b ∧ k.mem = s.chip.mem) ∧ bankStateOf c b = .running
        ∧ (∀ k, s.chip.check = some k → k.bank = 1 - b.val → bankStateOf c (1 - b.val) = .unchecked)
        ∧ ((∀ k, s.chip.check = some k → k.bank = b) → bankStateOf c (1 - b.val) = bankStateOf s.chip (1 - b.val))
        ∧ c.still = { s.chip.still with check := c.check, bank0 := c.bank0, bank1 := c.bank1 }
        ∧ c.bankActive = s.chip.bankActive))
    ∧ (s.HostMay v .guard Reg.GUARD_FIRST_CLR → Completes (.firstClr v ph) s (fun c =>
      rd32 c Reg.GUARD_FIRST_TRIP = 0 ∧ rd32 c Reg.GUARD_FIRST_TICK = 0 ∧ c.still = s.chip.still
        ∧ Untouched [(Reg.GUARD_FIRST_TRIP, 4), (Reg.GUARD_FIRST_TICK, 4), secRegs, pbaRegs] s.chip c))

/-- DEV_CMD: RUN and SAFE wait for the rim; RESTART, through the P-view, asks for a restart once a flush of the health records has ended. The
U-view's RESTART does nothing. -/
def Obligations.DeviceCommands : Prop :=
  ∀ (s : State) (v : View) (ph : Nat), s.HostMay v .sys Reg.SYS_DEV_CMD →
    Completes (.run v ph) s (fun c => c.still = { s.chip.still with devReq := some true, devAuto := false })
    ∧ Completes (.safe v ph) s (fun c => c.still = { s.chip.still with devReq := some false, devAuto := false })
    ∧ (v = .u → Completes (.restart v ph) s (fun c => c.still = s.chip.still))
    ∧ (v = .p → s.chip.pf = false → s.chip.restartReq = .none → Completes (.restart v ph) s (fun c =>
        c.restartReq = .flush ∧ c.health.flushing = true ∧ c.dev = s.chip.dev ∧ c.restart = s.chip.restart
          ∧ (hasShadow s.chip = false → c.twin = s.chip.twin)))
    ∧ (v = .p → (s.chip.pf = true ∨ s.chip.restartReq ≠ .none) → Completes (.restart v ph) s (fun c => c.still = s.chip.still))

/-- WD_KICK starts the host watchdog's time again; FLUSH_CMD starts a flush, or asks for one more behind the one that runs; RD_INDEX shows a record of
the health area, zeros where none is stored there. -/
def Obligations.WatchdogAndRecorderCommands : Prop :=
  ∀ (s : State) (v : View) (ph : Nat),
    (s.HostMay v .host Reg.HOST_WD_KICK → Completes (.wdKick v ph) s (fun c =>
      c.lnk.kicked = nowAt (atPhase ph s.chip) ∧ c.lnk.wr = s.chip.lnk.wr ∧ c.toRetained = s.chip.toRetained))
    ∧ (s.HostMay v .health Reg.HEALTH_FLUSH_CMD → Completes (.flush v ph) s (fun c =>
      c.health.flushing = true ∧ c.health.recs = s.chip.health.recs ∧ c.health.area = s.chip.health.area
        ∧ c.health.again = (if s.chip.health.flushing then max s.chip.health.again 1 else s.chip.health.again)
        ∧ c.health.lastFault = s.chip.health.lastFault ∧ c.dev = s.chip.dev ∧ c.toRetained = s.chip.toRetained))
    ∧ (∀ i : BitVec 18, s.HostMay v .health Reg.HEALTH_RD_INDEX → Completes (.rdIndex v i ph) s (fun c =>
      rdF c Reg.HEALTH_RD_INDEX 17 0 = i.toNat ∧ c.still = s.chip.still
        ∧ (∀ k, k < 16 → rd32 c (Reg.HEALTH_RD_REC + 4 * k) =
            (((tabFind s.chip.health.area i.toNat).map recWords).getD []).getD k 0)
        ∧ Untouched [(Reg.HEALTH_RD_INDEX, 4), (Reg.HEALTH_RD_REC, 64), secRegs, pbaRegs] s.chip c))

/-- HTX_CTL asks to send the first bytes of the transmit buffer, on one port or with a redundancy trailer on every port that is up, where the length is
60 to 1518, the station address is set and a link it needs is up, and else does nothing: the frame leaves each port it is for, or waits there; where no
frame waits and the line is free for it, it leaves at once, and HTX_TS takes its instant. HRX_POP drops the oldest received frame. -/
def Obligations.HostFrameCommands : Prop :=
  ∀ (s : State) (v : View) (ph : Nat),
    (∀ w : Word, s.HostMay v .net Reg.NET_HTX_CTL →
      let n := fld w 10 0
      let dup := wbit w 12
      let ps := if dup then portsUp s.chip else [fld w 13 13]
      let line := if dup then 30 + n else 24 + n
      let r := if dup && rdB s.chip Reg.NET_NET_CFG 2 then some s.chip.net.rct else none
      let bytes := (List.range n).map (fun i => rd8 s.chip (Reg.NET_HTX_BUF + i))
      let up := if dup then netUp s.chip else rdB s.chip Reg.NET_LINK_STAT (fld w 13 13)
      (60 ≤ n → n ≤ 1518 → macSet s.chip = true → up = true →
        Completes (.htxGo v w ph) s (fun c =>
          (∀ p ∈ ps, (∃ t, .hostFrame p t r bytes ∈ c.emitted) ∨ ⟨2, line, ph, .host dup r bytes⟩ ∈ (c.tx p).wait)
            ∧ ((∀ p, p < 2 → (s.chip.tx p).wait = []) →
              (∀ p ∈ ps, (s.chip.tx p).free ≤ ph → txStart s.chip ph line = ph → .hostFrame p ph r bytes ∈ c.emitted ∧ (c.tx p).wait = []
                ∧ (c.tx p).free = ph + 2 * line)
                ∧ (ps.length = 1 → ∀ p ∈ ps, (s.chip.tx p).free ≤ ph → txStart s.chip ph line = ph →
                  rd32 c Reg.NET_HTX_TS = Word.ofNat (ts32 (atPhase ph s.chip))))
            ∧ c.net.hrx = s.chip.net.hrx ∧ c.dev = s.chip.dev))
      ∧ ((n < 60 ∨ 1518 < n ∨ macSet s.chip = false ∨ up = false) →
        Completes (.htxGo v w ph) s (fun c => c.still = s.chip.still ∧ Untouched [secRegs, pbaRegs] s.chip c)))
    ∧ (s.HostMay v .net Reg.NET_HRX_POP → Completes (.hrxPop v ph) s (fun c =>
      c.net.hrx = s.chip.net.hrx.drop 1 ∧ c.still = { s.chip.still with net := c.net }))

/-- CHAL_CMD: NEW draws 32 bytes from the entropy source, to be answered within 60 s; CLOSE ends the session. QUOTE_CMD takes the nonce in a part that
is neither blank nor scrapped. None of them needs a session. -/
def Obligations.ChallengeAndQuoteCommands : Prop :=
  ∀ (s : State) (ph : Nat),
    (s.HostMay .p .sec Reg.SEC_CHAL_CMD →
      Completes (.chalCmdNew .p ph) s (fun c =>
        c.draws = s.chip.draws + 1 ∧ c.sec.session = s.chip.sec.session
          ∧ c.sec.challenge = some ⟨(List.range 32).map (Config.entropy s.chip.draws), nowAt (atPhase ph s.chip) + 15000000000⟩)
      ∧ Completes (.chalCmdClose .p ph) s (fun c =>
        c.sec = { s.chip.sec with session := none } ∧ (s.chip.sec.session.isSome = true → Reported Event.SEC_SESSION_END s.chip c)))
    ∧ (s.Live → lcState s.nv.fuses ≠ 0 → lcState s.nv.fuses ≠ 4 → Completes (.quoteGo .p ph) s (fun c =>
        c.sec = { s.chip.sec with quoteDue := some ((List.range 32).map (fun i => rd8 s.chip (Reg.SEC_QUOTE_NONCE + i))) }))
    ∧ (s.Live → lcState s.nv.fuses = 0 ∨ lcState s.nv.fuses = 4 → Completes (.quoteGo .p ph) s (fun c => c.quiet = s.chip.quiet))
    ∧ (s.Live → ∀ i ∈ [Instr.chalCmdNew .u ph, .chalCmdClose .u ph, .quoteGo .u ph],
        Completes i s (fun c => c.quiet = s.chip.quiet ∧ rd32 c Reg.SYS_BAD_INFO = 8 ∧ Reported Event.SYS_BAD_ACCESS s.chip c))

/-! ### COMMIT, DISCARD, EVT_FORCE and LOCK -/

/-- COMMIT of values that no rule refuses: up to 192 entries are queued for the rim while the queue holds no more than 2,048, more entries are
TOO_LARGE and dropped, and a full queue leaves them pending. -/
def Obligations.CommitQueuesOrReports : Prop :=
  ∀ (s : State) (p : Page) (v : View) (ph : Nat), s.HostMay v p (pageBase p + Reg.HDR_COMMIT) → (v = .u → p ≠ .sec) →
    let c₀ := atPhase ph (opened s.chip)
    let items := pendOf s.chip p
    let m₀ := s.chip.mqueue.foldl (fun m k => applyItems k.items m) s.chip.mem
    let m := applyItems items m₀
    let total := (s.chip.mqueue.map (·.entries)).sum + entryCount items
    pageJudge c₀ m p (valueAddrs items) = none → (pageNamed p = true → structJudge c₀ m₀ items = none) →
      Completes (.commit p v ph) s (fun c =>
        (entryCount items ≤ 192 → total ≤ 2048 →
          c.mqueue = s.chip.mqueue ++ [⟨p, items, entryCount items, false, .host, 0⟩] ∧ pendOf c p = []
            ∧ rdF c (pageBase p + Reg.HDR_COMMIT_STAT) 2 0 = 1)
        ∧ (192 < entryCount items → c.mqueue = s.chip.mqueue ∧ pendOf c p = [] ∧ rdF c (pageBase p + Reg.HDR_COMMIT_STAT) 2 0 = 3)
        ∧ (entryCount items ≤ 192 → 2048 < total →
          c.mqueue = s.chip.mqueue ∧ pendOf c p = items ∧ rdF c (pageBase p + Reg.HDR_COMMIT_STAT) 2 0 = 4)
        ∧ c.toRetained = s.chip.toRetained ∧ (∀ q, q ≠ p → pendOf c q = pendOf s.chip q)
        ∧ Untouched [(pageBase p + Reg.HDR_COMMIT_STAT, 4), secRegs, pbaRegs] s.chip c)

/-- DISCARD drops a page's pending values; EVT_FORCE through the P-view raises the page's enabled events that it names; LOCK through the P-view
locks the page and enables its fault events. The U-view's EVT_FORCE and LOCK do nothing. -/
def Obligations.PageHeaderCommands : Prop :=
  ∀ (s : State) (p : Page) (ph : Nat),
    (∀ v, s.HostMay v p (pageBase p + Reg.HDR_COMMIT) → (v = .u → p ≠ .sec) → Completes (.discard p v ph) s (fun c =>
      pendOf c p = [] ∧ (∀ q, q ≠ p → pendOf c q = pendOf s.chip q) ∧ c.still = { s.chip.still with pend := c.pend }
        ∧ rdF c (pageBase p + Reg.HDR_COMMIT_STAT) 2 0 = 0 ∧ rdF c (pageBase p + Reg.HDR_COMMIT_STAT) 23 12 = 0
        ∧ Untouched [(pageBase p + Reg.HDR_COMMIT_STAT, 4), secRegs, pbaRegs] s.chip c))
    ∧ (∀ bits, s.HostMay .p p (pageBase p + Reg.HDR_EVT_FORCE) → Completes (.evtForce p .p bits ph) s (fun c =>
      (∀ d ∈ Event.ofPage p, wbit bits d.bit = true → Reported d s.chip c) ∧ c.still = s.chip.still
        ∧ Untouched (evRegs p ++ [secRegs, pbaRegs]) s.chip c))
    ∧ (∀ bits, s.HostMay .u p (pageBase p + Reg.HDR_EVT_FORCE) → p ≠ .sec → Completes (.evtForce p .u bits ph) s (fun c =>
      c.still = s.chip.still ∧ Untouched [secRegs, pbaRegs] s.chip c))
    ∧ (s.HostMay .p p (pageBase p + Reg.HDR_LOCK) → Completes (.lock p .p ph) s (fun c =>
      locked c p = true ∧ rd32 c (pageBase p + Reg.HDR_EVT_EN) = rd32 s.chip (pageBase p + Reg.HDR_EVT_EN) ||| faultBits p
        ∧ c.still = s.chip.still ∧ Untouched [(pageBase p + Reg.HDR_EVT_EN, 4), (pageBase p + Reg.HDR_LOCK, 4), secRegs, pbaRegs] s.chip c))
    ∧ (s.HostMay .u p (pageBase p + Reg.HDR_LOCK) → p ≠ .sec → Completes (.lock p .u ph) s (fun c =>
      c.still = s.chip.still ∧ Untouched [secRegs, pbaRegs] s.chip c))


/-! ### Reads and the host link -/

/-- Reads of running counts latch their high words; RX_DATA takes the oldest received character, and reads zero when there is none. HOST_REGISTER_WRITE's
read: a count that clears on read answers as its cycle found it, and keeps only what the cycle itself has added. -/
def Obligations.ReadsLatchAndTake : Prop :=
  ∀ (s : State) (v : View) (ph : Nat),
    (readsZero s.chip (viewBar v) Reg.TICK_TICK_COUNT_LO = false → Completes (.tickCountLo v ph) s (fun c =>
      c.emitted = [.readData (Word.ofNat (s.chip.tick % 2 ^ 32))] ∧ rd32 c Reg.TICK_TICK_COUNT_HI = Word.ofNat (s.chip.tick / 2 ^ 32 % 2 ^ 16)
        ∧ c.quiet = s.chip.quiet ∧ Untouched [(Reg.TICK_TICK_COUNT_HI, 4), secRegs] s.chip c))
    ∧ (readsZero s.chip (viewBar v) Reg.TIME_NS_NOW = false → Completes (.nsNow v ph) s (fun c =>
      c.emitted = [.readData (Word.ofNat (ptpNs (atPhase ph s.chip) % 1000000000))]
        ∧ rd32 c Reg.TIME_SEC_LO = Word.ofNat (ptpSec (atPhase ph s.chip) % 2 ^ 32)
        ∧ rd32 c Reg.TIME_SEC_HI = Word.ofNat (ptpSec (atPhase ph s.chip) / 2 ^ 32 % 2 ^ 16) ∧ c.quiet = s.chip.quiet
        ∧ Untouched [(Reg.TIME_SEC_LO, 4), (Reg.TIME_SEC_HI, 4), secRegs] s.chip c))
    ∧ (readsZero s.chip (viewBar v) Reg.HEALTH_OP_SEC_LO = false → Completes (.opSecLo v ph) s (fun c =>
      c.emitted = [.readData (Word.ofNat (s.chip.opSec % 2 ^ 32))] ∧ rdF c Reg.HEALTH_OP_SEC_HI 7 0 = s.chip.opSec / 2 ^ 32 % 2 ^ 8
        ∧ c.quiet = s.chip.quiet ∧ Untouched [(Reg.HEALTH_OP_SEC_HI, 4), secRegs] s.chip c))
    ∧ (∀ ch : Fin 8, readsZero s.chip (viewBar v) (dmaBlock ch + 0x10) = false → Completes (.wrCount v ch ph) s (fun c =>
      c.emitted = [.readData (Word.ofNat (dmaWr s.chip ch % 2 ^ 32))] ∧ rd32 c (dmaBlock ch + 0x14) = Word.ofNat (dmaWr s.chip ch / 2 ^ 32)
        ∧ c.quiet = s.chip.quiet ∧ Untouched [(dmaBlock ch + 0x14, 4), secRegs] s.chip c))
    ∧ (∀ n : Fin 32, readsZero s.chip (viewBar v) (portBlock n + 0x1C) = false → Completes (.rxData v n ph) s (fun c =>
      c.emitted = [.readData ((s.chip.modem n).rx.headD 0)] ∧ (c.modem n).rx = (s.chip.modem n).rx.drop 1
        ∧ (∀ m : Nat, m ≠ n → c.modem m = s.chip.modem m) ∧ c.quiet = { s.chip.quiet with fsk := c.fsk }))
    ∧ (∀ a ∈ [Reg.ENGINE_SAT_COUNT, Reg.LOOPCTL_SP_CLAMP_COUNT, Reg.LOOPCTL_LIMIT_COUNT, Reg.GUARD_TRIP_COUNT, Reg.INPUT_EDGE_LOST_COUNT,
          Reg.CAPTURE_TB_COLL_COUNT, Reg.TIME_REFUSED_COUNT, Reg.TWIN_WIT_LOST_COUNT, Reg.HOST_CE_COUNT, Reg.HOST_UE_COUNT],
        ∀ be, readsZero s.chip (viewBar v) a = false → Completes (.hostRegisterWrite (viewBar v) a none be ph) s (fun c =>
          let was := mrd32 (if ph = s.chip.phase then s.chip.before else s.chip.mem) a
          c.emitted = [.readData was] ∧ rd32 c a = Word.ofNat ((rd32 s.chip a).toNat - was.toNat) ∧ c.quiet = s.chip.quiet ∧ Untouched [(a, 4), secRegs] s.chip c))


/-- RD_COUNT of a DMA channel takes a count between what has been read and what has been written; any other is discarded with DMA_ERR. An enabled channel
with a set that has items and with free space in its ring writes as many items as fit, moves WR_COUNT by their bytes and counts them at the set; with
nothing to send, no space or the bus master off it sends nothing. -/
def Obligations.DmaFillsTheRing : Prop :=
  (∀ (s : State) (v : View) (ch : Fin 8) (n : BitVec 64) (ph : Nat), s.HostMay v .host (dmaBlock ch + 0x18) →
      Completes (.rdCount v ch n ph) s (fun c => dmaWr c ch = dmaWr s.chip ch
        ∧ (dmaRd s.chip ch ≤ n.toNat → n.toNat ≤ dmaWr s.chip ch → dmaRd c ch = n.toNat)
        ∧ ((n.toNat < dmaRd s.chip ch ∨ dmaWr s.chip ch < n.toNat) → dmaRd c ch = dmaRd s.chip ch ∧ Reported Event.HOST_DMA_ERR s.chip c)))
  ∧ (∀ (s : State) (ch : Fin 8) (n set : Nat), s.Live → dmaSet s.chip ch = some set →
      let x := s.chip.cap set
      let k := 8 * min n (min ((x.total - x.sent) / 8) (dmaFree s.chip ch / 8))
      (rdB s.chip (dmaBlock ch) 0 = true → s.chip.lnk.bme = true → k ≠ 0 → Completes (.dmaTransfer ch n) s (fun c =>
        dmaWr c ch = dmaWr s.chip ch + k ∧ (c.cap set).sent = x.sent + k
          ∧ .dma ch (rdN s.chip (dmaBlock ch + 8) + 0x100000000 * rdN s.chip (dmaBlock ch + 0xC) + dmaWr s.chip ch % dmaSize s.chip ch)
              (unsentBytes s.chip set k) ∈ c.emitted
          ∧ (∀ i : Nat, i ≠ ch → dmaWr c i = dmaWr s.chip i) ∧ (∀ i : Nat, i ≠ set → c.cap i = s.chip.cap i) ∧ c.recMem = s.chip.recMem))
      ∧ ((rdB s.chip (dmaBlock ch) 0 = false ∨ s.chip.lnk.bme = false ∨ k = 0) → Completes (.dmaTransfer ch n) s (fun c =>
        c.quiet = s.chip.quiet ∧ c.emitted = [])))

/-- Interrupts: a vector whose summary has risen and that has sent nothing sends its message when it is open, and else sets its PBA bit; a message
whose hold-off has passed is sent again; clearing a vector's Mask bit, or opening the function, sends what its PBA bit holds. -/
def Obligations.InterruptMessages : Prop :=
  ∀ (s : State) (v : Fin 64) (ph : Nat),
    (vectorSummary s.chip v = true → tabFind s.chip.lnk.sent v = none →
      Completes (.msixMessage v ph) s (fun c =>
        (vectorOpen s.chip v = true → c.emitted = [.msix v] ∧ rdB c (pbaWord v) (v % 32) = false)
          ∧ (vectorOpen s.chip v = false → c.emitted = [] ∧ rdB c (pbaWord v) (v % 32) = true) ∧ c.still = s.chip.still))
    ∧ (∀ t, tabFind s.chip.lnk.sent v = some t → vectorSummary s.chip v = true → 0 < rdF s.chip Reg.HOST_IRQ_HOLDOFF 15 0 →
        t + 250 * rdF s.chip Reg.HOST_IRQ_HOLDOFF 15 0 ≤ nowAt (atPhase ph s.chip) →
      Completes (.irqHoldoff v ph) s (fun c =>
        (vectorOpen s.chip v = true → c.emitted = [.msix v] ∧ rdB c (pbaWord v) (v % 32) = false)
          ∧ (vectorOpen s.chip v = false → c.emitted = [] ∧ rdB c (pbaWord v) (v % 32) = true) ∧ c.still = s.chip.still))
    ∧ (s.chip.lnk.msixEn = true → s.chip.lnk.funcMask = false → s.chip.lnk.bme = true → rdB s.chip (pbaWord v) (v % 32) = true →
      Completes (.msixUnmask (some v) none ph) s (fun c =>
        .msix v ∈ c.emitted ∧ rdB c (pbaWord v) (v % 32) = false ∧ c.still = s.chip.still))
    ∧ (∀ g : HostCfg, g.msix = true → g.funcMask = false → g.bme = true → rdB s.chip (pbaWord v) (v % 32) = true →
        rdB s.chip (0x1440C + 16 * v) 0 = false →
      Completes (.msixUnmask none (some g) ph) s (fun c =>
        .msix v ∈ c.emitted ∧ rdB c (pbaWord v) (v % 32) = false ∧ c.lnk.msixEn = true ∧ c.lnk.bme = true ∧ c.lnk.wr = s.chip.lnk.wr))

/-- The host link: a reset ends the session, drops every page's pending values and puts the DMA rings out of use, but leaves accepted COMMITs; training
shows generation and width and reports a degraded link; the watchdog reports a host that is silent in RUN, and asks for SAFE_IDLE where it is set to. -/
def Obligations.HostLinkEvents : Prop :=
  ∀ (s : State) (ph : Nat),
    Completes (.hostReset ph) s (fun c =>
      c.sec.session = none ∧ (∀ p, pendOf c p = []) ∧ c.lnk = { kicked := s.chip.lnk.kicked } ∧ c.mqueue = s.chip.mqueue ∧ c.dev = s.chip.dev
        ∧ c.toRetained = s.chip.toRetained ∧ (∀ ch, ch < 8 → rd32 c (dmaBlock ch) = mrd32 [] (dmaBlock ch))
        ∧ locked c .host = locked s.chip .host)
    ∧ (∀ (gen : Fin 4) (lanes : Fin 3), Completes (.linkTraining gen lanes ph) s (fun c =>
      rd32 c Reg.HOST_LINK_STAT = Word.ofNat (gen.val + 1 + 0x10 * 2 ^ lanes.val + 0x100 * (decide (gen.val < 3 ∨ lanes.val < 2)).toNat)
        ∧ ((gen.val < 3 ∨ lanes.val < 2) → Reported Event.HOST_PCIE_DEGRADED s.chip c) ∧ c.quiet = s.chip.quiet
        ∧ Untouched ((Reg.HOST_LINK_STAT, 4) :: evRegs .host) s.chip c))
    ∧ (s.chip.dev = .run → rdF s.chip Reg.HOST_WD_CFG 15 0 ≠ 0 →
        s.chip.lnk.kicked + 250000 * rdF s.chip Reg.HOST_WD_CFG 15 0 ≤ nowAt (atPhase ph s.chip) →
      Completes (.hostLost ph) s (fun c =>
        c.lnk = { s.chip.lnk with kicked := nowAt (atPhase ph s.chip) } ∧ Reported Event.HOST_HOST_LOST s.chip c
          ∧ c.safeCause = (if rdB s.chip Reg.HOST_WD_CFG 16 = true ∧ ownsOutputs s.chip = true then some Event.HOST_HOST_LOST.code
              else s.chip.safeCause)
          ∧ c.dev = .run))

/-! ### Power, restart and clocks -/

/-- Power-on leaves the part in SAFE_IDLE at tick 0 with nothing under way, and keeps what outlasts it; a restart asserts from RUN or SAFE_IDLE and
remembers from which, moves no output of a unit without a partner in SHADOW, expires once, and ends in SAFE_IDLE or in the state before it. -/
def Obligations.PowerOnAndRestart : Prop :=
  ∀ s : State,
    (∀ bist strap, Completes (.powerOnReset bist strap) s (fun c =>
      c.dev = .safeIdle ∧ c.tick = 0 ∧ c.restart = none ∧ c.restartReq = .none ∧ c.sec.session = none ∧ c.mqueue = [] ∧ c.cqueue = []
        ∧ c.pfCount = s.chip.pfCount ∧ c.draws = s.chip.draws))
    ∧ ((s.chip.autoRun = true ∧ s.chip.autoCfg = true ∧ s.chip.sec.noAuto = false ∧ s.chip.outReset = false
          ∧ ownsOutputs s.chip = true ∧ s.Live ∧ ∀ p, p < 8 → wlState s.chip p ≠ 1) →
        Completes .autoRun s (fun c => c = { s.chip with emitted := [], devReq := some true, devAuto := true, autoRun := false }))
    ∧ (s.Live → ∀ (i : Instr) (cause : RestartCause),
        (i, cause) ∈ [(Instr.heldOutputRestart .lreset, RestartCause.lresetPin), (.heldOutputRestart .core, .coreSupply),
          (.heldOutputRestart .sram, .sramSupply), (.logicWatchdog, .watchdog)] →
        Completes i s (fun c =>
          c.dev = .heldRestart ∧ c.devBefore = s.chip.dev ∧ c.restart = some { cause := cause, flushed := false, arrays := decide (cause = .sramSupply) }
            ∧ c.restartReq = .none ∧ c.tick = s.chip.tick
            ∧ (hasShadow s.chip = false → c.mem = s.chip.mem ∧ c.ports = s.chip.ports ∧ c.axes = s.chip.axes ∧ c.outEn = s.chip.outEn)
            ∧ (hasShadow s.chip = true → c.outEn = false)))
    ∧ (∀ r, s.chip.restart = some r → r.expired = false → r.stopped = false → Completes .fieldDieHoldExpiry s (fun c =>
        c.restart = some { r with expired := true } ∧ c.dev = s.chip.dev
          ∧ ∀ n ∈ tabKeys s.chip.axes, (c.ax n).amp = drvIRun s.chip.drvMem n * drvIHold s.chip.drvMem n / 256))
    ∧ (∀ r sealA sealB elapsed, s.chip.restart = some r → r.stopped = false →
        ∃ t, exec (.restartComplete sealA sealB elapsed) s = .next t ∧ t.pending = s.pending ∧ t.chip.restart = none
          ∧ (tickN t.chip = s.chip.perN → t.chip.tick = tickAdd s.chip.tick elapsed) ∧ t.chip.perN = tickN t.chip ∧ t.chip.sec.session = none
          ∧ (t.chip.dev = .safeIdle ∨ t.chip.dev = s.chip.devBefore)
          ∧ ((r.expired = true ∨ r.arrays = true ∨ s.chip.retValid = false ∨ (sealA = false ∧ sealB = false)) → t.chip.dev = .safeIdle))

/-- Power failure counts, stops a restart under way and starts a flush; its end frees the ports. A domain that loses lock shows it in CLK_STAT, and
one that the logic die or its tick needs asserts a restart. A die that reaches 110 °C reports it once, until it is below 100 °C. -/
def Obligations.SupplyClocksAndTemperature : Prop :=
  ∀ (s : State) (ph : Nat),
    (∀ mv shared, s.chip.pf = false → mv < 16000 → Completes (.powerFail mv shared ph) s (fun c =>
      c.pf = true ∧ c.pfCount = satInc 32 s.chip.pfCount ∧ c.dev = s.chip.dev ∧ c.autoRun = false
        ∧ (∀ r, s.chip.restart = some r → c.restart = some { r with stopped := true })
        ∧ (s.chip.restart = none → c.health.flushing = true ∧ c.restartReq = .none)
        ∧ (s.chip.restart = none → hasShadow s.chip = false → s.chip.twin.handDue = none → c.safeCause = some Event.CLKPWR_POWER_FAIL.code)))
    ∧ (∀ mv, s.chip.pf = true → 18000 ≤ mv → Completes (.powerFailClear mv ph) s (fun c =>
      c.pf = false ∧ c.pfCount = s.chip.pfCount ∧ c.dev = s.chip.dev ∧ (∀ n, n < 32 → (c.port n).pfOff = false)
        ∧ (s.Live → Reported Event.CLKPWR_POWER_FAIL s.chip c)))
    ∧ (∀ d : Fin 8, rdB s.chip Reg.CLKPWR_CLK_STAT d = true → (d.val ≠ 4 ∨ roleCode s.chip ≠ 2) → Completes (.pllUnlock d ph) s (fun c =>
      rdB c Reg.CLKPWR_CLK_STAT d = false
        ∧ (d.val ∉ [3, 4, 5, 6] → s.Live → c.dev = .heldRestart ∧ c.devBefore = s.chip.dev ∧ c.restart.map (·.cause) = some .lossOfLock)
        ∧ (d.val ∈ [3, 4, 5, 6] → c.dev = s.chip.dev)
        ∧ (d.val = 3 → s.Live → rdB c Reg.NET_LINK_STAT 0 = false ∧ rdB c Reg.NET_LINK_STAT 1 = false)))
    ∧ (∀ d : Fin 8, rdB s.chip Reg.CLKPWR_CLK_STAT d = false → Completes (.pllRelock d ph) s (fun c =>
      rdB c Reg.CLKPWR_CLK_STAT d = true ∧ c.dev = s.chip.dev))
    ∧ (∀ field celsius, Completes (.tempWarn field celsius ph) s (fun c =>
      let hot (c : Chip) : Bool := if field then c.hotField else c.hotLogic
      (110 ≤ celsius → hot c = true ∧ (hot s.chip = false → s.Live → Reported Event.CLKPWR_TEMP_WARN s.chip c))
        ∧ (celsius < 100 → hot c = false) ∧ (100 ≤ celsius → celsius < 110 → hot c = hot s.chip)
        ∧ (if field then rdF c Reg.CLKPWR_TEMP 15 8 else rdF c Reg.CLKPWR_TEMP 7 0) = min 255 (celsius + 40)
        ∧ c.dev = s.chip.dev ∧ c.ports = s.chip.ports))

/-! ### The tick and the tasks -/

/-- TICK_START completes wherever the logic die runs: it writes the tick count to the board, takes the new RATE, predicts the tick's length, and shows the
dies' skew, of which more than 20 ns unlocks CK_AFE. P_IN completes in every state: it latches the input pages, the means of the analogue inputs that
have samples and the senses; while a restart holds the logic die it changes nothing but the ports. -/
def Obligations.TickStartsAndInputsLatch : Prop :=
  ∀ s : State,
    (∀ skew glint, s.Live → Completes (.tickStart skew glint) s (fun c =>
      c.tick = s.chip.tick ∧ (tabFind c.work Sig.tickLo).map (·.val) = some (Word.ofNat s.chip.tick)
        ∧ (tabFind c.work Sig.tickHi).map (·.val) = some (Word.ofNat (s.chip.tick / 2 ^ 32))
        ∧ rd32 c Reg.TIME_RATE = Word.ofInt c.time.rateNext ∧ c.phase = 0
        ∧ rdF c Reg.CLKPWR_SKEW 15 0 = unsx 16 skew ∧ min 0xFFFF skew.natAbs ≤ c.skewPeak
        ∧ (8 < skew.natAbs → Reported Event.CLKPWR_DIE_SKEW s.chip c)
        ∧ (80 < skew.natAbs → rdB s.chip Reg.CLKPWR_CLK_STAT 7 = true → c.dev = .heldRestart)
        ∧ (skew.natAbs ≤ 80 → c.dev = s.chip.dev ∧ c.tickLen = predictLen c)))
    ∧ (∀ xs vloop sense, s.Live → Completes (.pIn xs vloop sense) s (fun c =>
      rdF c Reg.CLKPWR_VHOLD 15 0 = min 0xFFFF sense.vhold ∧ rdF c Reg.CLKPWR_POWER 15 0 = min 0xFFFF sense.power
        ∧ rdF c Reg.CLKPWR_TEMP 7 0 = min 255 sense.logic ∧ rdF c Reg.CLKPWR_TEMP 15 8 = min 255 sense.field
        ∧ rdF c Reg.LPORT_VLOOP 15 0 = min 0xFFFF vloop ∧ c.phase = 0
        ∧ c.inMem = inputPage s.chip.mem ∧ c.dev = s.chip.dev ∧ c.tick = s.chip.tick
        ∧ (∀ i, i < 64 → (s.chip.ai i).cnt ≠ 0 →
            (boardNow c (Sig.ai i)).val = Word.ofInt (roundDiv ((s.chip.ai i).sum * 2048) (s.chip.ai i).cnt) ∧ (c.ai i).cnt = 0)
        ∧ (∀ n, n < 144 → (c.pin n).count = (s.chip.pin n).edges % 0x10000 ∧ (c.pin n).edges = 0
            ∧ (boardNow c (pinSig n)).val = if (c.pin n).deb then 0x10000000 else 0)))
    ∧ (∀ xs vloop sense, s.chip.dev = .heldRestart → Completes (.pIn xs vloop sense) s (fun c =>
      c.quiet = { s.chip.quiet with ports := c.ports } ∧ c.mem = s.chip.mem ∧ c.emitted = []))

/-- WAKE_PASS makes ready the tasks whose delay has run out, at their next step, those whose condition holds, at the one after it, and those whose step no
guard blocks any more; a flag that a wait consumes is clear; a unit in SHADOW_BLIND keeps its contexts. DELAY_EXPIRY and WAIT_TIMEOUT do the same for
their task alone where its delay or its time has run out, and nothing else otherwise. -/
def Obligations.WaitingTasksResume : Prop :=
  ∀ (s : State) (t : Fin 256), s.Live → t.val ≠ 0 →
    let k := s.chip.task t
    (roleCode s.chip = 4 → Completes .wakePass s (fun c => c.quiet = s.chip.quiet ∧ c.mem = s.chip.mem))
    ∧ (roleCode s.chip ≠ 4 → Completes .wakePass s (fun c => c.phase = 0 ∧ c.dev = s.chip.dev ∧ c.cqueue = s.chip.cqueue
        ∧ (delayDue s.chip t = true → k.pc < 131071 → (c.task t).state = .ready ∧ (c.task t).pc = k.pc + 1 ∧ (c.task t).wait = none)
        ∧ (k.state = .blocked → released s.chip t = true → (c.task t).state = .ready ∧ (c.task t).pc = k.pc)
        ∧ (k.state = .waiting → waitAge s.chip k ≠ 0 → (watch s.chip t k).1 = true → judgedWait k.wait = true → k.pc < 131070 →
            (c.task t).state = .ready ∧ (c.task t).pc = k.pc + 2 ∧ (c.task t).wait = none
              ∧ ∀ f, k.wait = some (.event f true) → c.flag f = false)
        ∧ (k.state = .waiting → waitAge s.chip k ≠ 0 → (watch s.chip t k).1 = false → judgedWait k.wait = true → timedOut s.chip k = true →
            k.pc < 131071 → (c.task t).state = .ready ∧ (c.task t).pc = k.pc + 1 ∧ Reported Event.TASK_WAIT_TIMEOUT s.chip c)
        ∧ (k.state = .waiting → waitAge s.chip k ≠ 0 → (watch s.chip t k).1 = false → judgedWait k.wait = true → timedOut s.chip k = false →
            (tabKeys s.chip.tasks).Nodup → c.task t = { k with wait := (watch s.chip t k).2 })
        ∧ (k.state ≠ .waiting → k.state ≠ .blocked → c.task t = k)))
    ∧ (delayDue s.chip t = true → k.pc < 131071 → Completes (.delayExpiry t) s (fun c =>
        (c.task t).state = .ready ∧ (c.task t).pc = k.pc + 1 ∧ (∀ u : Nat, u ≠ t → c.task u = s.chip.task u) ∧ c.mem = s.chip.mem))
    ∧ (delayDue s.chip t = false → Completes (.delayExpiry t) s (fun c => c.quiet = s.chip.quiet ∧ c.mem = s.chip.mem))
    ∧ (k.state = .waiting → waitAge s.chip k ≠ 0 → timedOut s.chip k = true → (watch s.chip t k).1 = false → judgedWait k.wait = true →
        k.pc < 131071 → Completes (.waitTimeout t) s (fun c => (c.task t).state = .ready ∧ (c.task t).pc = k.pc + 1
          ∧ Reported Event.TASK_WAIT_TIMEOUT s.chip c ∧ ∀ u : Nat, u ≠ t → c.task u = s.chip.task u))
    ∧ ((k.state ≠ .waiting ∨ waitAge s.chip k = 0 ∨ timedOut s.chip k = false ∨ (watch s.chip t k).1 = true) →
        Completes (.waitTimeout t) s (fun c => c.quiet = s.chip.quiet ∧ c.mem = s.chip.mem))

/-- TASK_DISPATCH: the idle engine whose turn it is takes the head of the ready tasks, where the scheduler dispatches and the rim is not too near;
DISPATCH_COUNT counts it, the grant pointer moves behind the engine, and the engine executes the task's steps: a task whose step is END is done. With no
task ready, or another engine's turn, nothing happens. RECIPE_MEM_ERR faults the task of an engine and marks its step. -/
def Obligations.EnginesTakeTasks : Prop :=
  ∀ (s : State) (e : Fin 16) (ph : Nat),
    let c₀ := atPhase ph s.chip
    let g := grantCycle c₀
    (∀ t, dispatchOpen c₀ = true → (s.chip.engine e).task = 0 → roundRobin s.chip.sePtr (asking c₀ g) = some e.val → g + 2 ≤ lastStart c₀ →
      readyHead g c₀ = some t →
      Completes (.taskDispatch e ph) s (fun c =>
        rdN c Reg.TASK_DISPATCH_COUNT = satInc 32 (rdN s.chip Reg.TASK_DISPATCH_COUNT) ∧ c.sePtr = e + 1 ∧ c.seFree = g + 1
          ∧ c.mqueue = s.chip.mqueue ∧ c.dev = s.chip.dev
          ∧ (recipeStep s.chip.mem (s.chip.task t).pc = (0x11, ⟨0, false, false, false, false, 0, 0, 0, 0⟩) →
              s.chip.badSteps.contains (s.chip.task t).pc = false → engineOf s.chip t = none → (s.chip.task t).pc ≤ 131071 →
              (c.task t).state = .done ∧ (c.engine e).task = 0 ∧ (c.task t).steps = satInc 32 (s.chip.task t).steps
                ∧ Reported Event.TASK_TASK_DONE s.chip c)))
    ∧ (s.Live → (s.chip.engine e).task = 0 → (readyHead g c₀ = none ∨ roundRobin s.chip.sePtr (asking c₀ g) ≠ some e.val) →
        Completes (.taskDispatch e ph) s (fun c => c.quiet = s.chip.quiet ∧ c.mem = s.chip.mem))
    ∧ (s.Live → (s.chip.engine e).task ≠ 0 → engineOf s.chip (s.chip.engine e).task = some e → Completes (.recipeMemErr e) s (fun c =>
        Faults e (s.chip.engine e).task 6 s c ∧ c.badSteps.contains (s.chip.task (s.chip.engine e).task).pc = true
          ∧ Reported Event.TASK_RECIPE_MEM_ERR s.chip c ∧ Reported Event.TASK_TASK_FAULT s.chip c
          ∧ Reported Event.IST_IST_PERMANENT s.chip c ∧ Reported Event.IST_MEM_UE s.chip c))

/-- The steps that post a control-plane entry, with operands in range and room for the entry: SET, RAMP, VALVE, MODE, SIGNAL, FORK, CAPTURE and MOVE. -/
def Obligations.StepsPostEntries : Prop :=
  ∀ (s : State) (e : Fin 16) (t : Nat) (w : StepWord), s.AtStep e t w → (s.chip.engine e).entries < 16 → (s.chip.task t).pc < 131071 →
    let goes (op : CtlOp) (c : Chip) : Prop := Posts e op s c ∧ GoesOn e t ((s.chip.task t).pc + 1) s c
    (w.a < 0x800 → w.w2 = 0 → w.w3 = 0 → Completes (.stepSet e w) s (goes (.setpoint w.a w.w1 0)))
    ∧ (w.a < 0x800 → 0 ≤ w.w2.toInt → w.w3 = 0 → Completes (.stepRamp e w) s (goes (.setpoint w.a w.w1 w.w2)))
    ∧ (w.a < 2 → w.w3 = 0 → Completes (.stepValve e w) s (goes (.valve (decide (w.a = 1)) w.w1 w.w2)))
    ∧ (w.a < 0x800 → w.w1.toNat < 7 → w.w2 = 0 → w.w3 = 0 → Completes (.stepMode e w) s (goes (.mode w.a w.w1.toNat)))
    ∧ (w.a < 0x100 → w.w1.toNat < 2 → w.w2 = 0 → w.w3 = 0 → Completes (.stepSignal e w) s (goes (.flag w.a (decide (w.w1 = 0)))))
    ∧ (w.a ≠ 0 → w.a < 0x100 → fld w.w1 31 23 = 0 → w.w2 = 0 → w.w3 = 0 → Completes (.stepFork e w) s
        (goes (.fork w.a (if wbit w.w1 17 then none else some (fld w.w1 16 0, fld w.w1 22 18)) t)))
    ∧ (w.a < 0x10 → w.w1.toNat < 4 → w.w1 ≠ 0 → w.w2 = 0 → w.w3 = 0 → Completes (.stepCapture e w) s
        (goes (.capture w.a w.w1.toNat (boundary s e / 2))))
    ∧ (w.a < 0x80 → w.w1.toNat < 2 → Completes (.stepMove e w) s (goes (.move w.a (wbit w.w1 0) (moveTarget w) none)))
    ∧ (w.a < 0x80 → w.w1.toNat = 2 ∨ w.w1.toNat = 3 → Completes (.stepMove e w) s (fun c =>
        Posts e (.move w.a (wbit w.w1 0) (moveTarget w) (some t)) s c ∧ Waits e t w (.move w.a none none) none s c))

/-- R176 and the steps that wait or move the step pointer: DELAY, WAIT_UNTIL, WAIT_EVENT, CALL, RETURN, JUMP, BRANCH, MARK and END. The ninth CALL, a
RETURN on an empty stack and a step pointer past 131,071 fault the task. -/
def Obligations.StepsMoveThePointer : Prop :=
  (∀ (s : State) (e : Fin 16) (t : Nat) (w : StepWord), s.AtStep e t w →
    let pc := (s.chip.task t).pc
    let stk := (s.chip.task t).stack
    let span (unit : Nat) : Option Nat := if fld w.w3 31 16 = 0 then none else some (tickAdd s.chip.tick (fld w.w3 31 16 * 16 ^ unit))
    (w.a = 0 → w.w1 ≠ 0 → w.w2 = 0 → w.w3 = 0 → Completes (.stepDelay e w) s
      (Waits e t w (.delay (tickAdd s.chip.tick w.w1.toNat)) none s))
    ∧ (w.a = 0 → w.w1 = 0 → w.w2 = 0 → w.w3 = 0 → pc < 131071 → Completes (.stepDelay e w) s (fun c =>
        (c.task t).state = .ready ∧ (c.task t).pc = pc + 1 ∧ (c.engine e).task = 0))
    ∧ Completes (.stepWaitUntil e w) s (Waits e t w
        (.sig (bitsOf w.a 13 0) w.w1.toInt w.w2.toInt (max (fld w.w3 15 0 * 16 ^ bitsOf w.a 15 14) 1) 0) (span (bitsOf w.a 15 14)) s)
    ∧ (bitsOf w.a 13 8 = 0 → w.w1.toNat < 2 → w.w2 = 0 → fld w.w3 15 0 = 0 → Completes (.stepWaitEvent e w) s (Waits e t w
        (.event (bitsOf w.a 7 0) (wbit w.w1 0)) (span (bitsOf w.a 15 14)) s))
    ∧ (w.a = 0 → w.w1.toNat < 0x20000 → w.w2 = 0 → w.w3 = 0 →
        (stk.length < 8 → Completes (.stepCall e w) s (fun c =>
          GoesOn e t w.w1.toNat s c ∧ (c.task t).stack = stk ++ [pc + 1] ∧ c.cqueue = s.chip.cqueue))
        ∧ (8 ≤ stk.length → Completes (.stepCall e w) s (Faults e t 3 s)))
    ∧ (w.a = 0 → w.w1 = 0 → w.w2 = 0 → w.w3 = 0 →
        (∀ (below : List Nat) (ret : Nat), stk = below ++ [ret] → ret ≤ 131071 → Completes (.stepReturn e w) s (fun c =>
          GoesOn e t ret s c ∧ (c.task t).stack = below ∧ c.cqueue = s.chip.cqueue))
        ∧ (∀ (below : List Nat) (ret : Nat), stk = below ++ [ret] → 131071 < ret → Completes (.stepReturn e w) s (Faults e t 2 s))
        ∧ (stk = [] → Completes (.stepReturn e w) s (Faults e t 4 s)))
    ∧ (w.a = 0 → w.w1.toNat < 0x20000 → w.w2 = 0 → w.w3 = 0 → Completes (.stepJump e w) s (fun c =>
        GoesOn e t w.w1.toNat s c ∧ (c.task t).stack = stk ∧ c.cqueue = s.chip.cqueue))
    ∧ (∀ b, fld w.w1 31 21 = 0 → branchCond s.chip w = some b → ¬ (fld w.w1 19 17 = 5 ∧ w.a = 0) →
        ((b != wbit w.w1 20) = true ∨ pc < 131071 → Completes (.stepBranch e w) s (fun c =>
          GoesOn e t (if b != wbit w.w1 20 then fld w.w1 16 0 else pc + 1) s c ∧ (c.task t).stack = stk ∧ c.cqueue = s.chip.cqueue))
        ∧ ((b != wbit w.w1 20) = false → pc = 131071 → Completes (.stepBranch e w) s (Faults e t 2 s)))
    ∧ (w.a = 0 → w.w2 = 0 → w.w3 = 0 → pc < 131071 → Completes (.stepMark e w) s (fun c =>
        GoesOn e t (pc + 1) s c ∧ c.marks = s.chip.marks ++ [⟨e, t, w.w1, pc, boundary s e / 2⟩] ∧ c.cqueue = s.chip.cqueue))
    ∧ (w.a = 0 → w.w2 = 0 → w.w3 = 0 → pc = 131071 → Completes (.stepMark e w) s (Faults e t 2 s)
        ∧ (w.w1 = 0 → Completes (.stepDelay e w) s (Faults e t 2 s)))
    ∧ (pc = 131071 →
        (w.a < 0x800 → w.w2 = 0 → w.w3 = 0 → Completes (.stepSet e w) s (Faults e t 2 s))
        ∧ (w.a < 0x800 → 0 ≤ w.w2.toInt → w.w3 = 0 → Completes (.stepRamp e w) s (Faults e t 2 s))
        ∧ (w.a < 2 → w.w3 = 0 → Completes (.stepValve e w) s (Faults e t 2 s))
        ∧ (w.a < 0x800 → w.w1.toNat < 7 → w.w2 = 0 → w.w3 = 0 → Completes (.stepMode e w) s (Faults e t 2 s))
        ∧ (w.a < 0x100 → w.w1.toNat < 2 → w.w2 = 0 → w.w3 = 0 → Completes (.stepSignal e w) s (Faults e t 2 s))
        ∧ (w.a ≠ 0 → w.a < 0x100 → fld w.w1 31 23 = 0 → w.w2 = 0 → w.w3 = 0 → Completes (.stepFork e w) s (Faults e t 2 s))
        ∧ (w.a < 0x10 → w.w1.toNat < 4 → w.w1 ≠ 0 → w.w2 = 0 → w.w3 = 0 → Completes (.stepCapture e w) s (Faults e t 2 s))
        ∧ (w.a < 0x80 → w.w1.toNat < 2 → Completes (.stepMove e w) s (Faults e t 2 s)))
    ∧ (w.a = 0 → w.w1 = 0 → w.w2 = 0 → w.w3 = 0 → Completes (.stepEnd e w) s (fun c =>
        (c.task t).state = .done ∧ (c.task t).stack = [] ∧ (c.engine e).task = 0 ∧ Reported Event.TASK_TASK_DONE s.chip c)))
  ∧ (∀ (s : State) (u : Fin 256), s.Live → u.val ≠ 0 →
        let k := s.chip.task u
        let past (c : Chip) : Prop := (c.task u).state = .faulted ∧ (c.task u).cause = 2 ∧ (c.task u).faultPc = k.pc
        (delayDue s.chip u = true → k.pc = 131071 → Completes (.delayExpiry u) s past)
        ∧ (roleCode s.chip ≠ 4 → k.state = .waiting → waitAge s.chip k ≠ 0 →
            (∀ m q, k.wait = some (.move m q (some 1)) → k.pc = 131071 → Completes .wakePass s past)
            ∧ (judgedWait k.wait = true →
                ((watch s.chip u k).1 = true → 131070 ≤ k.pc → Completes .wakePass s past)
                ∧ ((watch s.chip u k).1 = false → timedOut s.chip k = true → k.pc = 131071 → Completes .wakePass s past))))

/-! ### The weave, the guards and the rim -/

/-- The dispatch of a window: in bank order no strand starts before the one dispatched before it or before the window, every strand runs on one of the
lanes for its charged cost, and a lane carries one strand at a time; where no lane runs, every due strand waits, on none. -/
def Obligations.DispatchKeepsLanesApart : Prop :=
  ∀ (m : Tab Byte) (b tick : Nat) (late : Bool) (lanes : List Nat) (placed : List (Nat × Nat)),
    let l := dispatchWindow m b tick late lanes placed
    l.Pairwise (fun f g => f.start ≤ g.start ∧ (f.lane = g.lane → f.done ≤ g.start))
      ∧ (∀ f ∈ l, windowStart m late ≤ f.start
          ∧ ∃ st, (f.index, st) ∈ dueStrands m b tick ∧ st.late = late
            ∧ (if lanes = [] then f.lane = noLane else f.lane ∈ lanes ∧ f.done = f.start + chargedCost m b st))
      ∧ l.map (·.index) = ((dueStrands m b tick).filter (fun p => p.2.late == late)).map (·.1)

/-- STRAND_DISPATCH: the strands of a walked bank go to the lanes that run, and of another bank to none. STRAND_COMPLETE: a strand that ran leaves the
schedule with its done_time, and its unit has its effect: a loop's output word and an echo term stand on the board at that time, an averaging strand
counts its tick, and a CHANGE strand writes no board word. LANE_STOP: the lane is down for the tick, due to retire and named in STOP_STAT, and every
strand keeps its place in the schedule. EARLY_COMPLETION_CHECK abandons what is left of the early window, as an overrun. CHECK_DONE: the bank reads
PASS where no rule is broken, and FAIL with the reason of the first breach. -/
def Obligations.StrandsRunAndStop : Prop :=
  (∀ s : State, s.Live →
      (∀ late, Completes (.strandDispatch late) s (fun c =>
        c.sched = s.chip.sched ++ (if bankWalked s.chip then dispatchWindow s.chip.mem s.chip.bankActive s.chip.tick late
            ((List.range (laneCount s.chip)).filter (fun a => !s.chip.lanesDown.contains a)) s.chip.doneStr else [])
          ∧ c.doneStr = s.chip.doneStr ∧ c.phase = windowStart s.chip.mem late / 4 ∧ c.work = s.chip.work
          ∧ ((late = true ∨ roleCode s.chip ≠ 3) → c.mem = s.chip.mem)))
      ∧ (∀ (i : Fin 8192) (f : Flight), s.chip.sched.find? (fun g => decide (g.index = i.val)) = some f → f.lane ≠ noLane →
          Completes (.strandComplete i) s (fun c =>
            let st := strandOf s.chip.mem s.chip.bankActive i
            c.doneStr = s.chip.doneStr ++ [(i.val, f.done)] ∧ c.sched = s.chip.sched.filter (fun g => decide (g.index ≠ i.val))
              ∧ c.phase = f.done / 4 ∧ c.mqueue = s.chip.mqueue ∧ c.dev = s.chip.dev
              ∧ (st.kind = 1 → (tabFind c.work (Sig.loopOut st.unit)).map (·.time) = some f.done ∧ (c.loop st.unit).snap.isSome = true
                  ∧ (∀ n : Nat, n ≠ st.unit → c.loop n = s.chip.loop n)
                  ∧ ((s.chip.loop st.unit).mode = .off →
                      (tabFind c.work (Sig.loopOut st.unit)).map (·.val) = some (satWord (rdI s.chip (loopRec st.unit + 0xB0)))))
              ∧ (st.kind = 2 → (tabFind c.work (Sig.echo st.unit)).map (·.time) = some f.done ∧ (c.echoOf st.unit).ran = true
                  ∧ (∀ n : Nat, n ≠ st.unit → c.echoOf n = s.chip.echoOf n) ∧ c.loops = s.chip.loops)
              ∧ (st.kind = 3 → tabGet (fun _ => 0) c.avgCnt st.unit = (if avgOutput st.unit s.chip then 0 else
                  tabGet (fun _ => 0) s.chip.avgCnt st.unit + 1) ∧ c.loops = s.chip.loops)
              ∧ (st.kind = 4 → c.work = s.chip.work ∧ c.loops = s.chip.loops)
              ∧ (st.kind = 5 → c.loops = s.chip.loops ∧ c.echoes = s.chip.echoes)))
      ∧ (∀ (i : Fin 8192), (∀ f, s.chip.sched.find? (fun g => decide (g.index = i.val)) = some f → f.lane = noLane) →
          Completes (.strandComplete i) s (fun c => c.quiet = s.chip.quiet ∧ c.mem = s.chip.mem))
      ∧ (∀ (pl : Fin 20) (parity : Bool) (ph : Nat), Completes (.laneStop pl parity ph) s (fun c =>
          c.laneDue.any (fun d => decide (d.1 = pl)) = true ∧ (∀ a, activeOf s.chip pl = some a → c.lanesDown.contains a = true)
            ∧ rdF c Reg.ENGINE_STOP_STAT 7 0 = pl + 0x20 * (if parity then 2 else 1)
            ∧ Reported Event.ENGINE_LANE_STOP s.chip c ∧ Reported Event.IST_IST_PERMANENT s.chip c ∧ c.laneMap = s.chip.laneMap
            ∧ (s.chip.laneMap.length ≤ 16 → (∀ f ∈ s.chip.sched, f.again = none) →
                (c.sched.map (·.index)).Perm (s.chip.sched.map (·.index)))))
      ∧ Completes .earlyCompletionCheck s (fun c =>
          let left := s.chip.sched.filter (fun f => !(strandOf s.chip.mem s.chip.bankActive f.index).late)
          c.sched = s.chip.sched.filter (fun f => (strandOf s.chip.mem s.chip.bankActive f.index).late)
            ∧ c.overrun = (s.chip.overrun || !left.isEmpty) ∧ c.earlyOver = (s.chip.earlyOver || (!s.chip.overrun && !left.isEmpty))
            ∧ (s.chip.overrun = false → left ≠ [] → rdN c Reg.WEAVE_OVERRUN_COUNT = satInc 32 (rdN s.chip Reg.WEAVE_OVERRUN_COUNT)
                ∧ Reported Event.WEAVE_OVERRUN s.chip c)
            ∧ c.phase = pOutPhase s.chip - 125 ∧ c.work = s.chip.work ∧ c.loops = s.chip.loops))
  ∧ (∀ (s : State) (b : Fin 2) (ph : Nat) (k : CheckRun), s.Live → s.chip.check = some k → k.bank = b →
      Completes (.checkDone b ph) s (fun c =>
        c.check = none ∧ Reported Event.WEAVE_CHECK_DONE s.chip c
          ∧ (bankBreach k.mem b (laneCount s.chip) = none → bankStateOf c b = .pass ∧ rd32 c Reg.WEAVE_CHECK_FAIL = 0)
          ∧ (∀ x, bankBreach k.mem b (laneCount s.chip) = some x → bankStateOf c b = .fail ∧ rdF c Reg.WEAVE_CHECK_STAT 15 8 = x.reason % 256)
          ∧ bankStateOf c (1 - b.val) = bankStateOf s.chip (1 - b.val) ∧ c.bankActive = s.chip.bankActive))

/-- GUARD_EVALUATION completes wherever the logic die runs: a guard latches where it is enabled and all terms of one of its groups hold, and no latch is
released; but for an early overrun, every loop that a latched guard forces, and in SAFE_IDLE every loop, has its OUT_SAFE as its output word
afterwards. -/
def Obligations.GuardsLatchAndForce : Prop :=
  ∀ s : State, s.Live → Completes .guardEvaluation s (fun c =>
    (∀ g ∈ listedRecords s.chip.mem 0x00304000 64 256,
        c.guardOn g = (s.chip.guardOn g || (rdB s.chip (guardRec g + 0x10) 0 && (trueGroup c g).isSome)))
      ∧ (∀ g, s.chip.guardOn g = true → c.guardOn g = true)
      ∧ (s.chip.earlyOver = false → ∀ g ∈ tabKeys c.tripped, c.guardOn g = true → rdB s.chip (guardRec g + 0x10) 9 = true →
          ∀ n ∈ sigRange (rdF s.chip (guardRec g + 0x14) 10 0) (rdF s.chip (guardRec g + 0x14) 27 16),
            (boardNow c (Sig.loopOut n)).val = Word.ofInt (rdI s.chip (loopRec n + 0xB0)))
      ∧ (s.chip.dev = .safeIdle → s.chip.earlyOver = false → ∀ n ∈ tabKeys s.chip.loops,
          (boardNow c (Sig.loopOut n)).val = Word.ofInt (rdI s.chip (loopRec n + 0xB0)))
      ∧ (s.chip.earlyOver = true → c.work = s.chip.work ∧ c.loops = s.chip.loops) ∧ c.dev = s.chip.dev
      ∧ c.guardsDone = true ∧ c.phase = pOutPhase s.chip - 57)

/-- PROFILE_PASS puts every generator's position and velocity on the board. P_OUT clears the count of bad sets at a good one, drives every DIO output from
its signal, or to its safe level in SAFE_IDLE, at an invalid word and in a power failure, and asks for SAFE_IDLE at the second bad set, which moves no
DIO; before the first rim it drives nothing. ECHO_UPDATE finishes every controller's run of the tick. -/
def Obligations.OutputsAndEchoMemory : Prop :=
  ∀ s : State, s.Live →
    Completes .profilePass s (fun c => c.phase = pOutPhase s.chip - 125 ∧ c.dev = s.chip.dev ∧ ∀ n, n < 128 →
      (boardNow c (Sig.mpPosLo n)).val = Word.ofNat (unsx 64 (pubPos (c.mp n))) ∧ (boardNow c (Sig.mpPosLo n)).valid = true
        ∧ (boardNow c (Sig.mpVel n)).val = Word.ofInt (roundDiv (c.mp n).pubVel 256))
    ∧ (∀ f, s.chip.outReset = true → Completes (.pOut f) s (fun c => c.outEn = s.chip.outEn ∧ c.linkBad = s.chip.linkBad
        ∧ c.ports = s.chip.ports ∧ c.axes = s.chip.axes ∧ c.pins = s.chip.pins ∧ c.emitted = []
        ∧ (roleCode s.chip ≠ 3 → c.quiet = s.chip.quiet ∧ c.mem = s.chip.mem)))
    ∧ (s.chip.outReset = false → s.chip.earlyOver = false →
        Completes (.pOut .good) s (fun c => c.linkBad = 0 ∧ c.safeCause = s.chip.safeCause
          ∧ (s.chip.pf = false → c.outEn = !standby s.chip)
          ∧ (s.chip.pf = false → ∀ j, j < 48 → let w := mrd32 s.chip.mem (Reg.INPUT_DIO_CFG + 4 * j)
              fld w 1 0 = 1 → (c.pin (96 + j)).driven = some (if s.chip.dev = .safeIdle ∨ (boardNow s.chip (fld w 29 16)).valid = false
                then wbit w 2 else decide (0x08000000 ≤ (boardNow s.chip (fld w 29 16)).val.toInt)))))
    ∧ (∀ f ∈ [LinkFinding.late, .incomplete, .crc], s.chip.outReset = false → s.chip.earlyOver = false →
        Completes (.pOut f) s (fun c => c.linkBad = min 2 (s.chip.linkBad + 1) ∧ Reported Event.SYS_DIE_LINK s.chip c
          ∧ (s.chip.linkBad ≠ 0 → c.safeCause = some Event.SYS_DIE_LINK.code) ∧ (s.chip.linkBad = 0 → c.safeCause = s.chip.safeCause)
          ∧ c.outEn = s.chip.outEn ∧ ∀ j, j < 48 → (c.pin (96 + j)).driven = (s.chip.pin (96 + j)).driven))
    ∧ (∀ bad, Completes (.echoUpdate bad) s (fun c => c.phase = pOutPhase s.chip + 50
        ∧ ∀ n, (c.echoOf n).ran = false ∧ (c.echoOf n).aborted = false))

/-- RIM completes wherever the logic die runs: everything of the tick is closed, the queue of control-plane entries is empty, COMMITs leave the queue in the
order accepted, the tick's board words settle, requests for a device state are taken, a checkpoint goes to the halves by turns, and the next tick begins,
with the next count where no COMMIT waits and the time asks for no step. -/
def Obligations.RimClosesTheTick : Prop :=
  ∀ (s : State) (shared : Bool), s.Live → Completes (.rim shared) s (fun c =>
    c.sched = [] ∧ c.doneStr = [] ∧ c.lanesDown = [] ∧ c.marks = [] ∧ c.overrun = false ∧ c.earlyOver = false
      ∧ c.cqueue = [] ∧ c.flagWrites = [] ∧ c.devReq = none ∧ c.safeCause = none ∧ c.ckNext = !s.chip.ckNext ∧ c.outReset = false
      ∧ (∀ k ∈ c.mqueue, ∃ q ∈ s.chip.mqueue, k.page = q.page ∧ k.items = q.items) ∧ c.mqueue.length ≤ s.chip.mqueue.length
      ∧ c.beat = s.chip.beat + 1 ∧ rd32 c Reg.TICK_TICK_LEN_LAST = Word.ofNat s.chip.tickLen
      ∧ (∀ w, tabFind s.chip.work Sig.tickLo = some w → settledRd c Sig.tickLo = ⟨w.val, w.valid⟩)
      ∧ (s.chip.mqueue = [] → s.chip.time.step = none → tickN s.chip = s.chip.perN → c.tick = tickAdd s.chip.tick 1))

/-! ### Echo controllers and axes -/

/-- Echo controllers and edges: a finished clear brings IDLE; an edge of the index that counts and is accepted re-phases the controller, and the second one
in a row locks it; one that is not accepted is counted; an edge of the other direction does nothing; a deadline without an edge loses lock. An edge of an
axis input that has held its level for the debounce time is queued for the profile pass, with the fine position of its instant; a chatter window that
has closed is reported where edges were merged; and a step edge counts up or down by its direction. -/
def Obligations.EdgesReachControllersAndAxes : Prop :=
  ∀ s : State, s.Live →
    (∀ (n : Fin 128) (ph : Nat), (s.chip.echoOf n).state = .clearing → (s.chip.echoOf n).zeroed = some (s.chip.echoOf n).len →
      Completes (.clearDone ⟨n, ph⟩) s (fun c => (c.echoOf n).state = .idle ∧ (c.echoOf n).qn = 0 ∧ Reported Event.ECHO_CLEAR_DONE s.chip c
        ∧ ∀ m : Nat, m ≠ n → c.echoOf m = s.chip.echoOf m))
    ∧ (∀ (n : Fin 128) (st : Strand) (tick phase : Nat) (x : Int), echoStrand s.chip n = some st → edIndexed s.chip.mem n = true →
        edgeCoord s.chip n st tick phase = some x →
        let e := { s.chip.echoOf n with crossed := none }
        x - e.t < e.p ∨ e.p = 0 → e.resize = false →
        (edgeAccepted s.chip.mem n e (edgePeriod e x) = false → Completes (.indexEdge n tick phase) s (fun c =>
          c.echoOf n = { e with rejects := satInc 16 e.rejects } ∧ Reported Event.ECHO_INDEX_REJECT s.chip c))
        ∧ (edgeAccepted s.chip.mem n e (edgePeriod e x) = true → (e.locked = true ∨ firstEdgeCounts e x = true) → Completes (.indexEdge n tick phase) s (fun c =>
          c.echoOf n = { e with t := x, p := (edgePeriod e x).toNat, locked := true, accepted := 2, lost := false, revs := satInc 32 e.revs }
            ∧ (e.locked = false → Reported Event.ECHO_INDEX_REGAINED s.chip c)))
        ∧ (edgeAccepted s.chip.mem n e (edgePeriod e x) = true → e.locked = false → firstEdgeCounts e x = false → Completes (.indexEdge n tick phase) s (fun c =>
          c.echoOf n = { e with t := x, base := x, accepted := 1 })))
    ∧ (∀ (n : Fin 128) (st : Strand) (tick phase : Nat), echoStrand s.chip n = some st → edgeCoord s.chip n st tick phase = none →
        Completes (.indexEdge n tick phase) s (fun c => c.quiet = s.chip.quiet ∧ c.mem = s.chip.mem))
    ∧ (∀ (n : Fin 128) (st : Strand) (tick phase : Nat), echoStrand s.chip n = some st → edIndexed s.chip.mem n = true →
        (s.chip.echoOf n).locked = true → (echoDeadline s.chip.mem n (s.chip.echoOf n) : Int) ≤ runCoord s.chip st tick phase - (s.chip.echoOf n).t →
        Completes (.indexLost n tick phase) s (fun c =>
          (c.echoOf n).locked = false ∧ (c.echoOf n).lost = true ∧ (c.echoOf n).losses = satInc 16 (s.chip.echoOf n).losses
            ∧ ((s.chip.echoOf n).lost = false → Reported Event.ECHO_INDEX_LOST s.chip c)))
    ∧ (∀ (n : Fin 32) (which : Fin 3) (level : Bool) (tick phase : Nat),
        let src := swSrc s.chip.mem n which
        let t := instant s.chip tick phase
        src ≠ 0xFF → (s.chip.pin src).raw = level → (s.chip.pin src).since = t → t + swDeb s.chip n < s.chip.cyc + tickN s.chip →
        chatterOpen (s.chip.mp n) which t = false → Completes (.edgeQualified n which level tick phase) s (fun c =>
          (c.mp n).edges = (s.chip.mp n).edges ++ [⟨which, level != swLow s.chip.mem n which, t,
              fineAt (s.chip.ax n).f t (s.chip.ax n).fHist⟩]
            ∧ c.axes = s.chip.axes ∧ ∀ m : Nat, m ≠ n → c.mp m = s.chip.mp m))
    ∧ (∀ (n : Fin 32) (which : Fin 3) (level : Bool) (tick phase : Nat),
        let src := swSrc s.chip.mem n which
        let t := instant s.chip tick phase
        (src = 0xFF ∨ (s.chip.pin src).raw ≠ level ∨ (s.chip.pin src).since ≠ t ∨ chatterOpen (s.chip.mp n) which t = true) →
        Completes (.edgeQualified n which level tick phase) s (fun c => c.quiet = s.chip.quiet ∧ c.mem = s.chip.mem))
    ∧ (∀ (n : Fin 32) (which : Fin 3) (w : ChatWin), (s.chip.mp n).chatWins.find? (fun w => decide (w.which = which.val)) = some w →
        w.close < s.chip.cyc + tickN s.chip → Completes (.chatter n which) s (fun c =>
          (c.mp n).chatWins = (s.chip.mp n).chatWins.filter (fun x => decide (x.which ≠ which.val)) ∧ (c.mp n).edges = (s.chip.mp n).edges
            ∧ (w.count ≠ 0 → Reported Event.MOTION_CHATTER s.chip c)))
    ∧ (∀ (ch : Fin 24) (tick phase : Nat),
        let p := s.chip.pin (96 + 2 * ch)
        let k := sdCfg s.chip.inMem ch
        p.stepDue = true → sdOn s.chip.inMem ch = true → 5 * fld k 7 0 ≤ 2 * (instant s.chip tick phase - p.since) →
        Completes (.stepEdge ch tick phase) s (fun c =>
          rd32 c (Reg.INPUT_SD_COUNT + 4 * ch) = (if p.dirAt != wbit k 9 then rd32 s.chip (Reg.INPUT_SD_COUNT + 4 * ch) + 1
              else rd32 s.chip (Reg.INPUT_SD_COUNT + 4 * ch) - 1)
            ∧ (c.pin (96 + 2 * ch)).stepDue = false))

/-- The stepper drive: a table update moves the fine position to its next value and nothing of a retired axis, and does nothing in a restart; a phase
chops between its thresholds, the off time being no shorter than set; a still axis reduces its current; an overcurrent puts AXn_EN low at once, and
retires the axis, as an open coil does. A chopper test in its turn raises the thresholds of the phases that a current flows in, and its third mismatch
retires the axis. -/
def Obligations.DriveRegulatesAndRetires : Prop :=
  ∀ (s : State) (n : Fin 32),
    (∀ i sampA sampB, (i = 0 ∨ updatesPerTick s.chip < i ∨ s.chip.dev = .heldRestart) →
      Completes (.tableUpdate n i sampA sampB) s (fun c => c.quiet = s.chip.quiet ∧ c.mem = s.chip.mem))
    ∧ (∀ i sampA sampB, s.Live → 0 < i → i ≤ updatesPerTick s.chip → Completes (.tableUpdate n i sampA sampB) s (fun c =>
        let a := (extRelease n s.chip).ax n
        (c.ax n).f = (if a.retired then a.f else if a.extSrc ≠ 0 then segFine a else profileFine a i (updatesPerTick s.chip))
          ∧ (a.retired = true → (c.ax n).addr = a.addr ∧ (c.ax n).band = a.band) ∧ (∀ m : Nat, m ≠ n → c.ax m = s.chip.ax m)))
    ∧ ((s.chip.ax n).reduced = false → drvIHold s.chip.drvMem n ≠ 256 → msTicks s.chip (mF s.chip.drvMem (drv n + 8) 9 0) ≤ (s.chip.ax n).still →
        Completes (.standstillReduction n) s (fun c => c.ax n = { s.chip.ax n with reduced := true, rampN := 0 } ∧ c.mem = s.chip.mem))
    ∧ (∀ (ph : Fin 2) (cur : Int) (tick phase : Nat),
        let a := s.chip.ax n
        let p := phaseOf a ph
        let t := instant s.chip tick phase
        let toff := mF s.chip.drvMem (drv n + 0x0C) 21 16 * 125 / 2
        Completes (.onTimeEnd n ph cur tick phase) s (fun c =>
          phaseOf (c.ax n) ph = (if a.en = true ∧ p.chop = .on ∧ p.onAt + mF s.chip.drvMem (drv n + 0x0C) 13 8 * 125 / 4 ≤ t
              ∧ thi s.chip.drvMem n a ph t ≤ cur then
                { p with chop := .off, offAt := t, onLen := if p.test = .cycle then p.onLen else t - p.onAt,
                         testOn := if p.test = .cycle then t - p.onAt else p.testOn }
              else p))
        ∧ (a.en = true → p.chop = .off → p.offAt + toff ≤ t → cur ≤ tlo s.chip.drvMem n a ph t →
            (p.onAt = 0 ∨ 250000 ≤ (t - p.onAt) * mF s.chip.drvMem (drv n + 0x0C) 31 24) →
            (p.ref ≠ 0 → chopTesting a = false → (∀ b, p.test ≠ .over b) → Completes (.offTimeEnd n ph cur tick phase) s (fun c =>
              phaseOf (c.ax n) ph = { p with chop := .on, onAt := t, last := p.neg, offLen := t - p.offAt }))
            ∧ (p.ref = 0 → Completes (.offTimeEnd n ph cur tick phase) s (fun c => phaseOf (c.ax n) ph = p)))
        ∧ (t < p.offAt + toff → Completes (.offTimeEnd n ph cur tick phase) s (fun c => c.ax n = s.chip.ax n))
        ∧ (∀ y, s.Live → a.en = true → p.chop = .off → p.offAt + toff ≤ t → cur ≤ tlo s.chip.drvMem n a ph t →
            (p.onAt = 0 ∨ 250000 ≤ (t - p.onAt) * mF s.chip.drvMem (drv n + 0x0C) 31 24) → p.ref ≠ 0 →
            p.test = .cycle → (phaseOf a (1 - ph.val)).test = .over y →
            (Config.chopAsExpected (p.onLen, p.offLen) (p.testOn, t - p.offAt) && y) = false →
            chopEligible s.chip n = true → checkOn s.chip 6 = true →
            let earlier := (mismatchWindow s.chip (axisUnit n)).length
            Completes (.offTimeEnd n ph cur tick phase) s (fun c =>
              (2 ≤ earlier → (c.ax n).retDue = some Event.STEPDRV_CHOP_TEST_FAIL.code ∧ Reported Event.STEPDRV_CHOP_TEST_FAIL s.chip c)
                ∧ (earlier < 2 → (c.ax n).retDue = a.retDue ∧ tabFind c.retry (axisUnit n) = some 6) ∧ chopTesting (c.ax n) = false)))
    ∧ (∀ (w : Fin 2) (ph : Nat), (s.chip.ax n).en = true →
        (s.Live → Completes (.overcurrent n w ph) s (fun c =>
          c.ax n = { (s.chip.ax n).withEn false with tripped := true, ocDue := none, retDue := some Event.STEPDRV_OVERCURRENT.code }
            ∧ Reported Event.STEPDRV_OVERCURRENT s.chip c ∧ Reported Event.IST_IST_PERMANENT s.chip c))
        ∧ (s.chip.dev = .heldRestart → Completes (.overcurrent n w ph) s (fun c =>
          c.ax n = { (s.chip.ax n).withEn false with tripped := true, ocDue := some w.val } ∧ c.mem = s.chip.mem)))
    ∧ (∀ w : Fin 2, s.Live → 3 ≤ (phaseOf (s.chip.ax n) w).openCnt → (s.chip.ax n).retired = false → (s.chip.ax n).retDue = none →
        Completes (.openCoil n w) s (fun c =>
          c.ax n = { s.chip.ax n with retDue := some Event.STEPDRV_OPEN_COIL.code } ∧ Reported Event.STEPDRV_OPEN_COIL s.chip c))
    ∧ (∀ ph : Nat, s.Live →
        let a := s.chip.ax n
        let able := testTurn 6 (axisUnit 0) 32 (chopEligible s.chip) s.chip n
        (able = true → checkOn s.chip 6 = true → chopTesting a = false → (a.phA.ref ≠ 0 ∨ a.phB.ref ≠ 0) →
          Completes (.chopTest n ph) s (fun c =>
            c.ax n = { a with phA := { a.phA with test := if a.phA.ref = 0 then .over true else .wait },
                              phB := { a.phB with test := if a.phB.ref = 0 then .over true else .wait } }
              ∧ c.mem = s.chip.mem ∧ ∀ m : Nat, m ≠ n → c.ax m = s.chip.ax m))
        ∧ ((able = false ∨ checkOn s.chip 6 = false) →
          Completes (.chopTest n ph) s (fun c => c.quiet = s.chip.quiet ∧ c.mem = s.chip.mem)))

/-! ### Loop ports and their modems -/

/-- Loop ports: compliance and open-loop episodes, thermal shutdown (the third within 600 s of operating time retires the port) and restart, VLOOP, the
check of the return current in its turn, and shared current. -/
def Obligations.PortsReportAndRetire : Prop :=
  ∀ (s : State) (n : Fin 32) (ph : Nat), s.Live →
    let p := s.chip.port n
    let k := mF s.chip.drvMem (portRec n + 4) 15 8
    (p.short = true → p.shortEp = false → k ≠ 0 → k ≤ p.shortN → Completes (.compliance n) s (fun c =>
      c.port n = { p with shortEp := true } ∧ Reported Event.LPORT_COMPLIANCE s.chip c))
    ∧ (p.isOpen = false → msTicks s.chip 5 ≤ p.openN → Completes (.openLoop n) s (fun c =>
        c.port n = { p with isOpen := true } ∧ Reported Event.LPORT_OPEN_LOOP s.chip c))
    ∧ (p.isOpen = true → msTicks s.chip 5 ≤ p.okN → Completes (.openLoop n) s (fun c =>
        c.port n = { p with isOpen := false } ∧ Reported Event.LPORT_OPEN_LOOP s.chip c))
    ∧ (∀ celsius : Int, 160 ≤ celsius → p.mode ≠ 0 → p.state ≠ .shut → p.retired = false →
        Completes (.thermalShut n celsius ph) s (fun c =>
          (c.port n).state = .shut ∧ (c.port n).code = 0 ∧ (c.port n).shutAt = s.chip.cyc + ph ∧ Reported Event.LPORT_THERMAL_SHUT s.chip c
            ∧ (c.port n).retDue = (if 2 ≤ (recentShuts s.chip n).length then some Event.LPORT_THERMAL_SHUT.code else p.retDue)))
    ∧ (∀ celsius : Int, p.state = .shut → p.retired = false → p.retDue = none → (recentShuts s.chip n).length < 3 → celsius < 120 →
        p.shutAt + 25000000 ≤ s.chip.cyc + pOutPhase s.chip → Completes (.portThermalRestart n celsius) s (fun c =>
          (c.port n).state = portStateIn s.chip n p.mode ∧ (c.port n).cut = prHead s.chip.drvMem n - 15
            ∧ (c.port n).code = portCode s.chip.drvMem n p.d (c.port n) ∧ c.mem = s.chip.mem))
    ∧ (∀ mv, mv < 9000 → s.chip.vloopOk = true → Completes (.vloopLow mv ph) s (fun c =>
        c.vloopOk = false ∧ Reported Event.LPORT_VLOOP_LOW s.chip c
          ∧ ∀ i, i < 32 → (if (s.chip.port i).mode = 1 then (c.port i).code = 0 ∧ (c.port i).runs = false else c.port i = s.chip.port i)))
    ∧ (∀ mv, 10000 ≤ mv → s.chip.vloopOk = false → Completes (.vloopResume mv) s (fun c =>
        c.vloopOk = true ∧ c.ports = s.chip.ports ∧ rdB c Reg.LPORT_VLOOP 16 = true))
    ∧ (∀ ret share : Nat,
        let turn := testTurn 5 (portUnit 0) 32 (fun i => decide ((s.chip.port i).mode = 1) && decide ((s.chip.port i).state = .run)) s.chip n
        (turn = true → checkOn s.chip 5 = true → p.short = false → p.cut = 0 → p.limit = 0xFFFF →
          65536 < 100 * ((ret : Int) - (if prShared s.chip.drvMem n then p.own + share else p.own)).natAbs →
          Completes (.portReadback n ret ⟨share, ph⟩) s (fun c =>
            (2 ≤ (mismatchWindow s.chip (portUnit n)).length → (c.port n).retDue = some Event.LPORT_READBACK_FAIL.code
                ∧ Reported Event.LPORT_READBACK_FAIL s.chip c)
              ∧ ((mismatchWindow s.chip (portUnit n)).length < 2 → c.port n = p ∧ tabFind c.retry (portUnit n) = some 5)))
        ∧ ((turn = false ∨ checkOn s.chip 5 = false) →
          Completes (.portReadback n ret ⟨share, ph⟩) s (fun c => c.quiet = s.chip.quiet ∧ c.mem = s.chip.mem)))
    ∧ (∀ cause : Fin 3, prShared s.chip.drvMem n = true → p.full = false → p.mode = 1 → (cause.val = 2 → 3 ≤ p.shareN) →
        (cause.val = 0 → 4 ≤ rdF s.chip Reg.TWIN_TWIN_STAT 9 7) → Completes (.shareLost n ⟨cause, ph⟩) s (fun c =>
          (c.port n).full = true ∧ (c.port n).shareN = 0 ∧ (c.port n).code = portCode s.chip.drvMem n p.d (c.port n)
            ∧ Reported Event.LPORT_SHARE_LOST s.chip c))
    ∧ (prShared s.chip.drvMem n = true → p.full = true → 2 ≤ p.overN → p.dropped = false → Completes (.overshare n) s (fun c =>
        (c.port n).dropped = rdB s.chip Reg.TWIN_TWIN_STAT 3 ∧ (rdB s.chip Reg.TWIN_TWIN_STAT 3 = true → (c.port n).code = 0)
          ∧ Reported Event.LPORT_OVERSHARE s.chip c))

/-- A modem sends a held message once its line is free, as preamble characters of 0xFF and then the FIFO's, of eleven bits each with odd parity, with a
continuous phase and half the amplitude while the current is shared; it reports the end, an empty FIFO and an abort; it takes received characters while
the carrier is detected. -/
def Obligations.ModemSendsAndReceives : Prop :=
  ∀ (s : State) (n : Fin 32) (tick phase : Nat), s.Live →
    let f := s.chip.modem n
    let p := s.chip.port n
    let t := instant s.chip tick phase
    let sends (mark : Bool) (c : Chip) : Prop := (c.modem n).out.map (·.mark) = (if p.state = .run then some mark else none)
    (∀ len ph, f.held = some len → fskRuns s.chip n = true → f.cd = false → f.msg = none →
        (p.mode ≠ 1 ∨ (65536 ≤ 24 * p.d ∧ p.short = false)) → Completes (.fskMessageStart n ph) s (fun c =>
          c.modem n = { f with held := none,
                               msg := some ⟨mF s.chip.drvMem (portRec n + 12) 4 0 - 1, len, 0xFF, 0, false, Config.toneStart % 6⟩ }))
    ∧ (∀ m, f.msg = some m →
        (m.bit < 11 → Completes (.fskBit n tick phase) s (fun c =>
          sends (frameBit m.char m.bit) c ∧ (c.modem n).msg.map (·.bit) = some (m.bit + 1) ∧ (c.modem n).tx = f.tx
            ∧ (c.modem n).msg.map (·.phase) = some ((m.phase + if frameBit m.char m.bit then 6 else 11) % 6)
            ∧ (∀ x ∈ (c.modem n).out, x.phase = m.phase ∧ x.half = (prShared s.chip.drvMem n && !p.full))))
        ∧ (11 ≤ m.bit → f.abort = false → 0 < m.pre → Completes (.fskBit n tick phase) s (fun c =>
          sends false c ∧ (c.modem n).msg.map (·.pre) = some (m.pre - 1) ∧ (c.modem n).msg.map (·.char) = some 0xFF))
        ∧ (∀ ch rest, 11 ≤ m.bit → f.abort = false → m.pre = 0 → 0 < m.left → f.tx = ch :: rest → Completes (.fskBit n tick phase) s (fun c =>
          sends false c ∧ (c.modem n).tx = rest ∧ (c.modem n).msg.map (·.char) = some ch
            ∧ (c.modem n).msg.map (·.left) = some (m.left - 1)))
        ∧ (11 ≤ m.bit → f.abort = false → m.pre = 0 → m.left = 0 → Completes (.fskBit n tick phase) s (fun c =>
          (c.modem n).msg = none ∧ (c.modem n).out = none ∧ (c.modem n).blank = t + 416666 ∧ Reported Event.LPORT_FSK_TX_DONE s.chip c))
        ∧ (11 ≤ m.bit → f.abort = false → m.pre = 0 → 0 < m.left → f.tx = [] → Completes (.fskBit n tick phase) s (fun c =>
          (c.modem n).msg = none ∧ Reported Event.LPORT_FSK_ERR s.chip c))
        ∧ (11 ≤ m.bit → f.abort = true → Completes (.fskBit n tick phase) s (fun c =>
          (c.modem n).msg = none ∧ (c.modem n).tx = [] ∧ Reported Event.LPORT_FSK_ERR s.chip c)))
    ∧ (∀ on, f.cd ≠ on → fskOn s.chip n = true → (on = true → fskBlanked f t = false) → Completes (.fskCd n on tick phase) s (fun c =>
        (c.modem n).cd = on ∧ (c.modem n).rx = f.rx ∧ Reported Event.LPORT_FSK_CD s.chip c))
    ∧ (∀ (char : Byte) (parity framing : Bool), f.cd = true → fskOn s.chip n = true → fskBlanked f t = false →
        Completes (.fskRxCharacter n char parity framing tick phase) s (fun c =>
          (f.rx.length ≠ 64 → (∃ w, (c.modem n).rx = f.rx ++ [w] ∧ fld w 7 0 = char.toNat ∧ wbit w 8 = parity ∧ wbit w 9 = framing ∧ wbit w 10 = f.first)
              ∧ (c.modem n).first = false)
            ∧ (f.rx.length = 64 → (c.modem n).rx = f.rx ∧ (c.modem n).rxOvr = satInc 8 f.rxOvr ∧ (f.errO = false → Reported Event.LPORT_FSK_ERR s.chip c))))

/-! ### Inputs and field links -/

/-- Analogue inputs sum their clamped conversions, at the instants of conversion alone, but for the one after a range change and the one of an open-wire
test; two tests in a row that fail, or pass, move the open state; a third mismatch of the check converter, in the input's turn, retires the input. A raw
edge sets the pin's level and its instant. -/
def Obligations.InputsConvertAndAreChecked : Prop :=
  ∀ s : State,
    (∀ (codes : List Int) (ph i : Nat) (code : Int), convertsAt s.chip ph = true → codes[i]? = some code → i < 64 →
        Completes (.aiConversion codes ph) s (fun c =>
      let a := s.chip.ai i
      (a.skip = true → (c.ai i).skip = false ∧ (c.ai i).sum = a.sum ∧ (c.ai i).cnt = a.cnt)
        ∧ (a.skip = false → a.owDue = true → (c.ai i).ow = some (clampInt (-131072) 131071 code) ∧ (c.ai i).owDue = false ∧ (c.ai i).sum = a.sum)
        ∧ (a.skip = false → a.owDue = false → (c.ai i).sum = a.sum + clampInt (-131072) 131071 code ∧ (c.ai i).cnt = a.cnt + 1)
        ∧ c.mem = s.chip.mem ∧ c.phase = ph))
    ∧ (∀ (codes : List Int) (ph : Nat), convertsAt s.chip ph = false → Completes (.aiConversion codes ph) s (fun c =>
        c.quiet = s.chip.quiet ∧ c.mem = s.chip.mem))
    ∧ (∀ (i : Fin 64) (code sum : Int) (cnt : Nat), s.Live → (s.chip.ai i).judge = some (code, sum, cnt) →
        let fail := aiThr s.chip.inMem i * cnt < (code * cnt - sum).natAbs
        Completes (.openWireTest i) s (fun c =>
          (c.ai i).judge = none
            ∧ (fail → (s.chip.ai i).isOpen = false → 1 ≤ (s.chip.ai i).fails → (c.ai i).isOpen = true ∧ Reported Event.INPUT_AI_OPEN s.chip c)
            ∧ (¬ fail → (s.chip.ai i).isOpen = true → 1 ≤ (s.chip.ai i).passes → (c.ai i).isOpen = false ∧ Reported Event.INPUT_AI_OPEN s.chip c)
            ∧ (fail → (s.chip.ai i).fails = 0 → (c.ai i).isOpen = (s.chip.ai i).isOpen ∧ (c.ai i).fails = 1 ∧ (c.ai i).passes = 0)))
    ∧ (∀ (i : Fin 64) (code : Int) (ph : Nat), s.Live →
        let turn := testTurn 4 (aiUnit 0) 64 (fun k => !(s.chip.ai k).retired) s.chip i
        (checkOn s.chip 4 = true → turn = true → 64 < (code - (s.chip.ai i).last).natAbs →
          Completes (.checkAdc i ⟨code, ph⟩) s (fun c =>
            (2 ≤ (mismatchWindow s.chip (aiUnit i)).length → (c.ai i).retDue = true ∧ Reported Event.IST_IST_PERMANENT s.chip c)
              ∧ ((mismatchWindow s.chip (aiUnit i)).length < 2 → c.ai i = s.chip.ai i ∧ tabFind c.retry (aiUnit i) = some 4)))
        ∧ ((checkOn s.chip 4 = false ∨ turn = false) →
          Completes (.checkAdc i ⟨code, ph⟩) s (fun c => c.quiet = s.chip.quiet ∧ c.mem = s.chip.mem)))
    ∧ (∀ (pin : Fin 144) (level : Bool) (phase : Nat), (s.chip.dev = .heldRestart ∨ roleCode s.chip ≠ 3) → (s.chip.pin pin).raw ≠ level →
        Completes (.rawEdge pin level phase) s (fun c =>
          (c.pin pin).raw = level ∧ (c.pin pin).since = instant s.chip s.chip.tick phase ∧ (c.pin pin).edges = (s.chip.pin pin).edges + 1
            ∧ ∀ m : Nat, m ≠ pin → c.pin m = s.chip.pin m))
    ∧ (∀ (pin : Fin 144) (level : Bool) (phase : Nat), s.Live → roleCode s.chip = 3 →
        Completes (.rawEdge pin level phase) s (fun c => c.quiet = s.chip.quiet ∧ c.mem = s.chip.mem))

/-- A field link: its start ends in RUN, held by its minimum D_APPLY, or in FAILED with the first reason met; a good return of the tick is judged once, and
clears the stale counts of its fresh heads; one that a head has marked as wrong is counted, one that is itself wrong is ignored, and a lost return is
counted; a link out of lock goes DOWN. -/
def Obligations.FieldLinksStartAndReturn : Prop :=
  ∀ (s : State) (p : Fin 8), s.Live →
    (∀ r ph, wlState s.chip p = 1 → (s.chip.wl p).restart = false →
      (linkFailure s.chip p r = none → Completes (.linkStartDone p r ph) s (fun c =>
        (c.wl p).heads = headsFound s.chip.mem p r.heads ∧ rdF c (wb p + 4) 7 3 = r.heads.length % 32
          ∧ wlState c p = (if dApply s.chip < rdF c (wb p + 8) 31 16 then 4 else 2)
          ∧ (wlState c p = 2 → Reported Event.WLINK_WL_UP s.chip c)))
      ∧ (∀ f, linkFailure s.chip p r = some f → Completes (.linkStartDone p r ph) s (fun c =>
        wlState c p = 5 ∧ rdF c (wb p + 4) 15 12 = f.1 % 16 ∧ Reported Event.WLINK_WL_START_FAIL s.chip c ∧ c.wls = s.chip.wls)))
    ∧ (∀ r ph, wlState s.chip p ≠ 1 → Completes (.linkStartDone p r ph) s (fun c => c.quiet = s.chip.quiet ∧ c.mem = s.chip.mem))
    ∧ (∀ (f : ReturnFrame) (ph : Nat), wlRuns s.chip p = true → ph ≤ 725 → (s.chip.wl p).judged = false → crcGood f = true → crcStomped f = false → f.seq = s.chip.tick →
        Completes (.returnFrame p f ph) s (fun c =>
          (c.wl p).judged = true ∧ (c.wl p).retEp = false ∧ (wlState c p = 2 ∨ wlState c p = 3)
            ∧ ∀ k, k < (s.chip.wl p).heads.length → wbit (f.hstat.getD k 0) 0 = true →
                (c.wl p).heads[k]?.map (fun h => (h.stale, h.lost)) = some (0, false)))
    ∧ (∀ (f : ReturnFrame) (ph : Nat), crcGood f = false → crcStomped f = false →
        Completes (.returnFrame p f ph) s (fun c => c.quiet = s.chip.quiet ∧ c.mem = s.chip.mem))
    ∧ (∀ (f : ReturnFrame) (ph : Nat), wlRuns s.chip p = true → crcStomped f = true → Completes (.returnFrame p f ph) s (fun c =>
        rdF c (wb p + 20) 31 16 = satInc 16 (rdF s.chip (wb p + 20) 31 16) ∧ c.wls = s.chip.wls ∧ c.work = s.chip.work))
    ∧ (wlRuns s.chip p = true → (s.chip.wl p).judged = false → Completes (.returnLost p) s (fun c =>
        c.wl p = { s.chip.wl p with judged := true, retEp := true } ∧ rdN c (wb p + 24) = satInc 32 (rdN s.chip (wb p + 24))
          ∧ ((s.chip.wl p).retEp = false → Reported Event.WLINK_RETURN_LOST s.chip c)))
    ∧ (∀ ph, (wlRuns s.chip p = true ∨ wlState s.chip p = 4) → Completes (.wlDown p ph) s (fun c =>
        wlState c p = 0 ∧ Reported Event.WLINK_WL_DOWN s.chip c ∧ c.wls = s.chip.wls))

/-! ### Capture and the sync bus -/

/-- Capture sets: the sweep writes a RAW frame of the previous tick, or drops it where a stream's ring has no room; a live set that takes a cause of that
tick opens its record; REARM ends, an overflow stops the set, and a drained stream is idle. -/
def Obligations.CaptureRecordsFrames : Prop :=
  ∀ (s : State) (n : Fin 16), s.Live →
    let x := s.chip.cap n
    let frame := s.chip.boardTick
    let b := s.chip.beat - 1
    let bytes := (rawBytes s.chip n frame).length
    (capGoverns x b = false → Completes .boardSweep s (fun c => c.cap n = { x with wrote := false }))
    ∧ (capGoverns x b = true → capRed s.chip.mem n = 0 → x.gap = none →
        (capStream s.chip.mem n = true → x.total + bytes - x.sent ≤ capSize s.chip.mem n) → Completes .boardSweep s (fun c =>
          (c.cap n).wrote = true ∧ (c.cap n).total = x.total + bytes ∧ (c.cap n).base = frame ∧ (c.cap n).mode = x.mode))
    ∧ (capGoverns x b = true → capRed s.chip.mem n = 0 → x.gap = none → capStream s.chip.mem n = true →
        capSize s.chip.mem n < x.total + bytes - x.sent → Completes .boardSweep s (fun c => c.cap n = { x with ovf := some frame, wrote := false }))
    ∧ (∀ edges, Completes (.triggerJudgement edges) s (fun c => c.causes = s.chip.causes.filter (fun k => decide (b < k.beat)) ∧ c.phase = 625
        ∧ c.lastFrame = s.chip.settled ∧ c.ring.dataSeq = s.chip.ring.nextSeq))
    ∧ (∀ edges k, x.mode = .armed → x.ovf = none → x.firstAt ≤ b → x.early = none → x.wrote = false → x.disarm = none →
        k ∈ s.chip.causes → k.beat = b → causeTaken s.chip.mem n k = true → Completes (.triggerJudgement edges) s (fun c =>
          (c.cap n).mode = .post ∧ ∃ r, (c.cap n).opn = some r ∧ r.tick = frame ∧ r.mask.testBit k.bit = true ∧ r.phase ≤ k.phase))
    ∧ (x.mode = .rearm → x.rearmTo < s.chip.beat → Completes (.rearmEnd n) s (fun c => c.cap n = { x with mode := .armed }))
    ∧ (∀ ph, capLive x = true → Completes (.capOverflow ⟨n, ph⟩) s (fun c =>
        (c.cap n).mode = .stopped ∧ (c.cap n).ovf = none ∧ Reported Event.CAPTURE_CAP_OVERFLOW s.chip c
          ∧ (c.cap n).ovfTick = x.ovf.getD frame % 2 ^ 32))
    ∧ (x.drain = true → x.disarm = none → x.sent = x.total → Completes (.streamDrained n) s (fun c => c.cap n = { x with mode := .idle, drain := false }))

/-- The sync bus: a burst becomes a trigger cause, at its sender's delay where parity, framing and the delay are good and else as a collision; lock to
SYNC_REF is shown; the eighth ping round ends the ping. -/
def Obligations.SyncBusEvents : Prop :=
  ∀ (s : State) (ph : Nat), s.Live →
    (∀ (line : Fin 8) (unit ns : Nat) (ok : Bool), Completes (.tbBurst line unit ok ns) s (fun c => ∃ k : Cause,
      c.causes = s.chip.causes ++ [k] ∧ k.bit = 4 + line.val ∧ k.sel = unit ∧ (k.beat = s.chip.beat ∨ k.beat = s.chip.beat + 1)
        ∧ (k.coll = false ↔ ok = true ∧ (tbDelay s.chip unit).isSome = true)
        ∧ (k.coll = true → Reported Event.CAPTURE_TB_COLLISION s.chip c
            ∧ rdN c Reg.CAPTURE_TB_COLL_COUNT = satInc 32 (rdN s.chip Reg.CAPTURE_TB_COLL_COUNT))))
    ∧ (rdB s.chip Reg.CAPTURE_SYNC_CTL 5 = false → rdB s.chip Reg.CAPTURE_SYNC_CTL 6 = true →
        Completes (.syncLost ph) s (fun c => rdB c Reg.CAPTURE_SYNC_STAT 0 = false ∧ Reported Event.CAPTURE_SYNC_LOST s.chip c)
        ∧ Completes (.refLocked ph) s (fun c => rdB c Reg.CAPTURE_SYNC_STAT 0 = true))
    ∧ (∀ answers, s.chip.ping.due = true → s.chip.ping.start + 100000000 * s.chip.ping.rounds ≤ busTime (atPhase ph s.chip) → s.chip.ping.rounds < 7 → Completes (.pingRound ⟨answers, ph⟩) s (fun c =>
        c.ping.rounds = s.chip.ping.rounds + 1 ∧ c.ping.due = true ∧ c.emitted = [.ping s.chip.ping.rounds] ∧ c.mem = s.chip.mem))
    ∧ (∀ answers, s.chip.ping.due = true → s.chip.ping.start + 100000000 * s.chip.ping.rounds ≤ busTime (atPhase ph s.chip) → 7 ≤ s.chip.ping.rounds → Completes (.pingRound ⟨answers, ph⟩) s (fun c =>
        c.ping = {} ∧ c.emitted = [.ping s.chip.ping.rounds] ∧ rdB c Reg.CAPTURE_SYNC_STAT 2 = false ∧ Reported Event.CAPTURE_PING_DONE s.chip c))

/-! ### The event ring, the recorder and the in-service test -/

/-- R28, and R26, R27 and R29 in part: an enabled event sets its status bits and, with nothing queued, enters the ring with the next sequence number,
where it overwrites the oldest of 4096 entries; a consumer that is 4096 entries behind loses the oldest one it has not read, which its loss counter counts.
A disabled event does nothing. The arbiter grants control before management before data, and round robin within a class. -/
def Obligations.RaisedEventsEnterTheRing : Prop :=
  (∀ (c : Chip) (d : EvDef) (req inst phase : Nat) (ps : List Nat), evEnabled c d = false → raiseVia d req inst phase ps c = drainRing c)
    ∧ (∀ (c : Chip) (p : Page) (d : EvDef) (req inst phase : Nat) (ps : List Nat), d ∈ Event.ofPage p → req < 42 → evEnabled c d = true → c.ring.queues = [] →
      let t := raiseVia d req inst phase ps c
      t.ring.entries = (if c.ring.entries.length = 4096 then c.ring.entries.drop 1 else c.ring.entries)
          ++ [{ mkEntry d req inst c.tick phase ps with seq := c.ring.nextSeq % 0x100000000 }]
        ∧ t.ring.nextSeq = c.ring.nextSeq + 1 ∧ t.ring.queues = [] ∧ t.ring.lost = c.ring.lost
        ∧ rdB t (pageBase d.page + Reg.HDR_EVT_STAT) d.bit = true
        ∧ (∀ b, d.fault = some b → rdB t (pageBase d.page + Reg.HDR_FAULT_STAT) b = true)
        ∧ (c.ring.nextSeq - c.ring.mgmtSeq = 4096 → t.ring.mgmtSeq = c.ring.mgmtSeq + 1
            ∧ rdN t Reg.SYS_RING_LOSS_MGMT = satInc 32 (rdN c Reg.SYS_RING_LOSS_MGMT))
        ∧ (c.ring.nextSeq - c.ring.mgmtSeq ≠ 4096 → t.ring.mgmtSeq = c.ring.mgmtSeq
            ∧ rdN t Reg.SYS_RING_LOSS_MGMT = rdN c Reg.SYS_RING_LOSS_MGMT)
        ∧ (c.ring.nextSeq - c.ring.dataSeq = 4096 → t.ring.dataSeq = c.ring.dataSeq + 1
            ∧ rdN t Reg.SYS_RING_LOSS_DATA = satInc 32 (rdN c Reg.SYS_RING_LOSS_DATA))
        ∧ (c.ring.nextSeq - c.ring.dataSeq ≠ 4096 → t.ring.dataSeq = c.ring.dataSeq
            ∧ rdN t Reg.SYS_RING_LOSS_DATA = rdN c Reg.SYS_RING_LOSS_DATA)
        ∧ t.quiet = c.quiet ∧ Untouched (evRegs d.page) c t)
    ∧ (∀ (r : RingSt) (q k : Nat), ringGrant r = some (q, k) →
      q ∈ classMembers k ∧ tabGet (fun _ => []) r.queues q ≠ []
        ∧ (∀ j, j < k → ∀ m ∈ classMembers j, tabGet (fun _ => []) r.queues m = [])
        ∧ (∀ m ∈ classMembers k, tabGet (fun _ => 0) r.ptr k ≤ m → tabGet (fun _ => []) r.queues m ≠ [] → tabGet (fun _ => 0) r.ptr k ≤ q ∧ q ≤ m))

/-- The recorder: it counts each ring entry that it takes by its code and writes a record while its bucket has a token; 600 s of OP_SEC, a guard trip or a
fault start a flush, which empties the buffer or fails and is tried once more; it samples its enabled histograms on their ticks. -/
def Obligations.RecorderCountsAndFlushes : Prop :=
  ∀ s : State,
    Completes .opSec s (fun c => c.opSec = (s.chip.opSec + 1) % 2 ^ 40 ∧ c.health = s.chip.health)
    ∧ (s.Live →
      let h := s.chip.health
      let r := s.chip.ring
      let unread := r.entries.find? (fun e =>
        decide ((e.seq + 0x100000000 - r.mgmtSeq % 0x100000000) % 0x100000000 < r.nextSeq - r.mgmtSeq))
      (unread = none → Completes .eventTake s (fun c => c.quiet = s.chip.quiet ∧ c.mem = s.chip.mem))
      ∧ (∀ e, unread = some e →
          let cap := fld (bucketWord s.chip.mem e.code) 7 0
          let bucket := refill (bucketWord s.chip.mem e.code) (instant s.chip s.chip.tick s.chip.phase) (tabFind h.buckets e.code)
          Completes .eventTake s (fun c =>
            (codeOf c.health e.code).total = satInc 32 (codeOf h e.code).total ∧ (codeOf c.health e.code).last = s.chip.opSec
              ∧ (∀ k, k ≠ e.code → codeOf c.health k = codeOf h k)
              ∧ (cap = 0 → c.health.recs = h.recs)
              ∧ (cap ≠ 0 → 1 ≤ bucket.tokens → h.recs.length < bufRecords → ∃ x, c.health.recs = h.recs ++ [x] ∧ x.kind = 1 ∧ x.seq = h.nextSeq % 0x100000000
                  ∧ x.code = (e.code + 0x1000 * e.plane + 0x4000 * e.fault.toNat) % 0x10000 ∧ x.p0 = e.p0 ∧ x.tick = e.tick ∧ x.phase = e.phase)
              ∧ (e.code = Event.GUARD_GUARD_TRIP.code → h.lastFault = none → c.health.flushing = true)))
      ∧ (h.flushOp + 600 ≤ s.chip.opSec → Completes .flushInterval s (fun c => c.health.flushing = true ∧ c.health.recs = h.recs))
      ∧ (s.chip.opSec < h.flushOp + 600 → Completes .flushInterval s (fun c => c.quiet = s.chip.quiet ∧ c.mem = s.chip.mem))
      ∧ (∀ ph, h.flushing = true → h.again = 0 →
          Completes (.healthFlush true ph) s (fun c =>
            c.health.recs = [] ∧ c.health.flushing = false ∧ c.health.flushOp = s.chip.opSec ∧ Reported Event.HEALTH_HEALTH_FLUSH s.chip c
              ∧ (s.chip.restartReq = .flush → c.restartReq = .rim))
          ∧ Completes (.healthFlush false ph) s (fun c =>
            c.health.recs = h.recs ∧ c.health.flushing = false ∧ c.health.retryDue = !h.retried ∧ Reported Event.HEALTH_FLUSH_FAIL s.chip c
              ∧ c.restartReq = s.chip.restartReq))
      ∧ (∀ ph, h.retryDue = true → h.flushing = false → h.failAt + 250000000 ≤ instant s.chip s.chip.tick ph → Completes (.flushRetry ph) s (fun c =>
          c.health = { h with retryDue := false, flushing := true, retried := true }))
      ∧ (∀ ph, h.waitFault = true → (∀ t ∈ h.lastFault, t + 250000000 ≤ instant s.chip s.chip.tick ph) →
          Completes (.flushSpacing ph) s (fun c => c.health.waitFault = false ∧ c.health.flushing = true ∧ c.health.recs = h.recs))
      ∧ Completes .healthSample s (fun c => c.phase = 500 ∧ c.health.recs = h.recs ∧ ∀ i, i < 64 → rdB s.chip (histCfg i) 15 = true →
          s.chip.tick % 2 ^ rdF s.chip (histCfg i) 19 16 = 0 →
          let w := settledRd s.chip (rdF s.chip (histCfg i) 13 0)
          let b := histBin (rdI s.chip (histCfg i + 4)) (rdI s.chip (histCfg i + 8)) w.val.toInt
          (w.valid = true → tabGet (fun _ => 0) (histOf c.health i).bins b = satInc 32 (tabGet (fun _ => 0) (histOf h i).bins b)
              ∧ (histOf c.health i).inval = (histOf h i).inval)
            ∧ (w.valid = false → histOf c.health i = { histOf h i with inval := satInc 32 (histOf h i).inval })))

/-- The in-service test: a third mismatch of a lane in its window makes it retire; a recomputation by a spare, of the strand whose turn it is, is
charged to the lane that ran it; the scrubber
counts its passes; SRAM errors are counted and act on the memory where they lie; link errors above their limit are reported. -/
def Obligations.InServiceTestJudges : Prop :=
  ∀ s : State, s.Live →
    (∀ (pl : Fin 20) (n : Nat) (ok : Bool) (ph : Nat), checkOn s.chip 1 = true → s.chip.laneOut.contains pl.val = false → n ≠ 0 →
      Completes (.laneCheck pl n ⟨ok, ph⟩) s (fun c =>
        rdN c Reg.IST_LANE_CHECKS = min 0xFFFFFFFF (rdN s.chip Reg.IST_LANE_CHECKS + n)
          ∧ (ok = false → 2 ≤ (mismatchWindow s.chip (laneUnit pl)).length → (∃ d ∈ c.laneDue, d.1 = pl.val) ∧ Reported Event.IST_IST_PERMANENT s.chip c)
          ∧ (ok = false → (mismatchWindow s.chip (laneUnit pl)).length < 2 → c.laneDue = s.chip.laneDue ∧ tabFind c.retry (laneUnit pl) = some 1)
          ∧ (ok = true → c.laneDue = s.chip.laneDue
              ∧ (tabFind s.chip.retry (laneUnit pl) = some 1 → tabFind c.retry (laneUnit pl) = none ∧ Reported Event.IST_IST_TRANSIENT s.chip c))))
    ∧ (∀ (spare : Fin 20) (k pl ph : Nat), checkOn s.chip 2 = true → s.chip.spares.contains spare.val = true →
        tabGet (fun _ => 0) s.chip.testAt (256 + spare.val) ≤ s.chip.beat → sampleOf spare s.chip = some (k, pl) →
        tabFind s.chip.retry (laneUnit spare) ≠ some 1 →
      Completes (.recompute spare false ph) s (fun c =>
        rdN c Reg.IST_RECOMP_COUNT = satInc 32 (rdN s.chip Reg.IST_RECOMP_COUNT)
          ∧ (2 ≤ (mismatchWindow s.chip (laneUnit pl)).length → ∃ d ∈ c.laneDue, d.1 = pl)
          ∧ ((mismatchWindow s.chip (laneUnit pl)).length < 2 → c.laneDue = s.chip.laneDue ∧ tabFind c.retry (laneUnit pl) = some 2)))
    ∧ (∀ n ph, checkOn s.chip 3 = true →
      let ms := (instant s.chip s.chip.tick ph - s.chip.scrubAt) / 250000
      (s.chip.scrubPos + 4 * n < sramBytes → Completes (.scrub n ph) s (fun c => c.scrubPos = s.chip.scrubPos + 4 * n ∧ c.mem = s.chip.mem))
        ∧ (sramBytes ≤ s.chip.scrubPos + 4 * n → Completes (.scrub n ph) s (fun c =>
            c.scrubPos = 0 ∧ rdN c Reg.IST_SCRUB_COUNT = satInc 32 (rdN s.chip Reg.IST_SCRUB_COUNT) ∧ rdN c Reg.IST_SCRUB_PASS = min 0xFFFF ms
              ∧ (10000 < ms → Reported Event.IST_SCRUB_LATE s.chip c))))
    ∧ (∀ mem addr unit sub ph, Completes (.sramError mem addr unit sub true ph) s (fun c =>
        rdN c Reg.IST_CE_COUNT = satInc 32 (rdN s.chip Reg.IST_CE_COUNT) ∧ Reported Event.IST_MEM_CORRECTED s.chip c ∧ c.quiet = s.chip.quiet))
    ∧ (∀ mem addr unit sub ph, mem ∈ [4, 5, 6, 7, 8, 9, 11] → (mem = 6 → unit = s.chip.bankActive) → Completes (.sramError mem addr unit sub false ph) s (fun c =>
        rdN c Reg.IST_UE_COUNT = satInc 32 (rdN s.chip Reg.IST_UE_COUNT) ∧ Reported Event.IST_MEM_UE s.chip c
          ∧ (mem = 4 → unit ∈ c.badSteps) ∧ (mem = 5 → c.retValid = false) ∧ (mem = 6 → c.safeCause = some Event.IST_MEM_UE.code)
          ∧ (mem = 7 ∨ mem = 8 ∨ mem = 9 → (mem, unit) ∈ c.badMem) ∧ (mem = 9 → tabGet (fun _ => false) c.tripped unit = true)
          ∧ (mem = 11 → (settledRd c unit).valid = false)))
    ∧ (∀ counts ph, checkOn s.chip 7 = true → Completes (.linkCheck ⟨counts, ph⟩) s (fun c => c.quiet = { s.chip.quiet with linkErrs := [] }
        ∧ ((∃ k, k < 11 ∧ rdF s.chip Reg.IST_LINK_ERR_MAX 15 0 < counts.getD k 0 + tabGet (fun _ => 0) s.chip.linkErrs k) →
            Reported Event.IST_LINK_DEGRADED s.chip c)))

/-! ### Time and network -/

/-- The time base: a locked servo updates its integral and rate from an offset within the threshold and holds over on one beyond it; path delays are
filtered, and a fourth that agrees off the filtered value replaces it; an Announce selects a master, whose loss unlocks the servo; a timed-out port hands
over; an event message leaves with its time, or waits for the port's line. A clock that may be master and hears none becomes one (the model's choice,
log entry 36). -/
def Obligations.TimeFollowsItsMaster : Prop :=
  ∀ (s : State) (p : Fin 2) (ph : Nat), s.Live →
    let t := s.chip.time
    let x := ptpPort t p
    let up := ptpState s.chip p ≠ 0
    (∀ o : Int, ptpState s.chip p = 0 → Completes (.offsetMeasurement p o ph) s (fun c => c.quiet = s.chip.quiet ∧ c.mem = s.chip.mem))
    ∧ (∀ o : Int, up → (p.val ≠ t.port ∨ adjustsTime s.chip = false) → Completes (.offsetMeasurement p o ph) s (fun c =>
        c.time.state = t.state ∧ c.time.i = t.i ∧ c.time.rateNext = t.rateNext))
    ∧ (∀ o : Int, up → p.val = t.port → adjustsTime s.chip = true → t.state = .locked →
        let o' := trueOffset s.chip p o
        (o'.natAbs ≤ jumpThr s.chip → Completes (.offsetMeasurement p o ph) s (fun c => c.time.state = .locked
            ∧ (c.time.i, c.time.rateNext) = servo (rdF s.chip Reg.TIME_SERVO_CFG 19 16) (rdF s.chip Reg.TIME_SERVO_CFG 23 20) t.i o'))
          ∧ (jumpThr s.chip < o'.natAbs → Completes (.offsetMeasurement p o ph) s (fun c =>
            c.time.state = .holdover ∧ c.time.i = t.i ∧ c.time.rateNext = -(roundDiv t.i 65536) ∧ Reported Event.TIME_OFFSET_JUMP s.chip c
              ∧ rdN c Reg.TIME_REFUSED_COUNT = satInc 32 (rdN s.chip Reg.TIME_REFUSED_COUNT))))
    ∧ (∀ d : Int, up →
        let thr : Int := 65536 * (rdF s.chip Reg.TIME_PATH_CFG 15 0 : Nat)
        let d' := trueDelay s.chip p d
        (x.mpd = none → Completes (.pathDelayMeasurement p d ph) s (fun c => (ptpPort c.time p).mpd = some d'))
          ∧ (∀ f, x.mpd = some f → (d' - f).natAbs ≤ thr.natAbs → Completes (.pathDelayMeasurement p d ph) s (fun c =>
            (ptpPort c.time p).mpd = some (f + (d' - f) / (2 ^ rdF s.chip Reg.TIME_PATH_CFG 19 16 : Nat))))
          ∧ (∀ f, x.mpd = some f → thr.natAbs < (d' - f).natAbs → (∀ y ∈ x.pathNew, (y - d').natAbs ≤ thr.natAbs) →
            Completes (.pathDelayMeasurement p d ph) s (fun c =>
              (ptpPort c.time p).mpd = some (if 3 ≤ x.pathNew.length then d' else f)
                ∧ (x.pathEp = false → Reported Event.TIME_PATH_CHANGE s.chip c))))
    ∧ (∀ a : Announce, (ptpState s.chip p = 0 ∨ a.domain ≠ rdF s.chip Reg.TIME_PTP_CFG 6 0) → Completes (.announce p a ph) s (fun c =>
        c.quiet = s.chip.quiet ∧ c.mem = s.chip.mem))
    ∧ (∀ a : Announce, up → a.domain = rdF s.chip Reg.TIME_PTP_CFG 6 0 → rdB s.chip Reg.TIME_PTP_CFG 10 = true → Completes (.announce p a ph) s (fun c =>
        (ptpPort c.time p).best.isSome = true
          ∧ ∃ m, c.time.master = some m ∧ ((ptpPort c.time 0).best = some m ∨ (ptpPort c.time 1).best = some m)
            ∧ ∀ o, t.master = some o → o.gmId ≠ m.gmId → Reported Event.TIME_GM_CHANGE s.chip c))
    ∧ (t.master = none → (rdB s.chip Reg.TIME_PTP_CFG 10 = true ∨ adjustsTime s.chip = false) → Completes (.masterLost ph) s (fun c =>
        c.quiet = s.chip.quiet ∧ c.mem = s.chip.mem))
    ∧ (rdB s.chip Reg.TIME_PTP_CFG 10 = false → adjustsTime s.chip = true → Completes (.masterLost ph) s (fun c =>
        c.time.master = none ∧ ∀ q, q < 2 → ptpState c q = if ptpState s.chip q = 0 then 0 else 4))
    ∧ (t.master.isSome = true → Completes (.masterLost ph) s (fun c =>
        c.time.master = none ∧ Reported Event.TIME_MASTER_LOST s.chip c
          ∧ (t.state = .locked → c.time.state = .holdover ∧ c.time.i = t.i ∧ c.time.rateNext = -(roundDiv t.i 65536))
          ∧ (t.state = .locking → c.time.state = .free ∧ c.time.i = 0 ∧ c.time.step = none)))
    ∧ Completes (.syncReceiptTimeout p ph) s (fun c =>
        (ptpPort c.time p).usable = false
          ∧ (p.val = t.port → (ptpPort t (1 - p.val)).usable = true → c.time.port = 1 - p.val ∧ Reported Event.TIME_PORT_SWITCH s.chip c)
          ∧ ((p.val ≠ t.port ∨ (ptpPort t (1 - p.val)).usable = false) → c.time.port = t.port))
    ∧ (∀ k corr turn, up → macSet s.chip = true → (k = .sync → ptpState s.chip p = 4) →
        let line := ptpLine s.chip k
        Completes (.ptpTransmit p k corr turn ph) s (fun c =>
          ((∃ sec ns cf, .ptp p k sec ns cf ∈ c.emitted) ∨ ⟨0, line, ph, .ptp k corr turn⟩ ∈ (c.tx p).wait)
            ∧ ((∀ q, q < 2 → (s.chip.tx q).wait = []) → (s.chip.tx p).free ≤ ph → txStart s.chip ph line = ph →
              (c.tx p).wait = [] ∧ (c.tx p).free = ph + 2 * line ∧ Untouched [(Reg.NET_HTX_STAT, 4)] s.chip c
                ∧ (k = .pdelayResp → c.emitted = [.ptp p k 0 0 (corr + turn * 65536)])
                ∧ (k ≠ .pdelayResp → ∃ sec ns cf, c.emitted = [.ptp p k sec ns cf] ∧ ns < 1000000000))))
    ∧ (∀ k corr turn, (ptpState s.chip p = 0 ∨ macSet s.chip = false ∨ (k = .sync ∧ ptpState s.chip p ≠ 4)) → Completes (.ptpTransmit p k corr turn ph) s
        (fun c => c.emitted = [] ∧ c.mem = s.chip.mem))

/-- The network ports: frames in error and frames seen before are counted and a new one is remembered; a supervision frame takes the next number,
no sooner than its interval after the one before; links drop
and come up; host frames queue up to 32; a fresh signal frame is kept for its group's rim and any other is dropped; three misses lose a group. -/
def Obligations.NetworkReceivesAndJudges : Prop :=
  ∀ (s : State) (p : Fin 2) (ph : Nat), s.Live →
    let now := nowMs (atPhase ph s.chip)
    let prp := s.chip.net.prp.filter (fun e => decide (now ≤ e.ms + rdF s.chip Reg.NET_NET_CFG 31 16))
    let known (src seq : Nat) : Prop := ∃ e ∈ prp, e.src = src ∧ e.seq = seq
    (∀ src rct, Completes (.prpReceive p src true rct ph) s (fun c =>
        rdN c (Reg.NET_NETp_ERR + 4 * p) = satInc 32 (rdN s.chip (Reg.NET_NETp_ERR + 4 * p)) ∧ c.net = s.chip.net))
    ∧ (rdB s.chip Reg.NET_NET_CFG 2 = true →
        (∀ src, Completes (.prpReceive p src false none ph) s (fun c =>
            rdN c Reg.NET_SOLO_COUNT = satInc 32 (rdN s.chip Reg.NET_SOLO_COUNT) ∧ c.net = s.chip.net))
        ∧ (∀ src lan seq, known src seq → Completes (.prpReceive p src false (some (lan, seq)) ph) s (fun c =>
            c.net.prp = prp ∧ rdN c Reg.NET_DUP_COUNT = satInc 32 (rdN s.chip Reg.NET_DUP_COUNT)))
        ∧ (∀ src lan seq, ¬ known src seq → Completes (.prpReceive p src false (some (lan, seq)) ph) s (fun c =>
            c.net.prp = (if prp.length < 1024 then prp else prp.drop 1) ++ [⟨src, seq, now⟩]
              ∧ (lan ≠ 10 + p.val → rdN c Reg.NET_WRONG_LAN_COUNT = satInc 32 (rdN s.chip Reg.NET_WRONG_LAN_COUNT)
                ∧ ((if p.val = 0 then s.chip.net.wrong0 else s.chip.net.wrong1) = false → Reported Event.NET_PRP_WRONG_LAN s.chip c))))
        ∧ (∀ q ∈ portsUp s.chip, macSet s.chip = true →
            (∀ t ∈ s.chip.net.supAt, t + 250000 * rdF s.chip Reg.NET_PRP_CFG 15 0 ≤ instant s.chip s.chip.tick ph) →
            Completes (.prpSupervision ph) s (fun c =>
              ((∃ t, .supervision q t s.chip.net.rct ∈ c.emitted) ∨ ⟨3, 84, ph, .supervision s.chip.net.rct⟩ ∈ (c.tx q).wait)
                ∧ c.net.rct = (s.chip.net.rct + 1) % 0x10000 ∧ c.net.supAt = some (instant s.chip s.chip.tick ph)))
        ∧ (∀ t ∈ s.chip.net.supAt, instant s.chip s.chip.tick ph < t + 250000 * rdF s.chip Reg.NET_PRP_CFG 15 0 →
            Completes (.prpSupervision ph) s (fun c => c.quiet = s.chip.quiet ∧ c.mem = s.chip.mem)))
    ∧ (rdB s.chip Reg.NET_NET_CFG 2 = false →
        (∀ src rct, Completes (.prpReceive p src false rct ph) s (fun c => c.quiet = s.chip.quiet ∧ c.mem = s.chip.mem))
        ∧ Completes (.prpSupervision ph) s (fun c => c.emitted = [] ∧ c.mem = s.chip.mem))
    ∧ (rdB s.chip Reg.NET_LINK_STAT p = true →
        Completes (.netLinkDown p ph) s (fun c => rdB c Reg.NET_LINK_STAT p = false ∧ ptpState c p = 0 ∧ (c.tx p).wait = []
          ∧ Reported Event.NET_NET_LINK_DOWN s.chip c)
        ∧ Completes (.netLinkUp p ph) s (fun c => c.quiet = s.chip.quiet ∧ c.mem = s.chip.mem))
    ∧ (rdB s.chip Reg.NET_LINK_STAT p = false →
        Completes (.netLinkUp p ph) s (fun c => rdB c Reg.NET_LINK_STAT p = true ∧ Reported Event.NET_NET_LINK_UP s.chip c)
        ∧ Completes (.netLinkDown p ph) s (fun c => c.quiet = s.chip.quiet ∧ c.mem = s.chip.mem))
    ∧ (∀ bytes : List Byte,
        let dst := (bytes.take 6).foldl (fun n b => n * 256 + b.toNat) 0
        let mine := dst = macValue s.chip ∨ dst.testBit 40 = true
        (mine → bytes.length ≤ 1522 → s.chip.net.hrx.length < 32 → Completes (.hostFrameRx p bytes ph) s (fun c =>
            c.net.hrx = s.chip.net.hrx ++ [⟨bytes, p, ts32 (atPhase ph s.chip)⟩] ∧ c.net.hrxEp = false))
          ∧ (mine → bytes.length ≤ 1522 → 32 ≤ s.chip.net.hrx.length → Completes (.hostFrameRx p bytes ph) s (fun c =>
            c.net.hrx = s.chip.net.hrx ∧ (s.chip.net.hrxEp = false → Reported Event.NET_HRX_OVERFLOW s.chip c)))
          ∧ (¬ mine → Completes (.hostFrameRx p bytes ph) s (fun c => c.quiet = s.chip.quiet ∧ c.mem = s.chip.mem)))
    ∧ (∀ (f : SignalFrame) (h : Fin 16), f.ver = 2 → sgOn s.chip.mem h = true → rdF s.chip (sg h + 4) 15 0 = f.stream → rdB s.chip (sg h) 1 = false →
        rdB s.chip (sg h) 2 = false →
        (f.seq = s.chip.tick → ph < rimPhase s.chip → f.period = tickN s.chip → f.words.length = rdF s.chip (sg h + 16) 24 16 →
            rdF s.chip (sg h + 20) 15 0 ≤ f.epoch → (s.chip.sub h).kept = none → Completes (.signalFrameRx f ph) s (fun c =>
              (∃ ws, (c.sub h).kept = some (f.epoch, ws) ∧ ws.map (·.1) = f.words) ∧ rdB c Reg.NET_SUB_LOST_MAP h = false
                ∧ (rdB s.chip Reg.NET_SUB_LOST_MAP h = true → Reported Event.NET_SUB_REGAINED s.chip c)))
          ∧ ((f.seq ≠ s.chip.tick ∨ rimPhase s.chip ≤ ph) → Completes (.signalFrameRx f ph) s (fun c => c.sub h = s.chip.sub h)))
    ∧ (∀ h : Fin 16, sgOn s.chip.mem h = true → 3 ≤ (s.chip.sub h).miss → rdB s.chip Reg.NET_SUB_LOST_MAP h = false →
        Completes (.subLost ⟨h, ph⟩) s (fun c => rdB c Reg.NET_SUB_LOST_MAP h = true ∧ Reported Event.NET_SUB_LOST s.chip c ∧ c.quiet = s.chip.quiet))
    ∧ (∀ h : Fin 16, (s.chip.sub h).miss < 3 → Completes (.subLost ⟨h, ph⟩) s (fun c => c.quiet = s.chip.quiet ∧ c.mem = s.chip.mem))

/-! ### The pair -/

/-- The paths between the units: a unit of a pair sends its glint and, where it may, its witness; a lost path is remembered and reported, and with both lost
an owner gives its partner up; a witness that claims the outputs with a higher epoch makes an owner yield; the parts of the mirror image act at a shadow. -/
def Obligations.PairPathsAndMirror : Prop :=
  ∀ (s : State) (ph : Nat), s.Live →
    let same (c : Chip) : Prop := c.quiet = s.chip.quiet ∧ c.mem = s.chip.mem
    let t := s.chip.twin
    let role := roleCode s.chip
    let beat := secondCycles (atPhase ph s.chip) % 500 = 0
    (pairEn s.chip = true → 1 ≤ role → role ≤ 4 → beat → Completes (.glintPulse ph) s (fun c => c.emitted = [.glint] ∧ c.mem = s.chip.mem))
    ∧ ((pairEn s.chip = false ∨ role = 0 ∨ 4 < role ∨ ¬ beat) → Completes (.glintPulse ph) s (fun c => c.emitted = [] ∧ c.mem = s.chip.mem))
    ∧ (∀ k x, pairEn s.chip = true → glintIn s.chip = true → Completes (.glintLost k x ph) s (fun c =>
        glintIn c = false ∧ c.twin.lastEdge = some (instant s.chip k x)
          ∧ rdF c Reg.TWIN_GLINT_STAT 31 16 = min 0xFFFF (rdF s.chip Reg.TWIN_GLINT_STAT 31 16 + 3)
          ∧ (linkUp s.chip = true → t.glintEp = false → Reported Event.TWIN_GLINT_FAULT s.chip c)
          ∧ (linkUp s.chip = false → ownsOutputs s.chip = true → partnerRole s.chip ≠ 6 → Reported Event.TWIN_PARTNER_LOST s.chip c ∧ partnerRole c = 6)
          ∧ (linkUp s.chip = false → role = 1 → t.firstCopy = false → t.searching = false → c.twin.due = some (0, 14, 0))))
    ∧ (∀ k x, (pairEn s.chip = false ∨ glintIn s.chip = false) → Completes (.glintLost k x ph) s same)
    ∧ (∀ k x, pairEn s.chip = true → Completes (.glintPresent k x) s (fun c =>
        glintIn c = true ∧ c.twin = { t with glintEp := false, lastEdge := some (instant s.chip k x) }
          ∧ (∀ e, t.lastEdge = some e → glintIn s.chip = true → rdF c Reg.TWIN_GLINT_STAT 31 16
              = min 0xFFFF (rdF s.chip Reg.TWIN_GLINT_STAT 31 16 + ((instant s.chip k x - e + 250) / 500 - 1)))))
    ∧ (pairEn s.chip = true → linkUp s.chip = true → (role ≠ 2 ∨ t.awaiting = []) → Completes (.twinLinkLost ph) s (fun c =>
        linkUp c = false ∧ Reported Event.TWIN_TWIN_LINK_DOWN s.chip c
          ∧ (role = 3 → glintIn s.chip = true → c.twin.due = some (4, 8, 0))
          ∧ (role = 2 → partnerRole s.chip = 3 → glintIn s.chip = true → partnerRole c = 4 ∧ inSync c = false)))
    ∧ (∀ i, pairEn s.chip = true → Completes (.twinLinkLock i ph) s (fun c =>
        linkUp c = true ∧ c.twin.peer = some i
          ∧ (role = 4 → c.twin.due = some (1, 10, 0) ∧ partnerRole c = i.role % 8 ∧ c.twin.firstCopy = false)
          ∧ (role = 0 → i.role = 1 → c.twin.due = some (2, 4, 0) ∧ partnerRole c = 1)
          ∧ (role = 1 → i.role = 1 → strapB s.chip = false → c.twin.due = some (2, 2, 0) ∧ partnerRole c = 1 ∧ c.twin.searching = false)
          ∧ (role = 1 → (i.role = 0 ∨ i.role = 2 ∨ (i.role = 1 ∧ strapB s.chip = true)) →
              partnerRole c = i.role ∧ c.twin.firstCopy = false ∧ c.twin.searching = false
                ∧ (i.equal = false → mayMigrate s.chip i = false → c.twin.due = some (5, 12, 5)))))
    ∧ (∀ i, pairEn s.chip = false → Completes (.twinLinkLock i ph) s same)
    ∧ (pairEn s.chip = true → rdB s.chip Reg.TWIN_TWIN_CFG 1 = true → role ≠ 5 → macSet s.chip = true → netUp s.chip = true → Completes .witnessSend s (fun c =>
        c.phase = 50 ∧ ∃ edge rct,
          let f : WitnessMsg := ⟨1, role, strapB s.chip, glintIn s.chip, linkUp s.chip, decide (s.chip.dev = .safeIdle),
            ownsOutputs s.chip, rdF s.chip Reg.TWIN_TWIN_CFG 31 16, s.chip.tick, epochOf s.chip, edge⟩
          let dst := rdF s.chip (Reg.TWIN_PARTNER_MAC + 4) 15 0 * 0x100000000 + rdF s.chip Reg.TWIN_PARTNER_MAC 31 0
          (rct.isSome = rdB s.chip Reg.NET_NET_CFG 2)
            ∧ ∀ q ∈ portsUp s.chip, (∃ at', .witness q at' dst f rct ∈ c.emitted) ∨ ⟨1, 90, 50, .witness dst f rct⟩ ∈ (c.tx q).wait))
    ∧ ((rdB s.chip Reg.TWIN_TWIN_CFG 1 = false ∨ role = 5) → Completes .witnessSend s (fun c => c.emitted = [] ∧ same c))
    ∧ (∀ f : WitnessMsg, (pairEn s.chip = false ∨ f.ver ≠ 1 ∨ f.pairId ≠ rdF s.chip Reg.TWIN_TWIN_CFG 31 16) → Completes (.witnessFrame f ph) s same)
    ∧ (∀ f : WitnessMsg, pairEn s.chip = true → f.ver = 1 → f.pairId = rdF s.chip Reg.TWIN_TWIN_CFG 31 16 → Completes (.witnessFrame f ph) s (fun c =>
        let yields := f.owner = true ∧ (epochHigher f.epoch (epochOf s.chip) = true ∨ (f.epoch = epochOf s.chip ∧ strapB s.chip = true))
        c.twin.lastWit = some f.seq ∧ partnerRole c = f.role % 8
          ∧ (ownsOutputs s.chip = true → yields → roleCode c = 5 ∧ c.outEn = false ∧ Reported Event.TWIN_DUAL_OWNER s.chip c)
          ∧ ((ownsOutputs s.chip = false ∨ ¬ yields) → roleCode c = role ∧ c.outEn = s.chip.outEn)))
    ∧ (pairEn s.chip = true → rdB s.chip Reg.TWIN_TWIN_CFG 1 = true → 4 ≤ t.witMiss → t.witEp = false → Completes (.witnessLost ph) s (fun c =>
        c.twin = { t with witEp := true } ∧ Reported Event.TWIN_WITNESS_LOST s.chip c))
    ∧ (t.witMiss < 4 → Completes (.witnessLost ph) s same)
    ∧ (∀ part, (linkUp s.chip = false ∨ (role ≠ 3 ∧ role ≠ 1)) → Completes (.mirrorPart part ph) s (fun c =>
        c.quiet = s.chip.quiet ∧ Untouched [secRegs] s.chip c))
    ∧ (∀ d, linkUp s.chip = true → role = 3 → t.due = none → Completes (.mirrorPart (.digest d) ph) s (fun c =>
        (d = ownDigest s.chip → inSync c = true ∧ c.twin.due = none)
          ∧ (d ≠ ownDigest s.chip → inSync c = false ∧ Reported Event.TWIN_DIGEST_MISMATCH s.chip c
              ∧ rdN c Reg.TWIN_RESYNC_COUNT = satInc 32 (rdN s.chip Reg.TWIN_RESYNC_COUNT)
              ∧ c.twin.due = some (if 2 ≤ (t.mism.filter (fun k => decide (s.chip.opSec ≤ k + 600))).length then (5, 12, 1) else (1, 9, 0)))))
    ∧ (∀ words run ts offs, linkUp s.chip = true → role = 3 → Completes (.mirrorPart (.inputs words run ts offs) ph) s (fun c =>
        c.twin.devNext = some run ∧ rdF c Reg.TIME_TIME_STAT 1 0 = ts % 4 ∧ c.twin.gotI = true
          ∧ (offs.Pairwise (fun x y => x.1 ≠ y.1) → ∀ e ∈ offs, (c.ax e.1).offs = e.2)
          ∧ (625 < ph → t.due = none → inSync c = false ∧ c.twin.due = some (1, 9, 0) ∧ Reported Event.TWIN_DIGEST_MISMATCH s.chip c)
          ∧ ((ph ≤ 625 ∨ t.due ≠ none) → c.twin.due = t.due)))
    ∧ (∀ sig, 64 ≤ tabGet (fun _ => 0) t.xchk sig → tabGet (fun _ => false) t.xchkEp sig = false → Completes (.xcheckDiff sig) s (fun c =>
        tabGet (fun _ => false) c.twin.xchkEp sig = true ∧ Reported Event.TWIN_XCHECK_DIFF s.chip c))
    ∧ (∀ sig, tabGet (fun _ => 0) t.xchk sig < 64 → Completes (.xcheckDiff sig) s same)

/-- Ownership moves: a shadow that sees no veto takes over at the decision instant, one that does not see its owner in any way takes over degraded, an agreed
hand-over or swap exchanges the roles, each with the next epoch; a join ends in SHADOW at the first equal digest. -/
def Obligations.OwnershipMoves : Prop :=
  ∀ (s : State) (ph : Nat), s.Live →
    let same (c : Chip) : Prop := c.quiet = s.chip.quiet ∧ c.mem = s.chip.mem
    let t := s.chip.twin
    let role := roleCode s.chip
    let next := (epochOf s.chip + 1) % 0x10000
    let alone := glintIn s.chip = false ∧ linkUp s.chip = false
    (role = 3 → alone → vetoes s.chip = false → Completes (.takeover ph) s (fun c =>
        roleCode c = 2 ∧ partnerRole c = 6 ∧ c.outEn = true ∧ epochOf c = next ∧ Reported Event.TWIN_TAKEOVER s.chip c
          ∧ rdN c Reg.TWIN_TAKEOVER_COUNT = satInc 32 (rdN s.chip Reg.TWIN_TAKEOVER_COUNT)
          ∧ c.time.rateNext = rateNow s.chip ∧ c.time.i = rateNow s.chip * 65536))
    ∧ (role = 3 → alone → vetoes s.chip = true → t.vetoed = false → Completes (.takeover ph) s (fun c =>
        c.twin = { t with vetoed := true, due := some (4, 8, 0) } ∧ Reported Event.TWIN_WITNESS_VETO s.chip c ∧ c.outEn = s.chip.outEn))
    ∧ ((role ≠ 3 ∨ ¬ alone) → Completes (.takeover ph) s same)
    ∧ (∀ outs, (role = 4 ∨ (role = 1 ∧ t.firstCopy = true)) → alone → (vetoes s.chip = false ∨ 3 ≤ t.witMiss) → Completes (.degradedTakeover outs ph) s (fun c =>
        roleCode c = 2 ∧ partnerRole c = 6 ∧ c.outEn = true ∧ epochOf c = next ∧ Reported Event.TWIN_TAKEOVER s.chip c))
    ∧ (∀ outs, (¬ alone ∨ (role ≠ 4 ∧ role ≠ 1)) → Completes (.degradedTakeover outs ph) s same)
    ∧ (∀ sent, role = 3 → linkUp s.chip = true → Completes (.handoff sent) s (fun c =>
        c.twin = { t with handDue := some (instant s.chip s.chip.tick sent + 500) } ∧ c.mem = s.chip.mem))
    ∧ (∀ sent, (role ≠ 3 ∨ linkUp s.chip = false) → Completes (.handoff sent) s same)
    ∧ (∀ d, t.handDue = some d → d ≤ nowAt (atPhase (pOutPhase s.chip) s.chip) →
        (role = 3 → Completes .handoffSwitch s (fun c =>
          roleCode c = 2 ∧ c.outEn = true ∧ epochOf c = next ∧ c.twin.handDue = none ∧ partnerRole c = (if inMigration s.chip then 3 else 5)))
        ∧ (role = 2 → t.handBack = false → Completes .handoffSwitch s (fun c =>
          roleCode c = 5 ∧ c.outEn = false ∧ c.twin.handDue = none ∧ partnerRole c = 2))
        ∧ (role = 2 → t.handBack = true → Completes .handoffSwitch s (fun c =>
          roleCode c = 3 ∧ c.outEn = false ∧ c.twin.handDue = none ∧ epochOf c = next ∧ partnerRole c = 2)))
    ∧ (t.handDue = none → Completes .handoffSwitch s same)
    ∧ (rdB s.chip Reg.TWIN_TWIN_CFG 2 = true → strapB s.chip = true → hasShadow s.chip = true → inSync s.chip = true →
        rdF s.chip Reg.TWIN_FB_HOLD 11 0 * rdF s.chip Reg.TICK_TICKS_PER_SEC 16 0 ≤ t.syncTicks →
        (inMigration s.chip = false → Completes .failbackRequest s (fun c => c.twin = { t with swapReq := true } ∧ c.mem = s.chip.mem))
          ∧ (inMigration s.chip = true → Completes .failbackRequest s same))
    ∧ (quietPoint s.chip = true → linkUp s.chip = true →
        (hasShadow s.chip = true → t.swapReq = true → Completes .failback s (fun c =>
          roleCode c = 3 ∧ partnerRole c = 2 ∧ epochOf c = next ∧ c.twin.swapReq = false ∧ Reported Event.TWIN_FAILBACK s.chip c))
        ∧ (role = 3 → inSync s.chip = true → Completes .failback s (fun c =>
          roleCode c = 2 ∧ partnerRole c = 3 ∧ epochOf c = next ∧ Reported Event.TWIN_FAILBACK s.chip c)))
    ∧ (quietPoint s.chip = false → Completes .failback s same)
    ∧ (∀ d, role = 1 → t.firstCopy = true → linkUp s.chip = true →
        (d = ownDigest s.chip → Completes (.joinComplete d) s (fun c => roleCode c = 3 ∧ inSync c = true))
          ∧ (d ≠ ownDigest s.chip → Completes (.joinComplete d) s same))
    ∧ (∀ d, role = 2 → partnerRole s.chip = 1 → Completes (.joinComplete d) s (fun c => roleCode c = 2 ∧ partnerRole c = 3 ∧ inSync c = true))
    ∧ (role = 1 → linkUp s.chip = true → t.joinAt + 250000000 ≤ nowAt (atPhase ph s.chip) → Completes (.joinSlow ph) s (fun c =>
        c.twin = { t with firstCopy := false, joinAt := nowAt (atPhase ph s.chip) } ∧ Reported Event.TWIN_JOIN_SLOW s.chip c))
    ∧ (role ≠ 1 → Completes (.joinSlow ph) s same)
    ∧ ((role ≠ 1 ∨ pairEn s.chip = false ∨ t.searching = false) → ∀ r, Completes (.joinWait r ph) s same)
    ∧ (role = 1 → pairEn s.chip = true → t.searching = true →
        let ended := t.joinAt + 2500000 * rdF s.chip Reg.TWIN_TWIN_CFG 15 8 ≤ nowAt (atPhase ph s.chip) ∧ alone
        (ended → t.lastWit = none →
          Completes (.joinWait .nothing ph) s (fun c => c.twin = { t with searching := false, due := some (0, 3, 0) } ∧ c.mem = s.chip.mem))
        ∧ (ended → t.lastWit ≠ none →
          Completes (.joinWait .witnessOnly ph) s (fun c => c.twin = { t with searching := false } ∧ Reported Event.TWIN_PAIR_WAIT s.chip c))
        ∧ (¬ ended → Completes (.joinWait .nothing ph) s same ∧ Completes (.joinWait .witnessOnly ph) s same)
        ∧ (linkUp s.chip = false → ∀ i, Completes (.joinWait (.joining i) ph) s same ∧ Completes (.joinWait (.owner i) ph) s same)
        ∧ (linkUp s.chip = true → ∀ i, strapB s.chip = false → Completes (.joinWait (.joining i) ph) s (fun c =>
            c.twin.due = some (2, 2, 0) ∧ partnerRole c = 1 ∧ c.twin.searching = false))
        ∧ (linkUp s.chip = true → ∀ i, i.equal = false → mayMigrate s.chip i = false → Completes (.joinWait (.owner i) ph) s (fun c =>
            c.twin.due = some (5, 12, 5) ∧ partnerRole c = i.role % 8 ∧ c.twin.peer = some i ∧ c.twin.searching = false)))
    ∧ (∀ e, t.watchEnd = some e → e ≤ s.chip.opSec → role = 2 → Completes .migDone s (fun c =>
        c.twin = { t with watchEnd := none } ∧ rdF c Reg.TWIN_MIG_STAT 2 0 = 4 ∧ Reported Event.TWIN_MIG_DONE s.chip c))
    ∧ ((t.watchEnd = none ∨ role ≠ 2) → Completes .migDone s same)

/-! ### Sealed packages -/

/-- Sealed packages: a LOAD is refused with the first reason met, or takes its operation, raises its kind's version counter and stores it; a supplement
applies chunk by chunk; an ANCHOR package rotates the anchors, a CERT stores certificates; sessions open on a good challenge and end in time; a quote is the
body with both signatures; APPLY reloads the configuration in SAFE_IDLE only. -/
def Obligations.PackagesSessionsAndQuotes : Prop :=
  ∀ (s : State) (ph : Nat), s.Live →
    let now := atPhase ph { s.chip with emitted := [] }
    let v := s.nv
    let sec := s.chip.sec
    let done (o : SecOp) : Option SecOp := some { o with stage := .done }
    let refused (reason : Nat) (c : Chip) : Prop := rdF c Reg.SEC_PKG_STAT 11 8 = reason ∧ Reported Event.SEC_PKG_REFUSED s.chip c
    (∀ (host : List Byte) (ok : Bool),
        let l := host.take (rdF s.chip Reg.SEC_PKG_LEN 24 0)
        (sec.op.isSome = true → Completes (.pkgLoad host ok ph) s (fun c => refused 9 c ∧ c.quiet = s.chip.quiet))
          ∧ (∀ r, sec.op = none → pkgReason v s.chip l ok = some r → ∃ t, exec (.pkgLoad host ok ph) s = .next t ∧ t.pending = s.pending
              ∧ refused (r % 16) t.chip ∧ t.chip.sec.op = none
              ∧ t.nv.fuses = v.fuses ∧ t.nv.versions = v.versions ∧ t.nv.identity = v.identity ∧ t.nv.newerB = v.newerB)
          ∧ (sec.op = none → pkgReason v s.chip l ok = none → ∃ t, exec (.pkgLoad host ok ph) s = .next t ∧ t.pending = s.pending
              ∧ (∃ o, t.chip.sec.op = some o ∧ o.kind = pkgKind l ∧ o.version = pkgVersion l ∧ o.payload = pkgPayload l)
              ∧ t.nv.fuses = v.fuses ∧ t.nv.identity = v.identity
              ∧ (kindListed (pkgKind l) = true → pkgVersion l ≤ tabGet (fun _ => 0) t.nv.versions (pkgKind l))
              ∧ (pkgKind l = 1 → (slotOf t.nv (!sec.inUseB)).base = some ⟨l, 2⟩ ∧ slotOf t.nv sec.inUseB = slotOf v sec.inUseB ∧ t.nv.newerB = !sec.inUseB)))
    ∧ (∀ o, sec.op = some o → o.stage = .done → Completes (.pkgLoaded ph) s (fun c => c.sec.op = none ∧ Reported Event.SEC_PKG_LOADED s.chip c))
    ∧ (sec.op = none → Completes (.pkgLoaded ph) s (fun c => c.quiet = s.chip.quiet)
        ∧ Completes (.supplementApply ph) s (fun c => c.quiet = s.chip.quiet))
    ∧ (∀ o, sec.op = some o → o.stage = .applying [] false → ∃ t, exec (.supplementApply ph) s = .next t ∧ t.pending = s.pending ∧ t.chip.sec.op = done o
        ∧ t.nv.fuses = v.fuses ∧ t.nv.versions = v.versions)
    ∧ (∀ o p items more, sec.op = some o → o.stage = .applying ((p, items) :: more) false → (commitItems .security p items now).1 = 1 →
        Completes (.supplementApply ph) s (fun c => c.sec.op = some { o with stage := .applying ((p, items) :: more) true }))
    ∧ (∀ o, sec.op = some o → o.stage = .verified → o.kind = 2 → ∃ t, exec (.supplementApply ph) s = .next t ∧ t.pending = s.pending ∧ t.chip.sec.op = done o
        ∧ t.chip.bankActive = s.chip.bankActive ∧ t.nv.fuses = v.fuses)
    ∧ (sec.op.isSome = true → Completes (.pkgApply ph) s (fun c => refused 9 c ∧ c.quiet = s.chip.quiet))
    ∧ (sec.op = none → s.chip.dev ≠ .safeIdle → Completes (.pkgApply ph) s (fun c => refused 6 c ∧ c.quiet = s.chip.quiet))
    ∧ (sec.op = none → s.chip.dev = .safeIdle → Completes (.pkgApply ph) s (fun c => c.bankActive = 0 ∧ c.dev = .safeIdle ∧ c.sec.op = none))
    ∧ (∀ o g n, opOf 0x10 s.chip = some o → liveGroup v.fuses = some g → emptySlot v.fuses g = some n →
        let mask := pkgVal o.payload 128 1 % 16
        let f := rotate v.fuses g n (bytesAt o.payload 0 128) mask
        mask.testBit n = false → (∃ k, k < 4 ∧ anchorState (anchorOf f g k) = 1) → ∃ t, exec (.anchor ph) s = .next t ∧ t.pending = s.pending
          ∧ t.nv = { v with fuses := f } ∧ t.chip.sec.op = done o ∧ Reported Event.SEC_ANCHOR_ROTATED s.chip t.chip
          ∧ (∀ x, sec.session = some x → mask.testBit x.slot = true → t.chip.sec.session = none))
    ∧ (∀ o g, opOf 0x10 s.chip = some o → liveGroup v.fuses = some g → emptySlot v.fuses g = none → Completes (.anchor ph) s (fun c =>
        refused 8 c ∧ c.sec.op = none))
    ∧ (∀ o, opOf 0x11 s.chip = some o → liveState v.fuses o.anchor = 1 →
        let d := if pkgVal o.payload 32 2 = 0 then 300 else pkgVal o.payload 32 2
        ((takeChallenge (bytesAt o.payload 0 32) now).1 = true → Completes (.grant ph) s (fun c =>
            c.sec.session = some { slot := o.anchor, ends := s.chip.opSec + d } ∧ c.sec.challenge = none ∧ c.sec.op = done o
              ∧ Reported Event.SEC_SESSION_OPEN s.chip c))
          ∧ ((takeChallenge (bytesAt o.payload 0 32) now).1 = false → Completes (.grant ph) s (fun c =>
            refused 11 c ∧ c.sec.session = sec.session ∧ c.sec.challenge = none ∧ c.sec.op = none ∧ Reported Event.SEC_GRANT_REFUSED s.chip c)))
    ∧ (∀ x, sec.session = some x → x.ends ≤ s.chip.opSec → Completes (.sessionEnd ph) s (fun c =>
        c.sec.session = none ∧ Reported Event.SEC_SESSION_END s.chip c))
    ∧ (∀ x, sec.session = some x → s.chip.opSec < x.ends → Completes (.sessionEnd ph) s (fun c => c.quiet = s.chip.quiet))
    ∧ (∀ o, makerOp 3 s.chip = some o → (takeChallenge (bytesAt o.payload 0 32) now).1 = true →
        (lcState v.fuses = 0 ∨ lcState v.fuses = 3 → Completes (.debug ph) s (fun c => c.sec.debug = true ∧ Reported Event.SEC_DEBUG_OPEN s.chip c))
          ∧ (lcState v.fuses ≠ 0 → lcState v.fuses ≠ 3 → Completes (.debug ph) s (fun c => c.sec.debug = sec.debug ∧ refused 6 c)))
    ∧ (∀ o, makerOp 2 s.chip = some o → (takeChallenge (bytesAt o.payload 0 32) now).1 = true → lcState v.fuses = 1 → cycleOf v.fuses = 0 →
        ∃ t, exec (.cert ph) s = .next t ∧ t.pending = s.pending ∧ t.chip.sec.op = done o ∧ t.nv.fuses = v.fuses
          ∧ t.nv.identity.certEd = ((o.payload.drop 40).take (Config.certSplit (o.payload.drop 40))).take 8192
          ∧ t.nv.identity.certMl = ((o.payload.drop 40).drop (Config.certSplit (o.payload.drop 40))).take 8192)
    ∧ (∀ b k, sec.body = some b → v.identity.seed = some k → Completes (.quoteDone ph) s (fun c =>
        c.sec.quote = b ++ (List.range 64).map (Config.edSign k b) ++ (List.range 3309).map (Config.mlSign k b) ∧ c.sec.body = none
          ∧ Reported Event.SEC_QUOTE_DONE s.chip c))
    ∧ (sec.body = none → Completes (.quoteDone ph) s (fun c => c.quiet = s.chip.quiet))

/-- The life-cycle transitions: each happens from its state, where the unit permits one, and for a maker's on a good challenge; it blows its fuses, erases
what the transition erases and leaves the part as after a power-on, with the operation done; from any other state its package is refused. -/
def Obligations.LifeCycleTransitions : Prop :=
  ∀ (s : State) (ph : Nat), s.Live → s.Inv →
    let v := s.nv
    let now := atPhase ph { s.chip with emitted := [] }
    let may := transitionOpen s.chip = true
    let good (o : SecOp) : Prop := (takeChallenge (bytesAt o.payload 0 32) now).1 = true
    let takes (i : Instr) (o : SecOp) (P : Nv → Prop) : Prop := ∃ t, exec i s = .next t ∧ t.pending = s.pending ∧ P t.nv
        ∧ t.chip.dev = .safeIdle ∧ t.chip.tick = 0 ∧ t.chip.sec.session = none ∧ t.chip.sec.op = some { o with stage := .done }
    let stays (i : Instr) (reason : Nat) : Prop := Completes i s (fun c => c.sec.op = none ∧ rdF c Reg.SEC_PKG_STAT 11 8 = reason
        ∧ Reported Event.SEC_PKG_REFUSED s.chip c ∧ c.dev = s.chip.dev)
    (∀ o, opOf 0x12 s.chip = some o →
        (lcState v.fuses = 1 → may → takes (.claim ph) o (fun w => lcState w.fuses = 2 ∧ cycleOf w.fuses = cycleOf v.fuses + 1 ∧ w.versions = []
            ∧ anchorOf w.fuses (cycleOf v.fuses) 0 = { written := true, revoked := false, digests := bytesAt o.payload 0 128 }))
          ∧ (¬ (lcState v.fuses = 1 ∧ may) → stays (.claim ph) 6))
    ∧ (∀ o, opOf 0x13 s.chip = some o →
        (lcState v.fuses = 2 → may → takes (.returnPackage ph) o (fun w => lcState w.fuses = 3 ∧ w.slotA = {} ∧ w.slotB = {} ∧ w.identity = v.identity))
          ∧ (¬ (lcState v.fuses = 2 ∧ may) → stays (.returnPackage ph) 6))
    ∧ (∀ o, makerOp 1 s.chip = some o →
        (good o → lcState v.fuses = 0 → may → takes (.provision ph) o (fun w =>
            lcState w.fuses = 1 ∧ w.identity = newIdentity (s.chip.draws + 1) v.identity))
          ∧ (good o → ¬ (lcState v.fuses = 0 ∧ may) → stays (.provision ph) 6) ∧ (¬ good o → stays (.provision ph) 11))
    ∧ (∀ o, makerOp 4 s.chip = some o →
        (good o → lcState v.fuses = 3 → cycleOf v.fuses ≠ 4 → may → takes (.refurb ph) o (fun w =>
            lcState w.fuses = 1 ∧ cycleOf w.fuses = cycleOf v.fuses ∧ w.identity = v.identity))
          ∧ (good o → ¬ (lcState v.fuses = 3 ∧ cycleOf v.fuses ≠ 4 ∧ may) → stays (.refurb ph) 6) ∧ (¬ good o → stays (.refurb ph) 11))
    ∧ (∀ o, makerOp 5 s.chip = some o →
        (good o → lcState v.fuses = 3 → may → takes (.scrap ph) o (fun w => lcState w.fuses = 4 ∧ w.identity.seed = none))
          ∧ (good o → ¬ (lcState v.fuses = 3 ∧ may) → stays (.scrap ph) 6) ∧ (¬ good o → stays (.scrap ph) 11))
    ∧ (s.chip.sec.op = none → ∀ i, i ∈ [Instr.claim ph, .returnPackage ph, .provision ph, .refurb ph, .scrap ph, .anchor ph, .cert ph] → ∃ t, exec i s = .next t
        ∧ t.nv = v ∧ t.chip.mem = (secShow v s.chip).mem)
end

