-- ==== Sys2Proof/Laws/Tab.lean ====
section
/-!
SUPPORT. Laws/Tab.lean: sparse tables: reading after writing, and the canonical form, which every write keeps.
-/
namespace Sys2Proof.Machine

open Sys2Proof

/-! ### Reading after writing -/

theorem tabFind_tabDel {α : Type} (t : Tab α) (j k : Nat) : tabFind (tabDel t k) j = if j = k then none else tabFind t j := by
  induction t with
  | nil => simp [tabDel, tabFind]
  | cons e t ih =>
    obtain ⟨a, v⟩ := e
    have hd : tabDel ((a, v) :: t) k = if a ≠ k then (a, v) :: tabDel t k else tabDel t k := by
      by_cases h : a = k <;> simp [tabDel, h]
    by_cases hak : a = k
    · subst hak
      rw [hd]
      by_cases hj : j = a
      · subst hj; simp [ih]
      · have : a ≠ j := fun h => hj h.symm
        simp [ih, hj, tabFind, this]
    · rw [hd]
      simp only [hak, ne_eq, not_false_eq_true, if_true, tabFind]
      by_cases haj : a = j
      · subst haj; simp [hak]
      · simp [haj, ih]

theorem tabFind_tabIns {α : Type} (t : Tab α) (j k : Nat) (v : α) : tabFind (tabIns k v t) j = if j = k then some v else tabFind t j := by
  induction t with
  | nil =>
    by_cases h : j = k
    · subst h; simp [tabIns, tabFind]
    · have : k ≠ j := fun e => h e.symm
      simp [tabIns, tabFind, h, this]
  | cons e t ih =>
    obtain ⟨a, x⟩ := e
    by_cases hlt : a < k
    · simp only [tabIns, hlt, if_true, tabFind, ih]
      by_cases haj : a = j
      · subst haj
        have : a ≠ k := by omega
        simp [this]
      · simp [haj]
    · by_cases hak : a = k
      · subst hak
        by_cases hj : j = a
        · subst hj; simp [tabIns, tabFind]
        · have : a ≠ j := fun e => hj e.symm
          simp [tabIns, tabFind, hj, this]
      · by_cases hj : j = k
        · subst hj; simp [tabIns, hlt, hak, tabFind]
        · have : k ≠ j := fun e => hj e.symm
          simp [tabIns, hlt, hak, tabFind, hj, this]

theorem tabGet_tabPut {α : Type} [DecidableEq α] (d : Nat → α) (t : Tab α) (j k : Nat) (v : α) :
    tabGet d (tabPut d t k v) j = if j = k then v else tabGet d t j := by
  unfold tabGet tabPut
  by_cases h : v = d k
  · subst h
    by_cases hj : j = k
    · subst hj; simp [tabFind_tabDel]
    · simp [tabFind_tabDel, hj]
  · by_cases hj : j = k
    · subst hj; simp [h, tabFind_tabIns]
    · simp [h, tabFind_tabIns, hj]

@[simp] theorem tabGet_tabPut_same {α : Type} [DecidableEq α] (d : Nat → α) (t : Tab α) (k : Nat) (v : α) :
    tabGet d (tabPut d t k v) k = v := by simp [tabGet_tabPut]

theorem tabGet_tabPut_other {α : Type} [DecidableEq α] (d : Nat → α) (t : Tab α) {j k : Nat} (v : α) (h : j ≠ k) :
    tabGet d (tabPut d t k v) j = tabGet d t j := by simp [tabGet_tabPut, h]

/-! ### The canonical form -/

/-- Every listed number of a table is above `k`. -/
theorem tabRising_cons {α : Type} (k : Nat) (v : α) (t : Tab α) :
    tabRising ((k, v) :: t) = true ↔ (∀ e ∈ t, k < e.1) ∧ tabRising t = true := by
  induction t generalizing k v with
  | nil => simp [tabRising]
  | cons e t ih =>
    obtain ⟨b, y⟩ := e
    simp only [tabRising, Bool.and_eq_true, decide_eq_true_eq, List.mem_cons, forall_eq_or_imp]
    rw [ih b y]
    constructor
    · rintro ⟨h, hb, ht⟩
      exact ⟨⟨h, fun e he => Nat.lt_trans h (hb e he)⟩, hb, ht⟩
    · rintro ⟨⟨h, -⟩, hb, ht⟩
      exact ⟨h, hb, ht⟩

theorem tabRising_filter {α : Type} (p : Nat × α → Bool) (t : Tab α) (h : tabRising t = true) : tabRising (t.filter p) = true := by
  induction t with
  | nil => rfl
  | cons e t ih =>
    obtain ⟨a, v⟩ := e
    rw [tabRising_cons] at h
    by_cases hp : p (a, v) = true
    · rw [List.filter_cons_of_pos hp, tabRising_cons]
      exact ⟨fun e he => h.1 e (List.mem_filter.mp he).1, ih h.2⟩
    · rw [List.filter_cons_of_neg hp]
      exact ih h.2

theorem mem_tabIns {α : Type} (k : Nat) (v : α) (t : Tab α) (e : Nat × α) : e ∈ tabIns k v t → e = (k, v) ∨ e ∈ t := by
  induction t with
  | nil => simp [tabIns]
  | cons x t ih =>
    obtain ⟨a, y⟩ := x
    simp only [tabIns]
    split
    · simp only [List.mem_cons]
      rintro (h | h)
      · exact .inr (.inl h)
      · rcases ih h with h | h
        · exact .inl h
        · exact .inr (.inr h)
    · split
      · simp only [List.mem_cons]
        rintro (h | h)
        · exact .inl h
        · exact .inr (.inr h)
      · simp only [List.mem_cons]
        exact id

theorem tabRising_tabIns {α : Type} (k : Nat) (v : α) (t : Tab α) (h : tabRising t = true) : tabRising (tabIns k v t) = true := by
  induction t with
  | nil => rfl
  | cons x t ih =>
    obtain ⟨a, y⟩ := x
    have h' := (tabRising_cons a y t).mp h
    simp only [tabIns]
    split
    · next hlt =>
      rw [tabRising_cons]
      refine ⟨fun e he => ?_, ih h'.2⟩
      rcases mem_tabIns k v t e he with rfl | he
      · exact hlt
      · exact h'.1 e he
    · next hge =>
      split
      · next heq =>
        subst heq
        rw [tabRising_cons]
        exact h'
      · next hne =>
        rw [tabRising_cons]
        refine ⟨fun e he => ?_, h⟩
        have hk : k < a := by omega
        rcases List.mem_cons.mp he with rfl | he
        · exact hk
        · exact Nat.lt_trans hk (h'.1 e he)

/-- Filtering a table keeps the canonical form. -/
theorem tabWf_filter {α : Type} [DecidableEq α] (d : Nat → α) (p : Nat × α → Bool) (t : Tab α) (h : tabWf d t = true) :
    tabWf d (t.filter p) = true := by
  simp only [tabWf, Bool.and_eq_true, List.all_eq_true] at h ⊢
  exact ⟨tabRising_filter p t h.1, fun e he => h.2 e (List.mem_filter.mp he).1⟩

/-- Every write keeps the canonical form. -/
theorem tabWf_tabPut {α : Type} [DecidableEq α] (d : Nat → α) (t : Tab α) (k : Nat) (v : α) (h : tabWf d t = true) :
    tabWf d (tabPut d t k v) = true := by
  unfold tabPut
  split
  · exact tabWf_filter d _ t h
  · next hv =>
    simp only [tabWf, Bool.and_eq_true, List.all_eq_true] at h ⊢
    refine ⟨tabRising_tabIns k v t h.1, fun e he => ?_⟩
    rcases mem_tabIns k v t e he with rfl | he
    · exact decide_eq_true hv
    · exact h.2 e he

/-- A number below every listed one is not listed. -/
theorem tabFind_eq_none {α : Type} (t : Tab α) (k : Nat) (h : ∀ e ∈ t, k < e.1) : tabFind t k = none := by
  induction t with
  | nil => rfl
  | cons e t ih =>
    obtain ⟨a, v⟩ := e
    have := h (a, v) (List.mem_cons_self ..)
    have hne : a ≠ k := by have : k < a := this; omega
    simp only [tabFind, hne, if_false]
    exact ih (fun e he => h e (List.mem_cons_of_mem _ he))

end Sys2Proof.Machine
end

