-- ==== Sys2Proof/Laws/Memory.lean ====
section
/-!
SUPPORT. Laws/Memory.lean: the register memory: what a write leaves to read, that every operation keeps the canonical form, and which bytes
an operation leaves alone.
-/
namespace Sys2Proof.Machine

open Sys2Proof

/-! ### Reading after writing -/

theorem mrd8_memPut (m : Tab Byte) (a x : Nat) (b : Byte) : mrd8 (memPut m a b) x = if x = a then b else mrd8 m x :=
  tabGet_tabPut resetByte m x a b

theorem mrd8_memPut32_other (m : Tab Byte) (a x : Nat) (w : Word) (h : x < a ∨ a + 4 ≤ x) : mrd8 (memPut32 m a w) x = mrd8 m x := by
  have h0 : x ≠ a := by omega
  have h1 : x ≠ a + 1 := by omega
  have h2 : x ≠ a + 2 := by omega
  have h3 : x ≠ a + 3 := by omega
  simp [memPut32, mrd8_memPut, h0, h1, h2, h3]

/-- The four bytes of a DWORD make it up. -/
theorem word_of_bytes (w : Word) :
    Word.ofNat ((BitVec.ofNat 8 w.toNat).toNat + 0x100 * (BitVec.ofNat 8 (w.toNat >>> 8)).toNat
      + 0x10000 * (BitVec.ofNat 8 (w.toNat >>> 16)).toNat + 0x1000000 * (BitVec.ofNat 8 (w.toNat >>> 24)).toNat) = w := by
  apply BitVec.eq_of_toNat_eq
  have hw := w.isLt
  simp only [Word.ofNat, BitVec.toNat_ofNat, Nat.shiftRight_eq_div_pow]
  omega

theorem mrd32_memPut32 (m : Tab Byte) (a : Nat) (w : Word) : mrd32 (memPut32 m a w) a = w := by
  have h1 : a ≠ a + 1 := by omega
  have h2 : a ≠ a + 2 := by omega
  have h3 : a ≠ a + 3 := by omega
  have h4 : a + 1 ≠ a + 2 := by omega
  have h5 : a + 1 ≠ a + 3 := by omega
  have h6 : a + 2 ≠ a + 3 := by omega
  simp only [mrd32, memPut32, mrd8_memPut, h1, h2, h3, h4, h5, h6, if_true, if_false]
  exact word_of_bytes w

theorem mrd32_memPut32_other (m : Tab Byte) (a x : Nat) (w : Word) (h : x + 4 ≤ a ∨ a + 4 ≤ x) :
    mrd32 (memPut32 m a w) x = mrd32 m x := by
  simp only [mrd32]
  rw [mrd8_memPut32_other _ _ _ _ (by omega), mrd8_memPut32_other _ _ _ _ (by omega), mrd8_memPut32_other _ _ _ _ (by omega),
    mrd8_memPut32_other _ _ _ _ (by omega)]

@[simp] theorem rd32_wr32 (c : Chip) (a : Nat) (w : Word) : rd32 (wr32 a w c) a = w := mrd32_memPut32 c.mem a w

theorem rd32_wr32_other (c : Chip) (a x : Nat) (w : Word) (h : x + 4 ≤ a ∨ a + 4 ≤ x) : rd32 (wr32 a w c) x = rd32 c x :=
  mrd32_memPut32_other c.mem a x w h

/-! ### The canonical form -/

theorem memWf_memPut (m : Tab Byte) (a : Nat) (b : Byte) (h : memWf m) : memWf (memPut m a b) := tabWf_tabPut resetByte m a b h

theorem memWf_memPut32 (m : Tab Byte) (a : Nat) (w : Word) (h : memWf m) : memWf (memPut32 m a w) :=
  memWf_memPut _ _ _ (memWf_memPut _ _ _ (memWf_memPut _ _ _ (memWf_memPut _ _ _ h)))

theorem memWf_wr8 (c : Chip) (a : Nat) (b : Byte) (h : memWf c.mem) : memWf (wr8 a b c).mem := memWf_memPut _ _ _ h
theorem memWf_wr32 (c : Chip) (a : Nat) (w : Word) (h : memWf c.mem) : memWf (wr32 a w c).mem := memWf_memPut32 _ _ _ h
theorem memWf_wrMask (c : Chip) (a : Nat) (k v : Word) (h : memWf c.mem) : memWf (wrMask a k v c).mem := memWf_memPut32 _ _ _ h
theorem memWf_wrF (c : Chip) (a hi lo v : Nat) (h : memWf c.mem) : memWf (wrF a hi lo v c).mem := memWf_memPut32 _ _ _ h
theorem memWf_wrB (c : Chip) (a i : Nat) (b : Bool) (h : memWf c.mem) : memWf (wrB a i b c).mem := memWf_memPut32 _ _ _ h
theorem memWf_regInc (c : Chip) (a : Nat) (h : memWf c.mem) : memWf (regInc a c).mem := memWf_memPut32 _ _ _ h

/-- Values applied by a COMMIT keep the canonical form. -/
theorem memWf_applyItems (l : List PendItem) (m : Tab Byte) (h : memWf m) : memWf (applyItems l m) := by
  induction l generalizing m with
  | nil => exact h
  | cons i l ih =>
    refine ih (applyItem m i) ?_
    unfold applyItem
    split
    · exact h
    · exact memWf_memPut32 _ _ _ h

theorem memWf_reset : memWf State.reset.chip.mem := by decide

/-! ### Bytes left alone -/

theorem Untouched.refl (l : List (Nat × Nat)) (c : Chip) : Untouched l c c := fun _ _ => rfl

theorem Untouched.of_mem {l : List (Nat × Nat)} {c d : Chip} (h : d.mem = c.mem) : Untouched l c d := fun a _ => by simp [rd8, h]

theorem Untouched.mono {l k : List (Nat × Nat)} {c d : Chip} (h : Untouched l c d) (hs : ∀ r ∈ l, r ∈ k) : Untouched k c d :=
  fun a ha => h a (fun r hr => ha r (hs r hr))

/-- A range may be replaced by one that holds it. -/
theorem Untouched.cover {l k : List (Nat × Nat)} {c d : Chip} (h : Untouched l c d)
    (hs : ∀ r ∈ l, ∃ q ∈ k, q.1 ≤ r.1 ∧ r.1 + r.2 ≤ q.1 + q.2) : Untouched k c d :=
  fun a ha => h a (fun r hr => by
    obtain ⟨q, hq, h1, h2⟩ := hs r hr
    have := ha q hq
    omega)

theorem Untouched.trans {l : List (Nat × Nat)} {c d e : Chip} (h : Untouched l c d) (h' : Untouched l d e) : Untouched l c e :=
  fun a ha => (h' a ha).trans (h a ha)

theorem untouched_wr32 (c : Chip) (a : Nat) (w : Word) : Untouched [(a, 4)] c (wr32 a w c) := fun x hx => by
  have := hx (a, 4) (by simp)
  exact mrd8_memPut32_other _ _ _ _ (by simpa using this)

theorem untouched_wr8 (c : Chip) (a : Nat) (b : Byte) : Untouched [(a, 1)] c (wr8 a b c) := fun x hx => by
  have h := hx (a, 1) (by simp)
  have hne : x ≠ a := by simp only at h; omega
  simp [rd8, wr8, mrd8_memPut, hne]

theorem untouched_wrMask (c : Chip) (a : Nat) (k v : Word) : Untouched [(a, 4)] c (wrMask a k v c) := untouched_wr32 c a _
theorem untouched_wrF (c : Chip) (a hi lo v : Nat) : Untouched [(a, 4)] c (wrF a hi lo v c) := untouched_wr32 c a _
theorem untouched_wrB (c : Chip) (a i : Nat) (b : Bool) : Untouched [(a, 4)] c (wrB a i b c) := untouched_wr32 c a _
theorem untouched_regInc (c : Chip) (a : Nat) : Untouched [(a, 4)] c (regInc a c) := untouched_wr32 c a _

/-- A DWORD outside the ranges reads as before. -/
theorem Untouched.rd32 {l : List (Nat × Nat)} {c d : Chip} (h : Untouched l c d) (a : Nat)
    (ha : ∀ r ∈ l, a + 4 ≤ r.1 ∨ r.1 + r.2 ≤ a) : rd32 d a = rd32 c a := by
  have hb (k : Nat) (hk : k < 4) : mrd8 d.mem (a + k) = mrd8 c.mem (a + k) :=
    h (a + k) (fun r hr => by have := ha r hr; omega)
  have h0 := hb 0 (by omega)
  simp only [Nat.add_zero] at h0
  simp only [Sys2Proof.Machine.rd32, mrd32, h0, hb 1 (by omega), hb 2 (by omega), hb 3 (by omega)]

/-- Writing a number of DWORDs or bytes one after the other touches only what each of them touches. -/
theorem untouched_foldl {α : Type} (l : List (Nat × Nat)) (f : α → Chip → Chip) (xs : List α)
    (h : ∀ x ∈ xs, ∀ c, Untouched l c (f x c)) (c : Chip) : Untouched l c (xs.foldl (fun c x => f x c) c) := by
  induction xs generalizing c with
  | nil => exact Untouched.refl l c
  | cons x xs ih =>
    exact (h x (List.mem_cons_self ..) c).trans (ih (fun y hy => h y (List.mem_cons_of_mem _ hy)) (f x c))

theorem untouched_forEach (l : List (Nat × Nat)) (n : Nat) (f : Nat → Chip → Chip) (h : ∀ i, i < n → ∀ c, Untouched l c (f i c)) (c : Chip) :
    Untouched l c (forEach n f c) :=
  untouched_foldl l f (List.range n) (fun i hi => h i (List.mem_range.mp hi)) c

end Sys2Proof.Machine
end

