-- ==== Sys2Proof/Laws/Events.lean ====
section
/-!
SUPPORT. Laws/Events.lean: what raising an event can do: it changes registers of its page's header and the ring's loss counts (with their image
at the start of the cycle), and the event ring; nothing else of the part.
-/
namespace Sys2Proof.Machine

open Sys2Proof

/-- From `c` to `d` only the registers of the ranges, the image of the registers at the start of the cycle and the event ring changed. -/
def EvOnly (l : List (Nat × Nat)) (c d : Chip) : Prop := d = { c with mem := d.mem, before := d.before, ring := d.ring } ∧ Untouched l c d

theorem EvOnly.refl (l : List (Nat × Nat)) (c : Chip) : EvOnly l c c := ⟨rfl, Untouched.refl l c⟩

theorem EvOnly.trans {l : List (Nat × Nat)} {c d e : Chip} (h : EvOnly l c d) (k : EvOnly l d e) : EvOnly l c e := by
  obtain ⟨hm, hu⟩ := h
  obtain ⟨km, ku⟩ := k
  refine ⟨?_, hu.trans ku⟩
  rw [km, hm]

theorem EvOnly.mono {l k : List (Nat × Nat)} {c d : Chip} (h : EvOnly l c d) (hs : ∀ r ∈ l, r ∈ k) : EvOnly k c d :=
  ⟨h.1, h.2.mono hs⟩

theorem evOnly_wr32 (c : Chip) (a : Nat) (w : Word) : EvOnly [(a, 4)] c (wr32 a w c) := ⟨rfl, untouched_wr32 c a w⟩

theorem evOnly_setSticky (a i : Nat) (c : Chip) : EvOnly [(a, 4)] c (setSticky a i c) := ⟨rfl, untouched_wr32 c a _⟩

theorem evOnly_markEvent (d : EvDef) (c : Chip) : EvOnly (evRegs d.page) c (markEvent d c) := by
  have h1 : EvOnly (evRegs d.page) c (setSticky (pageBase d.page + Reg.HDR_EVT_STAT) d.bit c) :=
    EvOnly.mono (evOnly_setSticky ..) (by simp [evRegs])
  unfold markEvent
  split
  · exact h1.trans (EvOnly.mono (evOnly_setSticky ..) (by simp [evRegs]))
  · exact h1

theorem evOnly_postEvent (d : EvDef) (req inst phase : Nat) (ps : List Nat) (c : Chip) :
    EvOnly (evRegs d.page) c (postEvent d req inst phase ps c) := by
  unfold postEvent
  split
  · dsimp only
    have h := evOnly_markEvent d c
    split <;> exact h.trans ⟨rfl, fun _ _ => rfl⟩
  · exact EvOnly.refl _ _

/-- The counts of what the ring's consumers lost. -/
def lossRegs : List (Nat × Nat) := [(Reg.SYS_RING_LOSS_DATA, 4), (Reg.SYS_RING_LOSS_MGMT, 4)]

theorem evOnly_advanceRing (n : Nat) (c : Chip) : EvOnly lossRegs c (advanceRing n c) := by
  have h0 : EvOnly lossRegs c { c with ring := ringSteps n c.ring } := ⟨rfl, fun _ _ => rfl⟩
  have hi (a k : Nat) (ha : (a, 4) ∈ lossRegs) (c : Chip) :
      EvOnly lossRegs c (if k = 0 then c else wr32 a (Word.ofNat (min 0xFFFFFFFF (rdN c a + k))) c) := by
    split
    · exact EvOnly.refl _ _
    · exact EvOnly.mono (evOnly_wr32 c a _) (by simpa using ha)
  exact (h0.trans (hi _ _ (by simp [lossRegs]) _)).trans (hi _ _ (by simp [lossRegs]) _)

theorem evOnly_raiseVia (d : EvDef) (req inst phase : Nat) (ps : List Nat) (c : Chip) :
    EvOnly (evRegs d.page) c (raiseVia d req inst phase ps c) :=
  (evOnly_postEvent d req inst phase ps c).trans ((evOnly_advanceRing _ _).mono (by simp [lossRegs, evRegs]))

theorem evOnly_raiseEv (d : EvDef) (inst : Nat) (ps : List Nat) (c : Chip) : EvOnly (evRegs d.page) c (raiseEv d inst ps c) :=
  evOnly_raiseVia ..

theorem evOnly_raiseHost (d : EvDef) (inst : Nat) (ps : List Nat) (c : Chip) : EvOnly (evRegs d.page) c (raiseHost d inst ps c) :=
  evOnly_raiseVia ..

/-- The registers at the start of the cycle, after an event. -/
def raisedBefore (d : EvDef) (req inst phase : Nat) (ps : List Nat) (c : Chip) : Tab Byte := (raiseVia d req inst phase ps c).before
/-- The registers after an event. -/
def raisedMem (d : EvDef) (req inst phase : Nat) (ps : List Nat) (c : Chip) : Tab Byte := (raiseVia d req inst phase ps c).mem
/-- The event ring after an event. -/
def raisedRing (d : EvDef) (req inst phase : Nat) (ps : List Nat) (c : Chip) : RingSt := (raiseVia d req inst phase ps c).ring

/-- Raising an event changes registers and the event ring only. -/
theorem raiseVia_eq (d : EvDef) (req inst phase : Nat) (ps : List Nat) (c : Chip) :
    raiseVia d req inst phase ps c = { c with mem := raisedMem d req inst phase ps c, before := raisedBefore d req inst phase ps c,
                                              ring := raisedRing d req inst phase ps c } :=
  (evOnly_raiseVia d req inst phase ps c).1

theorem raiseEv_eq (d : EvDef) (inst : Nat) (ps : List Nat) (c : Chip) :
    raiseEv d inst ps c = { c with mem := raisedMem d (eventReq d) inst c.phase ps c, before := raisedBefore d (eventReq d) inst c.phase ps c,
                                   ring := raisedRing d (eventReq d) inst c.phase ps c } := raiseVia_eq ..

theorem raiseHost_eq (d : EvDef) (inst : Nat) (ps : List Nat) (c : Chip) :
    raiseHost d inst ps c = { c with mem := raisedMem d reqHost inst c.phase ps c, before := raisedBefore d reqHost inst c.phase ps c,
                                     ring := raisedRing d reqHost inst c.phase ps c } :=
  raiseVia_eq ..

/-! ### An enabled event is recorded (R462) -/

theorem setBit_true_self (w : Word) (i : Nat) (h : i < 32) : wbit (setBit w i true) i = true := by
  unfold wbit setBit setFld fieldMask Word.ofNat
  have h1 : i + 1 - i = 1 := by omega
  have hb : (BitVec.ofNat 32 (1 <<< i)).getLsbD i = true := by simp [BitVec.getLsbD_ofNat, h, Nat.testBit_shiftLeft]
  rw [BitVec.getLsbD_or, BitVec.getLsbD_and]
  simp only [h1, Bool.toNat_true, Nat.pow_one, Nat.reduceSub, BitVec.and_self, hb, Bool.or_true]

/-- The header registers of a page lie apart from the counts of what the ring's consumers lost. -/
theorem pageBase_far (p : Page) (a : Nat) (h : a ∈ lossRegs.map (·.1)) :
    pageBase p + Reg.HDR_EVT_STAT + 4 ≤ a ∨ a + 4 ≤ pageBase p + Reg.HDR_EVT_STAT := by
  revert a
  cases p <;> decide

theorem setSticky_mem (a i : Nat) (c : Chip) : (setSticky a i c).mem = memPut32 c.mem a (setBit (mrd32 c.mem a) i true) := rfl

theorem rdB_setSticky (a i : Nat) (c : Chip) (h : i < 32) : rdB (setSticky a i c) a i = true := by
  rw [show rdB (setSticky a i c) a i = wbit (mrd32 (setSticky a i c).mem a) i from rfl, setSticky_mem, mrd32_memPut32]
  exact setBit_true_self _ _ h

theorem rdB_setSticky_other (a x i k : Nat) (c : Chip) (h : x + 4 ≤ a ∨ a + 4 ≤ x) : rdB (setSticky a i c) x k = rdB c x k := by
  rw [show rdB (setSticky a i c) x k = wbit (mrd32 (setSticky a i c).mem x) k from rfl, setSticky_mem, mrd32_memPut32_other _ _ _ _ h]
  rfl

theorem rdB_markEvent (d : EvDef) (c : Chip) (h : d.bit < 32) : rdB (markEvent d c) (pageBase d.page + Reg.HDR_EVT_STAT) d.bit = true := by
  unfold markEvent
  split
  · rw [rdB_setSticky_other _ _ _ _ _ (by simp [Reg.HDR_EVT_STAT, Reg.HDR_FAULT_STAT])]
    exact rdB_setSticky _ _ _ h
  · exact rdB_setSticky _ _ _ h

theorem reported_raiseVia (d : EvDef) (req inst phase : Nat) (ps : List Nat) (c : Chip) (h : d.bit < 32) :
    Reported d c (raiseVia d req inst phase ps c) := by
  intro he
  have hm : rdB (postEvent d req inst phase ps c) (pageBase d.page + Reg.HDR_EVT_STAT) d.bit = true := by
    have := rdB_markEvent d c h
    unfold postEvent
    simp only [he, if_true]
    split <;> exact this
  have hu := (evOnly_advanceRing (ringQueued (postEvent d req inst phase ps c).ring) (postEvent d req inst phase ps c)).2
  have hr := hu.rd32 (pageBase d.page + Reg.HDR_EVT_STAT) (by
    intro r hr
    simp only [lossRegs, List.mem_cons, List.not_mem_nil, or_false] at hr
    rcases hr with rfl | rfl
    · exact pageBase_far d.page _ (by decide)
    · exact pageBase_far d.page _ (by decide))
  unfold rdB raiseVia drainRing
  rw [hr]
  exact hm

theorem reported_raiseEv (d : EvDef) (inst : Nat) (ps : List Nat) (c : Chip) (h : d.bit < 32) : Reported d c (raiseEv d inst ps c) :=
  reported_raiseVia d _ inst c.phase ps c h

end Sys2Proof.Machine
end

