-- ==== Sys2Proof/Laws/Frame.lean ====
section
/-!
SUPPORT. Laws/Frame.lean: what the operations that follow every command leave alone: showing a page's status changes that page's registers, and
settling the interrupts changes what the host link remembers; and the shape of a command's outcome.
-/
namespace Sys2Proof.Machine

open Sys2Proof

/-! ### Changes of registers only -/

/-- From `c` to `d` only the registers of the ranges changed. -/
def MemOnly (l : List (Nat × Nat)) (c d : Chip) : Prop := d = { c with mem := d.mem } ∧ Untouched l c d

theorem MemOnly.refl (l : List (Nat × Nat)) (c : Chip) : MemOnly l c c := ⟨rfl, Untouched.refl l c⟩

theorem MemOnly.trans {l : List (Nat × Nat)} {c d e : Chip} (h : MemOnly l c d) (k : MemOnly l d e) : MemOnly l c e := by
  obtain ⟨hm, hu⟩ := h
  obtain ⟨km, ku⟩ := k
  refine ⟨?_, hu.trans ku⟩
  rw [km, hm]

theorem MemOnly.quiet {l : List (Nat × Nat)} {c d : Chip} (h : MemOnly l c d) : d.quiet = c.quiet := by rw [h.1]; rfl

theorem MemOnly.still {l : List (Nat × Nat)} {c d : Chip} (h : MemOnly l c d) : d.still = c.still := by rw [h.1]; rfl

theorem EvOnly.still {l : List (Nat × Nat)} {c d : Chip} (h : EvOnly l c d) : d.still = c.still := by rw [h.1]; rfl

theorem EvOnly.quiet {l : List (Nat × Nat)} {c d : Chip} (h : EvOnly l c d) : d.quiet = c.quiet := by rw [h.1]; rfl

/-- A DWORD write inside one of the ranges. -/
theorem memOnly_wr32 {l : List (Nat × Nat)} (a : Nat) (w : Word) (c : Chip) (h : ∃ q ∈ l, q.1 ≤ a ∧ a + 4 ≤ q.1 + q.2) :
    MemOnly l c (wr32 a w c) :=
  ⟨rfl, (untouched_wr32 c a w).cover (by simpa using h)⟩

theorem memOnly_wr8 {l : List (Nat × Nat)} (a : Nat) (b : Byte) (c : Chip) (h : ∃ q ∈ l, q.1 ≤ a ∧ a + 1 ≤ q.1 + q.2) :
    MemOnly l c (wr8 a b c) :=
  ⟨rfl, (untouched_wr8 c a b).cover (by simpa using h)⟩

theorem memOnly_foldl {α : Type} (l : List (Nat × Nat)) (f : α → Chip → Chip) (xs : List α)
    (h : ∀ x ∈ xs, ∀ c, MemOnly l c (f x c)) (c : Chip) : MemOnly l c (xs.foldl (fun c x => f x c) c) := by
  induction xs generalizing c with
  | nil => exact MemOnly.refl l c
  | cons x xs ih => exact (h x (List.mem_cons_self ..) c).trans (ih (fun y hy => h y (List.mem_cons_of_mem _ hy)) (f x c))

theorem memOnly_forEach (l : List (Nat × Nat)) (n : Nat) (f : Nat → Chip → Chip) (h : ∀ i, i < n → ∀ c, MemOnly l c (f i c)) (c : Chip) :
    MemOnly l c (forEach n f c) :=
  memOnly_foldl l f (List.range n) (fun i hi => h i (List.mem_range.mp hi)) c

theorem memOnly_wrBytes {l : List (Nat × Nat)} (a n : Nat) (bs : List Byte) (c : Chip) (h : ∃ q ∈ l, q.1 ≤ a ∧ a + n ≤ q.1 + q.2) :
    MemOnly l c (wrBytes a n bs c) := by
  refine memOnly_forEach l n _ (fun i hi c => memOnly_wr8 _ _ _ ?_) c
  obtain ⟨q, hq, h1, h2⟩ := h
  exact ⟨q, hq, by omega, by omega⟩

/-- The SEC page as it reads: its registers change, and nothing else. -/
theorem memOnly_secShow (v : Nv) (c : Chip) : MemOnly [secRegs] c (secShow v c) := by
  have w (a : Nat) (x : Word) (c : Chip) (h : 0x13040 ≤ a ∧ a + 4 ≤ 0x14000) : MemOnly [secRegs] c (wr32 a x c) :=
    memOnly_wr32 a x c ⟨secRegs, by simp, h⟩
  have b (a n : Nat) (x : List Byte) (c : Chip) (h : 0x13040 ≤ a ∧ a + n ≤ 0x14000) : MemOnly [secRegs] c (wrBytes a n x c) :=
    memOnly_wrBytes a n x c ⟨secRegs, by simp, h⟩
  unfold secShow
  dsimp only
  exact ((((((((((((((((((w _ _ _ (by decide)).trans (w _ _ _ (by decide))).trans (w _ _ _ (by decide))).trans (w _ _ _ (by decide))).trans
    (w _ _ _ (by decide))).trans (w _ _ _ (by decide))).trans (w _ _ _ (by decide))).trans (w _ _ _ (by decide))).trans
    (w _ _ _ (by decide))).trans (w _ _ _ (by decide))).trans (w _ _ _ (by decide))).trans (w _ _ _ (by decide))).trans
    (b _ _ _ _ (by decide))).trans (b _ _ _ _ (by decide))).trans (b _ _ _ _ (by decide))).trans
    (b _ _ _ _ (by decide))).trans (w _ _ _ (by decide))))

/-- The registers as the SEC page shows them. -/
def secMem (v : Nv) (c : Chip) : Tab Byte := (secShow v c).mem

theorem secShow_eq (v : Nv) (c : Chip) : secShow v c = { c with mem := secMem v c } := (memOnly_secShow v c).1

@[simp] theorem secShow_quiet (v : Nv) (c : Chip) : (secShow v c).quiet = c.quiet := (memOnly_secShow v c).quiet

/-! ### Interrupts -/

/-- From `c` to `d` only what the link remembers of messages sent, the messages themselves and their pending bits changed. -/
def IrqOnly (c d : Chip) : Prop :=
  d = { c with mem := d.mem, emitted := d.emitted,
               lnk := { c.lnk with sent := d.lnk.sent, irqFrom := d.lnk.irqFrom, ended := d.lnk.ended } }
    ∧ (∃ l, d.emitted = c.emitted ++ l) ∧ Untouched [pbaRegs] c d

theorem IrqOnly.refl (c : Chip) : IrqOnly c c := ⟨rfl, ⟨[], by simp⟩, Untouched.refl _ c⟩

theorem IrqOnly.trans {c d e : Chip} (h : IrqOnly c d) (k : IrqOnly d e) : IrqOnly c e := by
  obtain ⟨hm, ⟨x, hx⟩, hu⟩ := h
  obtain ⟨km, ⟨y, hy⟩, ku⟩ := k
  refine ⟨?_, ⟨x ++ y, by rw [hy, hx, List.append_assoc]⟩, hu.trans ku⟩
  rw [km, hm]

theorem irqOnly_settleVectors (c : Chip) : IrqOnly c (settleVectors c) := ⟨rfl, ⟨[], (List.append_nil _).symm⟩, fun _ _ => rfl⟩

theorem irqOnly_sendVector (v : Nat) (hv : v < 64) (c : Chip) : IrqOnly c (sendVector v c) := by
  refine ⟨rfl, ⟨[.msix v], rfl⟩, ?_⟩
  have h : Untouched [(pbaWord v, 4)] c (sendVector v c) := fun a ha => by
    have := ha (pbaWord v, 4) (by simp)
    exact mrd8_memPut32_other c.mem (pbaWord v) a _ (by simpa using this)
  refine h.cover (fun r hr => ⟨pbaRegs, by simp, ?_⟩)
  simp only [List.mem_singleton] at hr
  subst hr
  simp only [pbaWord, pbaRegs]
  omega

theorem irqOnly_sendPending (c : Chip) : IrqOnly c (sendPending c) := by
  unfold sendPending forEach
  have key : ∀ (l : List Nat), (∀ v ∈ l, v < 64) → ∀ c, IrqOnly c (l.foldl (fun c v =>
      if rdB c (pbaWord v) (v % 32) && vectorOpen c v then settleVectors (sendVector v c) else c) c) := by
    intro l
    induction l with
    | nil => intro _ c; exact IrqOnly.refl c
    | cons v l ih =>
      intro hl c
      refine IrqOnly.trans ?_ (ih (fun x hx => hl x (List.mem_cons_of_mem _ hx)) _)
      dsimp only
      split
      · exact (irqOnly_sendVector v (hl v (List.mem_cons_self ..)) c).trans (irqOnly_settleVectors _)
      · exact IrqOnly.refl c
  exact key _ (fun v hv => List.mem_range.mp hv) c

theorem IrqOnly.still {c d : Chip} (h : IrqOnly c d) : d.still = c.still := by rw [h.1]; rfl

/-- What follows an accepted write: the interrupts settle. -/
theorem irqOnly_settled (c : Chip) : IrqOnly c (sendPending (settleVectors c)) := (irqOnly_settleVectors c).trans (irqOnly_sendPending _)

/-! ### The shape of an outcome -/

theorem completes_onChip {i : Instr} {f : Chip → Chip} {s : State} {P : Chip → Prop} (hi : exec i s = onChip f s) (hp : P (f (opened s.chip))) :
    Completes i s P := ⟨_, hi, rfl, rfl, hp⟩

theorem running_live {f : Chip → Chip} {c : Chip} (h : c.dev ≠ .heldRestart) : running f c = f c := by simp [running, h]

theorem completes_onLogic {i : Instr} {f : Chip → Chip} {s : State} {P : Chip → Prop} (hi : exec i s = onLogic f s) (hl : s.Live)
    (hp : P (f (opened s.chip))) : Completes i s P := by
  refine completes_onChip (f := running f) hi ?_
  rw [running_live (c := opened s.chip) hl]
  exact hp

theorem completes_onHost {i : Instr} {f : Chip → Chip} {s : State} {ph : Nat} {P : Chip → Prop} (hi : exec i s = onHost ph f s)
    (hp : P (secShow s.nv (f (atPhase ph (opened s.chip))))) : Completes i s P := ⟨_, hi, rfl, rfl, hp⟩

theorem completes_onSec {i : Instr} {f : Nv → Chip → Nv × Chip} {s : State} {ph : Nat} {P : Chip → Prop} (hi : exec i s = onSec ph f s) (hl : s.Live)
    (hn : (f s.nv (atPhase ph (opened s.chip))).1 = s.nv) (hp : P (secShow s.nv (f s.nv (atPhase ph (opened s.chip))).2)) : Completes i s P := by
  have e : liveNv ph f s.nv (opened s.chip) = f s.nv (atPhase ph (opened s.chip)) := by
    have hl' : (opened s.chip).dev ≠ .heldRestart := hl
    simp [liveNv, hl']
  refine ⟨_, hi, ?_, rfl, ?_⟩
  · simp only [e, hn]
  · simp only [e, hn]; exact hp

/-- A command on the part alone answers, and leaves the store and the queue as they were. -/
theorem onChip_next {f : Chip → Chip} {s t : State} (h : onChip f s = .next t) : t.chip = f (opened s.chip) ∧ t.nv = s.nv ∧ t.pending = s.pending := by
  have e := Host.Outcome.next.inj h
  exact ⟨by rw [← e], by rw [← e], by rw [← e]⟩

/-- A command of the logic die does nothing in a restart, and else has its effect. -/
theorem onLogic_next {f : Chip → Chip} {s t : State} (h : onLogic f s = .next t) :
    (s.chip.dev = .heldRestart ∧ t.chip = opened s.chip ∨ s.Live ∧ t.chip = f (opened s.chip)) ∧ t.nv = s.nv ∧ t.pending = s.pending := by
  refine ⟨?_, (onChip_next h).2⟩
  rw [(onChip_next h).1]
  by_cases k : s.chip.dev = .heldRestart
  · exact .inl ⟨k, if_pos k⟩
  · exact .inr ⟨k, if_neg k⟩

theorem onHost_next {ph : Nat} {f : Chip → Chip} {s t : State} (h : onHost ph f s = .next t) :
    t.chip = secShow s.nv (f (atPhase ph (opened s.chip))) ∧ t.nv = s.nv ∧ t.pending = s.pending := by
  unfold onHost at h
  have e := Host.Outcome.next.inj h
  exact ⟨by rw [← e], by rw [← e], by rw [← e]⟩

/-- A command of the security block leaves the store to its effect alone, and the queue as it was. -/
theorem onSec_next {ph : Nat} {f : Nv → Chip → Nv × Chip} {s t : State} (h : onSec ph f s = .next t) :
    (t.nv = s.nv ∨ t.nv = (f s.nv (atPhase ph (opened s.chip))).1) ∧ t.pending = s.pending := by
  have e := Host.Outcome.next.inj h
  refine ⟨?_, by rw [← e]⟩
  by_cases k : (opened s.chip).dev = .heldRestart
  · exact .inl (by rw [← e]; simp only [liveNv, if_pos k])
  · exact .inr (by rw [← e]; simp only [liveNv, if_neg k])

end Sys2Proof.Machine
end

