-- ==== Sys2Proof/Laws/Fuses.lean ====
section
/-!
SUPPORT. Laws/Fuses.lean: whether fuses are fuses that a part can have is decided by a finite check.
-/
namespace Sys2Proof.Machine

open Sys2Proof

theorem anchorOf_default (f : Fuses) (g s : Nat) (h : f.anchors.length ≤ 4 * g + s) : anchorOf f g s = {} := by
  simp [anchorOf, List.getD, List.getElem?_eq_none h]

/-- Four cycles and four groups of four anchors are all that there is to check. -/
theorem Fuses.ok_of {f : Fuses} (h₁ : f.own.length = 4 ∧ f.ret.length = 4 ∧ f.refurb.length = 4 ∧ f.anchors.length = 16)
    (h₂ : f.own.getD 0 false = true → f.prov = true)
    (h₃ : ∀ k, k < 4 → (f.ret.getD k false = true → f.own.getD k false = true)
      ∧ (f.refurb.getD k false = true → f.ret.getD k false = true) ∧ (f.own.getD (k + 1) false = true → f.refurb.getD k false = true))
    (h₄ : f.refurb.getD 3 false = false)
    (h₅ : f.scrap = true → 0 < cycleOf f ∧ f.ret.getD (cycleOf f - 1) false = true ∧ f.refurb.getD (cycleOf f - 1) false = false)
    (h₆ : ∀ g, g < 4 → ∀ s, s < 4 → cycleOf f ≤ g → (anchorOf f g s).written = false)
    (h₇ : ∀ i, i < 16 → (f.anchors.getD i {}).revoked = true → (f.anchors.getD i {}).written = true) : f.Ok where
  sizes := h₁
  first := h₂
  order := h₃
  fourth := h₄
  scraps := h₅
  groups := fun g s hs hg => by
    by_cases hg4 : g < 4
    · exact h₆ g hg4 s hs hg
    · rw [anchorOf_default f g s (by omega)]
  revoked := fun g s hr => by
    by_cases hi : 4 * g + s < 16
    · exact h₇ _ hi hr
    · rw [anchorOf_default f g s (by omega)] at hr
      exact absurd hr (by decide)

end Sys2Proof.Machine
end

