-- ==== Sys2Proof/Laws/Host.lean ====
section
/-!
SUPPORT. Laws/Host.lean: the path of a host write to a page register: when it is not discarded, which of a register's fields it acts on, and what
each kind of field does with it.
-/
namespace Sys2Proof.Machine

open Sys2Proof

/-! ### A write that acts -/

theorem outOfRange_good {v : View} {p : Page} {a : Nat} (w : Word) (h : goodReg v p a = true) : outOfRange a w = false := by
  simp only [goodReg, Bool.and_eq_true, decide_eq_true_eq] at h
  obtain ⟨⟨⟨⟨⟨⟨⟨h1, -⟩, -⟩, h4⟩, -⟩, h6⟩, h7⟩, -⟩ := h
  have : a % 0x1000 ≠ Reg.HDR_COMMIT := by simp only [Reg.HDR_COMMIT]; omega
  simp [outOfRange, h6, h7, this]

theorem discarded_good {s : State} {v : View} {p : Page} {a : Nat} (ph : Nat) (w : Word) (hm : s.HostMay v p a) (hg : goodReg v p a = true) :
    discarded (viewBar v) a w 15 (atPhase ph (opened s.chip)) = none := by
  have ho := outOfRange_good w hg
  simp only [goodReg, Bool.and_eq_true, Bool.or_eq_true, decide_eq_true_eq, ne_eq] at hg
  obtain ⟨⟨⟨⟨⟨⟨⟨h1, h2⟩, -⟩, -⟩, -⟩, -⟩, -⟩, h8⟩ := hg
  have hown : ownerPage a = some p := by simp [ownerPage, h2, h1]
  have hmap : mapped (viewBar v) a = true := by
    cases v
    · have : ¬ p = Page.sec := by simpa using h8
      simp [mapped, viewBar, hown, h1, this]
    · simp [mapped, viewBar, hown]
  have hl : (atPhase ph (opened s.chip)).dev ≠ .heldRestart := hm.live
  have hi : rdF (atPhase ph (opened s.chip)) Reg.SEC_LC_STAT 2 0 ≠ 4 := hm.inUse
  have hses : ¬ (viewBar v = .bar2 ∧ (atPhase ph (opened s.chip)).sec.session.isNone = true ∧ (!sessionFree a) = true) := by
    rintro ⟨hv, hn, hf⟩
    have hvp : v = .p := by cases v <;> simp_all [viewBar]
    rcases hm.session hvp with h | h
    · have hn' : s.chip.sec.session.isNone = true := hn
      cases hs : s.chip.sec.session <;> simp_all
    · simp [h] at hf
  have how : ¬ ((!ownsOutputs (atPhase ph (opened s.chip))) = true ∧ (!anyRole p) = true) := by
    rintro ⟨h, k⟩
    rcases hm.owns with h' | h'
    · have : ownsOutputs (atPhase ph (opened s.chip)) = true := h'
      simp [this] at h
    · simp [h'] at k
  unfold discarded
  simp only [hl, hmap, hown, hi, ho, hses, how, if_false, Option.getD_some, h2, inWindow, false_and, Bool.not_true, Bool.false_eq_true,
    reduceCtorEq, Option.isSome_none, Bool.not_false, Bool.true_and, Nat.reduceMod, ne_eq, not_true_eq_false, decide_false, Bool.false_and]

/-- What a host write of a page register does. -/
theorem hostWrite_good {s : State} {v : View} {p : Page} {a : Nat} (ph : Nat) (w : Word) (hm : s.HostMay v p a) (hg : goodReg v p a = true) :
    hostWrite (viewBar v) a w 15 (atPhase ph (opened s.chip))
      = sendPending (settleVectors (registerWrite p (viewBar v) a 0xFFFFFFFF w (atPhase ph (opened s.chip)))) := by
  have hd := discarded_good ph w hm hg
  have hf : forwarded (atPhase ph (opened s.chip)) p a = false := hm.alone
  simp only [goodReg, Bool.and_eq_true, Bool.not_eq_true', Bool.and_eq_false_iff, decide_eq_true_eq, decide_eq_false_iff_not] at hg
  obtain ⟨⟨⟨⟨⟨⟨⟨h1, h2⟩, h3⟩, h4⟩, h5⟩, -⟩, -⟩, -⟩ := hg
  have ha : a - a % 4 = a := by omega
  have hown : ownerPage a = some p := by simp [ownerPage, h2, h1]
  have h40 : ¬ a % 0x1000 < 0x40 := by omega
  have hdma : ¬ (0x14100 ≤ a ∧ a < 0x14300) := by omega
  have hb : byteMask 15 = 0xFFFFFFFF := by decide
  unfold hostWrite
  simp only [ha, hd, hown, Option.getD_some, hf, Bool.false_eq_true, if_false]
  unfold hostAct
  simp only [h1, h2, h40, hdma, if_false, hb]

/-- A command that writes a page register completes as its register's write says. -/
theorem completes_hostPut {i : Instr} {s : State} {v : View} {p : Page} {a ph : Nat} {w : Word} {P : Chip → Prop}
    (hi : exec i s = hostPut v ph a w s) (hm : s.HostMay v p a) (hg : goodReg v p a = true)
    (hp : ∀ t, t.still = (registerWrite p (viewBar v) a 0xFFFFFFFF w (atPhase ph (opened s.chip))).still →
      (∃ l, t.emitted = (registerWrite p (viewBar v) a 0xFFFFFFFF w (atPhase ph (opened s.chip))).emitted ++ l) →
      Untouched [secRegs, pbaRegs] (registerWrite p (viewBar v) a 0xFFFFFFFF w (atPhase ph (opened s.chip))) t → P t) : Completes i s P := by
  refine completes_onHost hi ?_
  rw [hostWrite_good ph w hm hg]
  have h1 := irqOnly_settled (registerWrite p (viewBar v) a 0xFFFFFFFF w (atPhase ph (opened s.chip)))
  have h2 := memOnly_secShow s.nv (sendPending (settleVectors (registerWrite p (viewBar v) a 0xFFFFFFFF w (atPhase ph (opened s.chip)))))
  refine hp _ ?_ ?_ ?_
  · rw [h2.still, h1.still]
  · rw [h2.1]; exact h1.2.1
  · exact (h1.2.2.mono (by simp)).trans (h2.2.mono (by simp))

/-! ### The fields that a view may write -/

/-- A register's fields that a view may write (R459). -/
def viewFields (bar : Bar) (a : Nat) : List FieldDef := (rowFields a).filter (fun f => !f.p || decide (bar = .bar2))

/-- A register none of whose fields LOCK shuts (R463). -/
def lockless (a : Nat) : Bool := (rowFields a).all (fun f => !(f.p && (decide (f.acc = .rw) || decide (f.acc = .rws))))

theorem actingFields_lockless (c : Chip) (p : Page) (a : Nat) (bar : Bar) (h : lockless a = true) :
    actingFields c p a bar = (viewFields bar a, false) := by
  have hs : ∀ f ∈ viewFields bar a, (f.p && (decide (f.acc = .rw) || decide (f.acc = .rws))) = false := by
    intro f hf
    have := List.all_eq_true.mp h f (List.mem_filter.mp hf).1
    rw [← Bool.not_eq_true']; exact this
  unfold actingFields
  simp only [Prod.mk.injEq]
  refine ⟨List.filter_eq_self.mpr fun f hf => ?_, List.any_eq_false.mpr fun f hf => ?_⟩
  · have := hs f hf
    simp only [Bool.and_assoc, this, Bool.and_false, Bool.not_false]
  · have := hs f hf
    simp only [Bool.and_assoc, this, Bool.and_false, Bool.false_eq_true, not_false_eq_true]

theorem actingFields_open (c : Chip) (p : Page) (a : Nat) (bar : Bar) (h : locked c p = false) :
    actingFields c p a bar = (viewFields bar a, false) := by
  unfold actingFields
  simp only [h, Bool.false_and, Bool.not_false, Prod.mk.injEq]
  exact ⟨List.filter_eq_self.mpr fun _ _ => rfl, List.any_eq_false.mpr fun _ _ => by simp⟩

@[simp] theorem pOnly_p (k : Word) : pOnly .p k = k := rfl
@[simp] theorem pOnly_u (k : Word) : pOnly .u k = 0 := rfl

/-! ### Requests: bits that set, with their effect at the rim -/

/-- A register of bits that set, whose write does nothing else. -/
def plainReq (bar : Bar) (a : Nat) (k : Word) : Bool :=
  lockless a && !stagedRaw a && decide (fieldBits (viewFields bar a) .rws = 0) && decide (fieldBits (viewFields bar a) .rw = 0)
    && decide (fieldBits (viewFields bar a) .wo = 0) && decide (fieldBits (viewFields bar a) .w1s = k)
    && !(decide (Reg.GUARD_RESET ≤ a) && decide (a < Reg.GUARD_RESET + 32)) && !(decide (Reg.TASK_FLAG_SET ≤ a) && decide (a < Reg.TASK_FLAG_SET + 32))
    && !(decide (Reg.TASK_FLAG_CLR ≤ a) && decide (a < Reg.TASK_FLAG_CLR + 32)) && decide (a ≠ Reg.CAPTURE_ARM)
    && decide (a ≠ Reg.CAPTURE_DISARM) && decide (a ≠ Reg.CAPTURE_SW_TRIG) && decide (a ≠ Reg.STEPDRV_UNRETIRE) && decide (a ≠ Reg.STEPDRV_CLR_OFFS)

theorem registerWrite_request (p : Page) (bar : Bar) (a : Nat) (w k : Word) (c : Chip) (h : plainReq bar a k = true) :
    rd32 (registerWrite p bar a 0xFFFFFFFF w c) a = rd32 c a ||| (k &&& w) ∧ (registerWrite p bar a 0xFFFFFFFF w c).still = c.still
      ∧ Untouched [(a, 4)] c (registerWrite p bar a 0xFFFFFFFF w c) := by
  simp only [plainReq, Bool.and_eq_true, Bool.not_eq_true', decide_eq_true_eq, ne_eq, Bool.and_eq_false_iff, decide_eq_false_iff_not] at h
  obtain ⟨⟨⟨⟨⟨⟨⟨⟨⟨⟨⟨⟨⟨h1, h2⟩, h3⟩, h4⟩, h5⟩, h6⟩, h7⟩, h8⟩, h9⟩, h10⟩, h11⟩, h12⟩, h13⟩, h14⟩ := h
  have g1 : ¬ (Reg.GUARD_RESET ≤ a ∧ a < Reg.GUARD_RESET + 32) := by omega
  have g2 : ¬ (Reg.TASK_FLAG_SET ≤ a ∧ a < Reg.TASK_FLAG_SET + 32) := by omega
  have g3 : ¬ (Reg.TASK_FLAG_CLR ≤ a ∧ a < Reg.TASK_FLAG_CLR + 32) := by omega
  have e : registerWrite p bar a 0xFFFFFFFF w c = if k &&& w = 0 then c else setBits a (k &&& w) c := by
    have hw : k &&& (0xFFFFFFFF : Word) = k := by
      rw [show (0xFFFFFFFF : Word) = BitVec.allOnes 32 by decide, BitVec.and_allOnes]
    have hz : (0 : Word) &&& (0xFFFFFFFF : Word) = 0 := by decide
    unfold registerWrite
    simp only [actingFields_lockless c p a bar h1, h2, h3, h4, h5, h6, h10, h11, h12, h13, h14, g1, g2, g3, Bool.false_and, Bool.false_eq_true,
      if_false, if_true, hw, hz, or_self]
  rw [e]
  split
  · next hz => exact ⟨by rw [hz]; exact (BitVec.or_zero).symm, rfl, Untouched.refl _ _⟩
  · exact ⟨rd32_wr32 _ _ _, rfl, untouched_wr32 _ _ _⟩

/-- A register of request bits takes them: the bits written join those that stand, and nothing else of the part changes. -/
theorem completes_request {i : Instr} {s : State} {v : View} {p : Page} {a ph : Nat} {w : Word} (k : Word)
    (hi : exec i s = hostPut v ph a w s) (hm : s.HostMay v p a) (hg : goodReg v p a = true) (hr : plainReq (viewBar v) a k = true)
    (ho : a + 4 ≤ 0x13000 ∨ 0x15000 ≤ a) :
    Completes i s (Takes a (k &&& w) s) := by
  refine completes_hostPut hi hm hg (fun t ht _ hu => ?_)
  obtain ⟨h1, h2, h3⟩ := registerWrite_request p (viewBar v) a w k (atPhase ph (opened s.chip)) hr
  refine ⟨?_, ?_, ?_⟩
  · rw [hu.rd32 a (by simp [secRegs, pbaRegs]; omega), h1]; rfl
  · rw [ht, h2]; rfl
  · have h3' : Untouched [(a, 4)] s.chip (registerWrite p (viewBar v) a 0xFFFFFFFF w (atPhase ph (opened s.chip))) := h3
    exact (h3'.mono (by simp)).trans (hu.mono (by simp))

end Sys2Proof.Machine
end

