-- ==== Sys2Proof/Laws/Staging.lean ====
section
/-!
SUPPORT. Laws/Staging.lean: what staging a value or a command does to a page's pending items, and the registers whose write stages.
-/
namespace Sys2Proof.Machine

open Sys2Proof

theorem pageIndex_inj {p q : Page} (h : q ≠ p) : pageIndex q ≠ pageIndex p := by
  revert p q
  intro p q
  cases p <;> cases q <;> decide

/-- What a page holds pending after a change of one page's items. -/
theorem pendOf_setPend (p q : Page) (l : List PendItem) (c : Chip) : pendOf (setPend p l c) q = if q = p then l else pendOf c q := by
  show tabGet _ (tabPut (fun _ => []) c.pend (pageIndex p) l) (pageIndex q) = _
  rw [tabGet_tabPut]
  by_cases h : q = p
  · subst h; simp
  · simp [h, pageIndex_inj h, pendOf]

/-- Changing a page's items changes them and its COMMIT_STAT. -/
theorem memOnly_showCommit (p : Page) (c : Chip) : MemOnly [(pageBase p + Reg.HDR_COMMIT_STAT, 4)] c (showCommit p c) :=
  (memOnly_wr32 _ _ _ ⟨_, List.mem_singleton.mpr rfl, Nat.le_refl _, Nat.le_refl _⟩).trans
    (memOnly_wr32 _ _ _ ⟨_, List.mem_singleton.mpr rfl, Nat.le_refl _, Nat.le_refl _⟩)

theorem setPend_still (p : Page) (l : List PendItem) (c : Chip) : (setPend p l c).still = { c.still with pend := (setPend p l c).pend } := by
  have := (memOnly_showCommit p { c with pend := tabPut (fun _ => []) c.pend (pageIndex p) l }).1
  unfold setPend
  rw [this]
  rfl

theorem untouched_setPend (p : Page) (l : List PendItem) (c : Chip) : Untouched [(pageBase p + Reg.HDR_COMMIT_STAT, 4)] c (setPend p l c) :=
  (memOnly_showCommit p { c with pend := tabPut (fun _ => []) c.pend (pageIndex p) l }).2

/-- Staging items one after the other, from `c` to `d`. -/
def StagesTo (p : Page) (items : List PendItem) (c d : Chip) : Prop :=
  pendOf d p = pendOf c p ++ items ∧ (∀ q, q ≠ p → pendOf d q = pendOf c q) ∧ d.still = { c.still with pend := d.pend }
    ∧ Untouched [(pageBase p + Reg.HDR_COMMIT_STAT, 4)] c d

theorem stagesTo_nil (p : Page) (c : Chip) : StagesTo p [] c c :=
  ⟨(List.append_nil _).symm, fun _ _ => rfl, rfl, Untouched.refl _ _⟩

theorem stagesTo_one (p : Page) (i : PendItem) (c : Chip) : StagesTo p [i] c (stageItem p i c) :=
  ⟨by simp [stageItem, pendOf_setPend], fun q h => by simp [stageItem, pendOf_setPend, h], setPend_still p _ c, untouched_setPend p _ c⟩

theorem StagesTo.trans {p : Page} {x y : List PendItem} {c d e : Chip} (h : StagesTo p x c d) (k : StagesTo p y d e) : StagesTo p (x ++ y) c e := by
  obtain ⟨h1, h2, h3, h4⟩ := h
  obtain ⟨k1, k2, k3, k4⟩ := k
  refine ⟨by rw [k1, h1, List.append_assoc], fun q hq => (k2 q hq).trans (h2 q hq), ?_, h4.trans k4⟩
  rw [k3, h3]

/-- The registers that a page's COMMIT_STAT, the SEC page and the pending bits of MSI-X leave out. -/
theorem stages_of {i : Instr} {s : State} {v : View} {p : Page} {a ph : Nat} {w : Word} (items : List PendItem)
    (hi : exec i s = hostPut v ph a w s) (hm : s.HostMay v p a) (hg : goodReg v p a = true)
    (hd : StagesTo p items (atPhase ph (opened s.chip)) (registerWrite p (viewBar v) a 0xFFFFFFFF w (atPhase ph (opened s.chip)))) :
    Completes i s (Stages p items s) := by
  refine completes_hostPut hi hm hg (fun t ht _ hu => ?_)
  obtain ⟨h1, h2, h3, h4⟩ := hd
  have hp : t.pend = (registerWrite p (viewBar v) a 0xFFFFFFFF w (atPhase ph (opened s.chip))).pend := by
    have h := congrArg (fun x : Chip => x.pend) ht
    exact h
  have hq (q : Page) : pendOf t q = pendOf (registerWrite p (viewBar v) a 0xFFFFFFFF w (atPhase ph (opened s.chip))) q := by
    simp only [pendOf, hp]
  refine ⟨(hq p).trans h1, ?_, fun q hne => (hq q).trans (h2 q hne), ?_⟩
  · rw [ht, h3, ← hp]; rfl
  · have h4' : Untouched [(pageBase p + Reg.HDR_COMMIT_STAT, 4)] s.chip (registerWrite p (viewBar v) a 0xFFFFFFFF w (atPhase ph (opened s.chip))) := h4
    exact (h4'.mono (by simp)).trans (hu.mono (by simp))

/-! ### The registers whose write stages -/

/-- A register outside those whose commands act at once. -/
def notSpecial (a : Nat) : Bool :=
  decide (a ≠ Reg.SYS_DEV_CMD) && decide (a ≠ Reg.WEAVE_CHECK_CMD) && decide (a ≠ Reg.GUARD_FIRST_CLR) && !(decide (0xA400 ≤ a) && decide (a < 0xAC00))
    && decide (a ≠ Reg.NET_HTX_CTL) && decide (a ≠ Reg.NET_HRX_POP) && decide (a ≠ Reg.HEALTH_FLUSH_CMD) && decide (a ≠ Reg.SEC_CHAL_CMD)
    && decide (a ≠ Reg.HOST_WD_KICK) && decide (a ≠ Reg.SEC_PKG_CMD) && decide (a ≠ Reg.SEC_QUOTE_CMD)

/-- A register whose only fields are staged ones and commands that wait for the COMMIT. -/
def plainStage (bar : Bar) (a : Nat) (rws wo : Word) : Bool :=
  !stagedRaw a && decide (fieldBits (viewFields bar a) .rws = rws) && decide (fieldBits (viewFields bar a) .rw = 0)
    && decide (fieldBits (viewFields bar a) .wo = wo) && decide (fieldBits (viewFields bar a) .w1s = 0) && decide (a ≠ Reg.HEALTH_CODE_CFG)
    && notSpecial a

theorem and_ones (k : Word) : k &&& (0xFFFFFFFF : Word) = k := by
  rw [show (0xFFFFFFFF : Word) = BitVec.allOnes 32 by decide, BitVec.and_allOnes]

/-- The items that a write of such a register stages. -/
def stageList (a : Nat) (rws wo w : Word) (priv : Bool) : List PendItem :=
  (if rws = 0 then [] else [⟨a, w, rws, false, priv⟩])
    ++ (if wo = 0 ∨ (w &&& wo = 0 ∧ a ≠ Reg.TASK_CMD ∧ a ≠ Reg.MOTION_SET_POS_CMD) then [] else [⟨a, w &&& wo, wo, true, priv⟩])

theorem registerWrite_stage (p : Page) (bar : Bar) (a : Nat) (w rws wo : Word) (c : Chip) (ha : actingFields c p a bar = (viewFields bar a, false))
    (h : plainStage bar a rws wo = true) :
    StagesTo p (stageList a rws wo w (decide (bar = .bar2))) c (registerWrite p bar a 0xFFFFFFFF w c) := by
  simp only [plainStage, notSpecial, Bool.and_eq_true, Bool.not_eq_true', decide_eq_true_eq, ne_eq, Bool.and_eq_false_iff, decide_eq_false_iff_not] at h
  obtain ⟨⟨⟨⟨⟨⟨h2, h3⟩, h4⟩, h5⟩, h6⟩, h7⟩, ⟨⟨⟨⟨⟨⟨⟨⟨⟨⟨g1, g2⟩, g3⟩, g4⟩, g5⟩, g6⟩, g7⟩, g8⟩, g9⟩, g10⟩, g11⟩⟩ := h
  have g4' : ¬ (0xA400 ≤ a ∧ a < 0xAC00) := by omega
  have hz : (0 : Word) &&& (0xFFFFFFFF : Word) = 0 := by decide
  have hz' : (0 : Word) &&& w = 0 := BitVec.zero_and
  have e : registerWrite p bar a 0xFFFFFFFF w c =
      (let d := if rws = 0 then c else stageItem p ⟨a, w, rws, false, decide (bar = .bar2)⟩ c
       if wo = 0 then d else if a = Reg.TASK_CMD ∨ a = Reg.MOTION_SET_POS_CMD then stageItem p ⟨a, w &&& wo, wo, true, decide (bar = .bar2)⟩ d
       else if w &&& wo = 0 then d else stageItem p ⟨a, w &&& wo, wo, true, decide (bar = .bar2)⟩ d) := by
    unfold registerWrite
    simp only [ha, h2, h3, h4, h5, h6, h7, g1, g2, g3, g4', g5, g6, g7, g8, g9, g10, g11, Bool.false_and, Bool.false_eq_true,
      if_false, if_true, and_ones, hz, hz', or_self]
  rw [e]
  unfold stageList
  refine StagesTo.trans ?_ (d := if rws = 0 then c else stageItem p ⟨a, w, rws, false, decide (bar = .bar2)⟩ c) ?_
  · split
    · exact stagesTo_nil p c
    · exact stagesTo_one p _ c
  · dsimp only
    generalize (if rws = 0 then c else stageItem p ⟨a, w, rws, false, decide (bar = .bar2)⟩ c) = d
    by_cases h0 : wo = 0
    · simp [h0, stagesTo_nil]
    · by_cases ht : a = Reg.TASK_CMD ∨ a = Reg.MOTION_SET_POS_CMD
      · have : ¬ (w &&& wo = 0 ∧ ¬ a = Reg.TASK_CMD ∧ ¬ a = Reg.MOTION_SET_POS_CMD) := fun ⟨_, x, y⟩ => ht.elim x y
        simp only [h0, ht, if_false, if_true, ne_eq, false_or, this]
        exact stagesTo_one p _ d
      · by_cases hw : w &&& wo = 0
        · have : w &&& wo = 0 ∧ ¬ a = Reg.TASK_CMD ∧ ¬ a = Reg.MOTION_SET_POS_CMD := ⟨hw, fun x => ht (.inl x), fun x => ht (.inr x)⟩
          simp only [h0, if_false, ne_eq, false_or, this]
          exact stagesTo_nil p d
        · simp only [h0, ht, hw, if_false, ne_eq, false_or, false_and]
          exact stagesTo_one p _ d

end Sys2Proof.Machine
end

