-- ==== Sys2Proof/Laws/State.lean ====
section
/-!
SUPPORT. What every update of a numbered unit, of a register and of the board leaves as it was, field by field, and what it reads back as: a
later proof cites these and unfolds no record update.
-/
namespace Sys2Proof.Machine

open Sys2Proof

/-! ### Numbered units -/

@[simp] theorem loop_setLoop (c : Chip) (n k : Nat) (l : LoopSt) : (c.setLoop n l).loop k = if k = n then l else c.loop k :=
  tabGet_tabPut _ _ _ _ _
@[simp] theorem setLoop_frame (c : Chip) (n : Nat) (l : LoopSt) :
    (c.setLoop n l).bankActive = c.bankActive ∧ (c.setLoop n l).bank0 = c.bank0 ∧ (c.setLoop n l).bank1 = c.bank1
    ∧ (c.setLoop n l).walkAnyway = c.walkAnyway ∧ (c.setLoop n l).costAt = c.costAt ∧ (c.setLoop n l).laneMap = c.laneMap
    ∧ (c.setLoop n l).spares = c.spares ∧ (c.setLoop n l).laneOut = c.laneOut ∧ (c.setLoop n l).sos = c.sos ∧ (c.setLoop n l).ages = c.ages
    ∧ (c.setLoop n l).termOn = c.termOn ∧ (c.setLoop n l).termEp = c.termEp ∧ (c.setLoop n l).condOn = c.condOn
    ∧ (c.setLoop n l).tripped = c.tripped ∧ (c.setLoop n l).echoes = c.echoes ∧ (c.setLoop n l).tasks = c.tasks
    ∧ (c.setLoop n l).nextStamp = c.nextStamp ∧ (c.setLoop n l).flags = c.flags ∧ (c.setLoop n l).mps = c.mps ∧ (c.setLoop n l).axes = c.axes
    ∧ (c.setLoop n l).ais = c.ais ∧ (c.setLoop n l).wls = c.wls ∧ (c.setLoop n l).badSteps = c.badSteps ∧ (c.setLoop n l).ports = c.ports
    ∧ (c.setLoop n l).fsk = c.fsk ∧ (c.setLoop n l).mism = c.mism ∧ (c.setLoop n l).retry = c.retry ∧ (c.setLoop n l).opSec = c.opSec
    ∧ (c.setLoop n l).caps = c.caps ∧ (c.setLoop n l).ping = c.ping ∧ (c.setLoop n l).time = c.time ∧ (c.setLoop n l).net = c.net
    ∧ (c.setLoop n l).retValid = c.retValid ∧ (c.setLoop n l).scrubPos = c.scrubPos ∧ (c.setLoop n l).scrubAt = c.scrubAt
    ∧ (c.setLoop n l).badMem = c.badMem ∧ (c.setLoop n l).twin = c.twin ∧ (c.setLoop n l).tick = c.tick ∧ (c.setLoop n l).phase = c.phase
    ∧ (c.setLoop n l).tickLen = c.tickLen ∧ (c.setLoop n l).perN = c.perN ∧ (c.setLoop n l).cyc = c.cyc ∧ (c.setLoop n l).mem = c.mem
    ∧ (c.setLoop n l).before = c.before ∧ (c.setLoop n l).recMem = c.recMem ∧ (c.setLoop n l).work = c.work ∧ (c.setLoop n l).settled = c.settled
    ∧ (c.setLoop n l).ring = c.ring ∧ (c.setLoop n l).pend = c.pend ∧ (c.setLoop n l).mqueue = c.mqueue ∧ (c.setLoop n l).cqueue = c.cqueue
    ∧ (c.setLoop n l).dev = c.dev ∧ (c.setLoop n l).devBefore = c.devBefore ∧ (c.setLoop n l).pf = c.pf ∧ (c.setLoop n l).devReq = c.devReq
    ∧ (c.setLoop n l).devAuto = c.devAuto ∧ (c.setLoop n l).safeCause = c.safeCause ∧ (c.setLoop n l).autoRun = c.autoRun
    ∧ (c.setLoop n l).autoCfg = c.autoCfg ∧ (c.setLoop n l).sched = c.sched ∧ (c.setLoop n l).doneStr = c.doneStr
    ∧ (c.setLoop n l).lanesDown = c.lanesDown ∧ (c.setLoop n l).overrun = c.overrun ∧ (c.setLoop n l).earlyOver = c.earlyOver
    ∧ (c.setLoop n l).lastOver = c.lastOver ∧ (c.setLoop n l).unforced = c.unforced ∧ (c.setLoop n l).check = c.check
    ∧ (c.setLoop n l).avgSum = c.avgSum ∧ (c.setLoop n l).avgBad = c.avgBad ∧ (c.setLoop n l).avgCnt = c.avgCnt
    ∧ (c.setLoop n l).laneDue = c.laneDue ∧ (c.setLoop n l).engines = c.engines ∧ (c.setLoop n l).sePtr = c.sePtr
    ∧ (c.setLoop n l).seFree = c.seFree ∧ (c.setLoop n l).cqPtr = c.cqPtr ∧ (c.setLoop n l).guardsDone = c.guardsDone
    ∧ (c.setLoop n l).flagWrites = c.flagWrites ∧ (c.setLoop n l).portRep = c.portRep ∧ (c.setLoop n l).drvMem = c.drvMem
    ∧ (c.setLoop n l).inMem = c.inMem ∧ (c.setLoop n l).convAt = c.convAt ∧ (c.setLoop n l).homeFlags = c.homeFlags ∧ (c.setLoop n l).pins = c.pins
    ∧ (c.setLoop n l).owNext = c.owNext ∧ (c.setLoop n l).marks = c.marks ∧ (c.setLoop n l).rimTasks = c.rimTasks
    ∧ (c.setLoop n l).rimGuards = c.rimGuards ∧ (c.setLoop n l).emitted = c.emitted ∧ (c.setLoop n l).vloopOk = c.vloopOk
    ∧ (c.setLoop n l).vlowDue = c.vlowDue ∧ (c.setLoop n l).recPtr = c.recPtr ∧ (c.setLoop n l).linkErrs = c.linkErrs
    ∧ (c.setLoop n l).linkBad = c.linkBad ∧ (c.setLoop n l).capCmds = c.capCmds ∧ (c.setLoop n l).causes = c.causes ∧ (c.setLoop n l).beat = c.beat
    ∧ (c.setLoop n l).boardTick = c.boardTick ∧ (c.setLoop n l).lastFrame = c.lastFrame ∧ (c.setLoop n l).testNext = c.testNext
    ∧ (c.setLoop n l).testAt = c.testAt ∧ (c.setLoop n l).tbFree = c.tbFree ∧ (c.setLoop n l).chgLast = c.chgLast
    ∧ (c.setLoop n l).chgMarks = c.chgMarks ∧ (c.setLoop n l).chgSettled = c.chgSettled ∧ (c.setLoop n l).watch = c.watch
    ∧ (c.setLoop n l).autoArm = c.autoArm ∧ (c.setLoop n l).health = c.health ∧ (c.setLoop n l).outEn = c.outEn ∧ (c.setLoop n l).lnk = c.lnk
    ∧ (c.setLoop n l).sec = c.sec ∧ (c.setLoop n l).restart = c.restart ∧ (c.setLoop n l).restartReq = c.restartReq ∧ (c.setLoop n l).ckA = c.ckA
    ∧ (c.setLoop n l).ckB = c.ckB ∧ (c.setLoop n l).ckNext = c.ckNext ∧ (c.setLoop n l).skewPeak = c.skewPeak
    ∧ (c.setLoop n l).hotLogic = c.hotLogic ∧ (c.setLoop n l).hotField = c.hotField ∧ (c.setLoop n l).syncSeen = c.syncSeen
    ∧ (c.setLoop n l).axShown = c.axShown ∧ (c.setLoop n l).pfCount = c.pfCount ∧ (c.setLoop n l).draws = c.draws
    ∧ (c.setLoop n l).outReset = c.outReset := by
  simp [Chip.setLoop]

@[simp] theorem sect_setSect (c : Chip) (j k : Nat) (x : SosSt) : (c.setSect j x).sect k = if k = j then x else c.sect k :=
  tabGet_tabPut _ _ _ _ _
@[simp] theorem setSect_frame (c : Chip) (j : Nat) (x : SosSt) :
    (c.setSect j x).bankActive = c.bankActive ∧ (c.setSect j x).bank0 = c.bank0 ∧ (c.setSect j x).bank1 = c.bank1
    ∧ (c.setSect j x).walkAnyway = c.walkAnyway ∧ (c.setSect j x).costAt = c.costAt ∧ (c.setSect j x).laneMap = c.laneMap
    ∧ (c.setSect j x).spares = c.spares ∧ (c.setSect j x).laneOut = c.laneOut ∧ (c.setSect j x).loops = c.loops ∧ (c.setSect j x).ages = c.ages
    ∧ (c.setSect j x).termOn = c.termOn ∧ (c.setSect j x).termEp = c.termEp ∧ (c.setSect j x).condOn = c.condOn
    ∧ (c.setSect j x).tripped = c.tripped ∧ (c.setSect j x).echoes = c.echoes ∧ (c.setSect j x).tasks = c.tasks
    ∧ (c.setSect j x).nextStamp = c.nextStamp ∧ (c.setSect j x).flags = c.flags ∧ (c.setSect j x).mps = c.mps ∧ (c.setSect j x).axes = c.axes
    ∧ (c.setSect j x).ais = c.ais ∧ (c.setSect j x).wls = c.wls ∧ (c.setSect j x).badSteps = c.badSteps ∧ (c.setSect j x).ports = c.ports
    ∧ (c.setSect j x).fsk = c.fsk ∧ (c.setSect j x).mism = c.mism ∧ (c.setSect j x).retry = c.retry ∧ (c.setSect j x).opSec = c.opSec
    ∧ (c.setSect j x).caps = c.caps ∧ (c.setSect j x).ping = c.ping ∧ (c.setSect j x).time = c.time ∧ (c.setSect j x).net = c.net
    ∧ (c.setSect j x).retValid = c.retValid ∧ (c.setSect j x).scrubPos = c.scrubPos ∧ (c.setSect j x).scrubAt = c.scrubAt
    ∧ (c.setSect j x).badMem = c.badMem ∧ (c.setSect j x).twin = c.twin ∧ (c.setSect j x).tick = c.tick ∧ (c.setSect j x).phase = c.phase
    ∧ (c.setSect j x).tickLen = c.tickLen ∧ (c.setSect j x).perN = c.perN ∧ (c.setSect j x).cyc = c.cyc ∧ (c.setSect j x).mem = c.mem
    ∧ (c.setSect j x).before = c.before ∧ (c.setSect j x).recMem = c.recMem ∧ (c.setSect j x).work = c.work ∧ (c.setSect j x).settled = c.settled
    ∧ (c.setSect j x).ring = c.ring ∧ (c.setSect j x).pend = c.pend ∧ (c.setSect j x).mqueue = c.mqueue ∧ (c.setSect j x).cqueue = c.cqueue
    ∧ (c.setSect j x).dev = c.dev ∧ (c.setSect j x).devBefore = c.devBefore ∧ (c.setSect j x).pf = c.pf ∧ (c.setSect j x).devReq = c.devReq
    ∧ (c.setSect j x).devAuto = c.devAuto ∧ (c.setSect j x).safeCause = c.safeCause ∧ (c.setSect j x).autoRun = c.autoRun
    ∧ (c.setSect j x).autoCfg = c.autoCfg ∧ (c.setSect j x).sched = c.sched ∧ (c.setSect j x).doneStr = c.doneStr
    ∧ (c.setSect j x).lanesDown = c.lanesDown ∧ (c.setSect j x).overrun = c.overrun ∧ (c.setSect j x).earlyOver = c.earlyOver
    ∧ (c.setSect j x).lastOver = c.lastOver ∧ (c.setSect j x).unforced = c.unforced ∧ (c.setSect j x).check = c.check
    ∧ (c.setSect j x).avgSum = c.avgSum ∧ (c.setSect j x).avgBad = c.avgBad ∧ (c.setSect j x).avgCnt = c.avgCnt
    ∧ (c.setSect j x).laneDue = c.laneDue ∧ (c.setSect j x).engines = c.engines ∧ (c.setSect j x).sePtr = c.sePtr
    ∧ (c.setSect j x).seFree = c.seFree ∧ (c.setSect j x).cqPtr = c.cqPtr ∧ (c.setSect j x).guardsDone = c.guardsDone
    ∧ (c.setSect j x).flagWrites = c.flagWrites ∧ (c.setSect j x).portRep = c.portRep ∧ (c.setSect j x).drvMem = c.drvMem
    ∧ (c.setSect j x).inMem = c.inMem ∧ (c.setSect j x).convAt = c.convAt ∧ (c.setSect j x).homeFlags = c.homeFlags ∧ (c.setSect j x).pins = c.pins
    ∧ (c.setSect j x).owNext = c.owNext ∧ (c.setSect j x).marks = c.marks ∧ (c.setSect j x).rimTasks = c.rimTasks
    ∧ (c.setSect j x).rimGuards = c.rimGuards ∧ (c.setSect j x).emitted = c.emitted ∧ (c.setSect j x).vloopOk = c.vloopOk
    ∧ (c.setSect j x).vlowDue = c.vlowDue ∧ (c.setSect j x).recPtr = c.recPtr ∧ (c.setSect j x).linkErrs = c.linkErrs
    ∧ (c.setSect j x).linkBad = c.linkBad ∧ (c.setSect j x).capCmds = c.capCmds ∧ (c.setSect j x).causes = c.causes ∧ (c.setSect j x).beat = c.beat
    ∧ (c.setSect j x).boardTick = c.boardTick ∧ (c.setSect j x).lastFrame = c.lastFrame ∧ (c.setSect j x).testNext = c.testNext
    ∧ (c.setSect j x).testAt = c.testAt ∧ (c.setSect j x).tbFree = c.tbFree ∧ (c.setSect j x).chgLast = c.chgLast
    ∧ (c.setSect j x).chgMarks = c.chgMarks ∧ (c.setSect j x).chgSettled = c.chgSettled ∧ (c.setSect j x).watch = c.watch
    ∧ (c.setSect j x).autoArm = c.autoArm ∧ (c.setSect j x).health = c.health ∧ (c.setSect j x).outEn = c.outEn ∧ (c.setSect j x).lnk = c.lnk
    ∧ (c.setSect j x).sec = c.sec ∧ (c.setSect j x).restart = c.restart ∧ (c.setSect j x).restartReq = c.restartReq ∧ (c.setSect j x).ckA = c.ckA
    ∧ (c.setSect j x).ckB = c.ckB ∧ (c.setSect j x).ckNext = c.ckNext ∧ (c.setSect j x).skewPeak = c.skewPeak
    ∧ (c.setSect j x).hotLogic = c.hotLogic ∧ (c.setSect j x).hotField = c.hotField ∧ (c.setSect j x).syncSeen = c.syncSeen
    ∧ (c.setSect j x).axShown = c.axShown ∧ (c.setSect j x).pfCount = c.pfCount ∧ (c.setSect j x).draws = c.draws
    ∧ (c.setSect j x).outReset = c.outReset := by
  simp [Chip.setSect]

@[simp] theorem echoOf_setEcho (c : Chip) (n k : Nat) (e : EchoSt) : (c.setEcho n e).echoOf k = if k = n then e else c.echoOf k :=
  tabGet_tabPut _ _ _ _ _
@[simp] theorem setEcho_frame (c : Chip) (n : Nat) (e : EchoSt) :
    (c.setEcho n e).bankActive = c.bankActive ∧ (c.setEcho n e).bank0 = c.bank0 ∧ (c.setEcho n e).bank1 = c.bank1
    ∧ (c.setEcho n e).walkAnyway = c.walkAnyway ∧ (c.setEcho n e).costAt = c.costAt ∧ (c.setEcho n e).laneMap = c.laneMap
    ∧ (c.setEcho n e).spares = c.spares ∧ (c.setEcho n e).laneOut = c.laneOut ∧ (c.setEcho n e).loops = c.loops ∧ (c.setEcho n e).sos = c.sos
    ∧ (c.setEcho n e).ages = c.ages ∧ (c.setEcho n e).termOn = c.termOn ∧ (c.setEcho n e).termEp = c.termEp ∧ (c.setEcho n e).condOn = c.condOn
    ∧ (c.setEcho n e).tripped = c.tripped ∧ (c.setEcho n e).tasks = c.tasks ∧ (c.setEcho n e).nextStamp = c.nextStamp
    ∧ (c.setEcho n e).flags = c.flags ∧ (c.setEcho n e).mps = c.mps ∧ (c.setEcho n e).axes = c.axes ∧ (c.setEcho n e).ais = c.ais
    ∧ (c.setEcho n e).wls = c.wls ∧ (c.setEcho n e).badSteps = c.badSteps ∧ (c.setEcho n e).ports = c.ports ∧ (c.setEcho n e).fsk = c.fsk
    ∧ (c.setEcho n e).mism = c.mism ∧ (c.setEcho n e).retry = c.retry ∧ (c.setEcho n e).opSec = c.opSec ∧ (c.setEcho n e).caps = c.caps
    ∧ (c.setEcho n e).ping = c.ping ∧ (c.setEcho n e).time = c.time ∧ (c.setEcho n e).net = c.net ∧ (c.setEcho n e).retValid = c.retValid
    ∧ (c.setEcho n e).scrubPos = c.scrubPos ∧ (c.setEcho n e).scrubAt = c.scrubAt ∧ (c.setEcho n e).badMem = c.badMem
    ∧ (c.setEcho n e).twin = c.twin ∧ (c.setEcho n e).tick = c.tick ∧ (c.setEcho n e).phase = c.phase ∧ (c.setEcho n e).tickLen = c.tickLen
    ∧ (c.setEcho n e).perN = c.perN ∧ (c.setEcho n e).cyc = c.cyc ∧ (c.setEcho n e).mem = c.mem ∧ (c.setEcho n e).before = c.before
    ∧ (c.setEcho n e).recMem = c.recMem ∧ (c.setEcho n e).work = c.work ∧ (c.setEcho n e).settled = c.settled ∧ (c.setEcho n e).ring = c.ring
    ∧ (c.setEcho n e).pend = c.pend ∧ (c.setEcho n e).mqueue = c.mqueue ∧ (c.setEcho n e).cqueue = c.cqueue ∧ (c.setEcho n e).dev = c.dev
    ∧ (c.setEcho n e).devBefore = c.devBefore ∧ (c.setEcho n e).pf = c.pf ∧ (c.setEcho n e).devReq = c.devReq ∧ (c.setEcho n e).devAuto = c.devAuto
    ∧ (c.setEcho n e).safeCause = c.safeCause ∧ (c.setEcho n e).autoRun = c.autoRun ∧ (c.setEcho n e).autoCfg = c.autoCfg
    ∧ (c.setEcho n e).sched = c.sched ∧ (c.setEcho n e).doneStr = c.doneStr ∧ (c.setEcho n e).lanesDown = c.lanesDown
    ∧ (c.setEcho n e).overrun = c.overrun ∧ (c.setEcho n e).earlyOver = c.earlyOver ∧ (c.setEcho n e).lastOver = c.lastOver
    ∧ (c.setEcho n e).unforced = c.unforced ∧ (c.setEcho n e).check = c.check ∧ (c.setEcho n e).avgSum = c.avgSum
    ∧ (c.setEcho n e).avgBad = c.avgBad ∧ (c.setEcho n e).avgCnt = c.avgCnt ∧ (c.setEcho n e).laneDue = c.laneDue
    ∧ (c.setEcho n e).engines = c.engines ∧ (c.setEcho n e).sePtr = c.sePtr ∧ (c.setEcho n e).seFree = c.seFree ∧ (c.setEcho n e).cqPtr = c.cqPtr
    ∧ (c.setEcho n e).guardsDone = c.guardsDone ∧ (c.setEcho n e).flagWrites = c.flagWrites ∧ (c.setEcho n e).portRep = c.portRep
    ∧ (c.setEcho n e).drvMem = c.drvMem ∧ (c.setEcho n e).inMem = c.inMem ∧ (c.setEcho n e).convAt = c.convAt
    ∧ (c.setEcho n e).homeFlags = c.homeFlags ∧ (c.setEcho n e).pins = c.pins ∧ (c.setEcho n e).owNext = c.owNext ∧ (c.setEcho n e).marks = c.marks
    ∧ (c.setEcho n e).rimTasks = c.rimTasks ∧ (c.setEcho n e).rimGuards = c.rimGuards ∧ (c.setEcho n e).emitted = c.emitted
    ∧ (c.setEcho n e).vloopOk = c.vloopOk ∧ (c.setEcho n e).vlowDue = c.vlowDue ∧ (c.setEcho n e).recPtr = c.recPtr
    ∧ (c.setEcho n e).linkErrs = c.linkErrs ∧ (c.setEcho n e).linkBad = c.linkBad ∧ (c.setEcho n e).capCmds = c.capCmds
    ∧ (c.setEcho n e).causes = c.causes ∧ (c.setEcho n e).beat = c.beat ∧ (c.setEcho n e).boardTick = c.boardTick
    ∧ (c.setEcho n e).lastFrame = c.lastFrame ∧ (c.setEcho n e).testNext = c.testNext ∧ (c.setEcho n e).testAt = c.testAt
    ∧ (c.setEcho n e).tbFree = c.tbFree ∧ (c.setEcho n e).chgLast = c.chgLast ∧ (c.setEcho n e).chgMarks = c.chgMarks
    ∧ (c.setEcho n e).chgSettled = c.chgSettled ∧ (c.setEcho n e).watch = c.watch ∧ (c.setEcho n e).autoArm = c.autoArm
    ∧ (c.setEcho n e).health = c.health ∧ (c.setEcho n e).outEn = c.outEn ∧ (c.setEcho n e).lnk = c.lnk ∧ (c.setEcho n e).sec = c.sec
    ∧ (c.setEcho n e).restart = c.restart ∧ (c.setEcho n e).restartReq = c.restartReq ∧ (c.setEcho n e).ckA = c.ckA ∧ (c.setEcho n e).ckB = c.ckB
    ∧ (c.setEcho n e).ckNext = c.ckNext ∧ (c.setEcho n e).skewPeak = c.skewPeak ∧ (c.setEcho n e).hotLogic = c.hotLogic
    ∧ (c.setEcho n e).hotField = c.hotField ∧ (c.setEcho n e).syncSeen = c.syncSeen ∧ (c.setEcho n e).axShown = c.axShown
    ∧ (c.setEcho n e).pfCount = c.pfCount ∧ (c.setEcho n e).draws = c.draws ∧ (c.setEcho n e).outReset = c.outReset := by
  simp [Chip.setEcho]

@[simp] theorem task_setTask (c : Chip) (t k : Nat) (x : TaskCtx) : (c.setTask t x).task k = if k = t then x else c.task k :=
  tabGet_tabPut _ _ _ _ _
@[simp] theorem setTask_frame (c : Chip) (t : Nat) (x : TaskCtx) :
    (c.setTask t x).bankActive = c.bankActive ∧ (c.setTask t x).bank0 = c.bank0 ∧ (c.setTask t x).bank1 = c.bank1
    ∧ (c.setTask t x).walkAnyway = c.walkAnyway ∧ (c.setTask t x).costAt = c.costAt ∧ (c.setTask t x).laneMap = c.laneMap
    ∧ (c.setTask t x).spares = c.spares ∧ (c.setTask t x).laneOut = c.laneOut ∧ (c.setTask t x).loops = c.loops ∧ (c.setTask t x).sos = c.sos
    ∧ (c.setTask t x).ages = c.ages ∧ (c.setTask t x).termOn = c.termOn ∧ (c.setTask t x).termEp = c.termEp ∧ (c.setTask t x).condOn = c.condOn
    ∧ (c.setTask t x).tripped = c.tripped ∧ (c.setTask t x).echoes = c.echoes ∧ (c.setTask t x).nextStamp = c.nextStamp
    ∧ (c.setTask t x).flags = c.flags ∧ (c.setTask t x).mps = c.mps ∧ (c.setTask t x).axes = c.axes ∧ (c.setTask t x).ais = c.ais
    ∧ (c.setTask t x).wls = c.wls ∧ (c.setTask t x).badSteps = c.badSteps ∧ (c.setTask t x).ports = c.ports ∧ (c.setTask t x).fsk = c.fsk
    ∧ (c.setTask t x).mism = c.mism ∧ (c.setTask t x).retry = c.retry ∧ (c.setTask t x).opSec = c.opSec ∧ (c.setTask t x).caps = c.caps
    ∧ (c.setTask t x).ping = c.ping ∧ (c.setTask t x).time = c.time ∧ (c.setTask t x).net = c.net ∧ (c.setTask t x).retValid = c.retValid
    ∧ (c.setTask t x).scrubPos = c.scrubPos ∧ (c.setTask t x).scrubAt = c.scrubAt ∧ (c.setTask t x).badMem = c.badMem
    ∧ (c.setTask t x).twin = c.twin ∧ (c.setTask t x).tick = c.tick ∧ (c.setTask t x).phase = c.phase ∧ (c.setTask t x).tickLen = c.tickLen
    ∧ (c.setTask t x).perN = c.perN ∧ (c.setTask t x).cyc = c.cyc ∧ (c.setTask t x).mem = c.mem ∧ (c.setTask t x).before = c.before
    ∧ (c.setTask t x).recMem = c.recMem ∧ (c.setTask t x).work = c.work ∧ (c.setTask t x).settled = c.settled ∧ (c.setTask t x).ring = c.ring
    ∧ (c.setTask t x).pend = c.pend ∧ (c.setTask t x).mqueue = c.mqueue ∧ (c.setTask t x).cqueue = c.cqueue ∧ (c.setTask t x).dev = c.dev
    ∧ (c.setTask t x).devBefore = c.devBefore ∧ (c.setTask t x).pf = c.pf ∧ (c.setTask t x).devReq = c.devReq ∧ (c.setTask t x).devAuto = c.devAuto
    ∧ (c.setTask t x).safeCause = c.safeCause ∧ (c.setTask t x).autoRun = c.autoRun ∧ (c.setTask t x).autoCfg = c.autoCfg
    ∧ (c.setTask t x).sched = c.sched ∧ (c.setTask t x).doneStr = c.doneStr ∧ (c.setTask t x).lanesDown = c.lanesDown
    ∧ (c.setTask t x).overrun = c.overrun ∧ (c.setTask t x).earlyOver = c.earlyOver ∧ (c.setTask t x).lastOver = c.lastOver
    ∧ (c.setTask t x).unforced = c.unforced ∧ (c.setTask t x).check = c.check ∧ (c.setTask t x).avgSum = c.avgSum
    ∧ (c.setTask t x).avgBad = c.avgBad ∧ (c.setTask t x).avgCnt = c.avgCnt ∧ (c.setTask t x).laneDue = c.laneDue
    ∧ (c.setTask t x).engines = c.engines ∧ (c.setTask t x).sePtr = c.sePtr ∧ (c.setTask t x).seFree = c.seFree ∧ (c.setTask t x).cqPtr = c.cqPtr
    ∧ (c.setTask t x).guardsDone = c.guardsDone ∧ (c.setTask t x).flagWrites = c.flagWrites ∧ (c.setTask t x).portRep = c.portRep
    ∧ (c.setTask t x).drvMem = c.drvMem ∧ (c.setTask t x).inMem = c.inMem ∧ (c.setTask t x).convAt = c.convAt
    ∧ (c.setTask t x).homeFlags = c.homeFlags ∧ (c.setTask t x).pins = c.pins ∧ (c.setTask t x).owNext = c.owNext ∧ (c.setTask t x).marks = c.marks
    ∧ (c.setTask t x).rimTasks = c.rimTasks ∧ (c.setTask t x).rimGuards = c.rimGuards ∧ (c.setTask t x).emitted = c.emitted
    ∧ (c.setTask t x).vloopOk = c.vloopOk ∧ (c.setTask t x).vlowDue = c.vlowDue ∧ (c.setTask t x).recPtr = c.recPtr
    ∧ (c.setTask t x).linkErrs = c.linkErrs ∧ (c.setTask t x).linkBad = c.linkBad ∧ (c.setTask t x).capCmds = c.capCmds
    ∧ (c.setTask t x).causes = c.causes ∧ (c.setTask t x).beat = c.beat ∧ (c.setTask t x).boardTick = c.boardTick
    ∧ (c.setTask t x).lastFrame = c.lastFrame ∧ (c.setTask t x).testNext = c.testNext ∧ (c.setTask t x).testAt = c.testAt
    ∧ (c.setTask t x).tbFree = c.tbFree ∧ (c.setTask t x).chgLast = c.chgLast ∧ (c.setTask t x).chgMarks = c.chgMarks
    ∧ (c.setTask t x).chgSettled = c.chgSettled ∧ (c.setTask t x).watch = c.watch ∧ (c.setTask t x).autoArm = c.autoArm
    ∧ (c.setTask t x).health = c.health ∧ (c.setTask t x).outEn = c.outEn ∧ (c.setTask t x).lnk = c.lnk ∧ (c.setTask t x).sec = c.sec
    ∧ (c.setTask t x).restart = c.restart ∧ (c.setTask t x).restartReq = c.restartReq ∧ (c.setTask t x).ckA = c.ckA ∧ (c.setTask t x).ckB = c.ckB
    ∧ (c.setTask t x).ckNext = c.ckNext ∧ (c.setTask t x).skewPeak = c.skewPeak ∧ (c.setTask t x).hotLogic = c.hotLogic
    ∧ (c.setTask t x).hotField = c.hotField ∧ (c.setTask t x).syncSeen = c.syncSeen ∧ (c.setTask t x).axShown = c.axShown
    ∧ (c.setTask t x).pfCount = c.pfCount ∧ (c.setTask t x).draws = c.draws ∧ (c.setTask t x).outReset = c.outReset := by
  simp [Chip.setTask]

@[simp] theorem engine_setEngine (c : Chip) (e k : Nat) (x : EngineSt) : (c.setEngine e x).engine k = if k = e then x else c.engine k :=
  tabGet_tabPut _ _ _ _ _
@[simp] theorem setEngine_frame (c : Chip) (e : Nat) (x : EngineSt) :
    (c.setEngine e x).bankActive = c.bankActive ∧ (c.setEngine e x).bank0 = c.bank0 ∧ (c.setEngine e x).bank1 = c.bank1
    ∧ (c.setEngine e x).walkAnyway = c.walkAnyway ∧ (c.setEngine e x).costAt = c.costAt ∧ (c.setEngine e x).laneMap = c.laneMap
    ∧ (c.setEngine e x).spares = c.spares ∧ (c.setEngine e x).laneOut = c.laneOut ∧ (c.setEngine e x).loops = c.loops
    ∧ (c.setEngine e x).sos = c.sos ∧ (c.setEngine e x).ages = c.ages ∧ (c.setEngine e x).termOn = c.termOn ∧ (c.setEngine e x).termEp = c.termEp
    ∧ (c.setEngine e x).condOn = c.condOn ∧ (c.setEngine e x).tripped = c.tripped ∧ (c.setEngine e x).echoes = c.echoes
    ∧ (c.setEngine e x).tasks = c.tasks ∧ (c.setEngine e x).nextStamp = c.nextStamp ∧ (c.setEngine e x).flags = c.flags
    ∧ (c.setEngine e x).mps = c.mps ∧ (c.setEngine e x).axes = c.axes ∧ (c.setEngine e x).ais = c.ais ∧ (c.setEngine e x).wls = c.wls
    ∧ (c.setEngine e x).badSteps = c.badSteps ∧ (c.setEngine e x).ports = c.ports ∧ (c.setEngine e x).fsk = c.fsk ∧ (c.setEngine e x).mism = c.mism
    ∧ (c.setEngine e x).retry = c.retry ∧ (c.setEngine e x).opSec = c.opSec ∧ (c.setEngine e x).caps = c.caps ∧ (c.setEngine e x).ping = c.ping
    ∧ (c.setEngine e x).time = c.time ∧ (c.setEngine e x).net = c.net ∧ (c.setEngine e x).retValid = c.retValid
    ∧ (c.setEngine e x).scrubPos = c.scrubPos ∧ (c.setEngine e x).scrubAt = c.scrubAt ∧ (c.setEngine e x).badMem = c.badMem
    ∧ (c.setEngine e x).twin = c.twin ∧ (c.setEngine e x).tick = c.tick ∧ (c.setEngine e x).phase = c.phase ∧ (c.setEngine e x).tickLen = c.tickLen
    ∧ (c.setEngine e x).perN = c.perN ∧ (c.setEngine e x).cyc = c.cyc ∧ (c.setEngine e x).mem = c.mem ∧ (c.setEngine e x).before = c.before
    ∧ (c.setEngine e x).recMem = c.recMem ∧ (c.setEngine e x).work = c.work ∧ (c.setEngine e x).settled = c.settled
    ∧ (c.setEngine e x).ring = c.ring ∧ (c.setEngine e x).pend = c.pend ∧ (c.setEngine e x).mqueue = c.mqueue ∧ (c.setEngine e x).cqueue = c.cqueue
    ∧ (c.setEngine e x).dev = c.dev ∧ (c.setEngine e x).devBefore = c.devBefore ∧ (c.setEngine e x).pf = c.pf ∧ (c.setEngine e x).devReq = c.devReq
    ∧ (c.setEngine e x).devAuto = c.devAuto ∧ (c.setEngine e x).safeCause = c.safeCause ∧ (c.setEngine e x).autoRun = c.autoRun
    ∧ (c.setEngine e x).autoCfg = c.autoCfg ∧ (c.setEngine e x).sched = c.sched ∧ (c.setEngine e x).doneStr = c.doneStr
    ∧ (c.setEngine e x).lanesDown = c.lanesDown ∧ (c.setEngine e x).overrun = c.overrun ∧ (c.setEngine e x).earlyOver = c.earlyOver
    ∧ (c.setEngine e x).lastOver = c.lastOver ∧ (c.setEngine e x).unforced = c.unforced ∧ (c.setEngine e x).check = c.check
    ∧ (c.setEngine e x).avgSum = c.avgSum ∧ (c.setEngine e x).avgBad = c.avgBad ∧ (c.setEngine e x).avgCnt = c.avgCnt
    ∧ (c.setEngine e x).laneDue = c.laneDue ∧ (c.setEngine e x).sePtr = c.sePtr ∧ (c.setEngine e x).seFree = c.seFree
    ∧ (c.setEngine e x).cqPtr = c.cqPtr ∧ (c.setEngine e x).guardsDone = c.guardsDone ∧ (c.setEngine e x).flagWrites = c.flagWrites
    ∧ (c.setEngine e x).portRep = c.portRep ∧ (c.setEngine e x).drvMem = c.drvMem ∧ (c.setEngine e x).inMem = c.inMem
    ∧ (c.setEngine e x).convAt = c.convAt ∧ (c.setEngine e x).homeFlags = c.homeFlags ∧ (c.setEngine e x).pins = c.pins
    ∧ (c.setEngine e x).owNext = c.owNext ∧ (c.setEngine e x).marks = c.marks ∧ (c.setEngine e x).rimTasks = c.rimTasks
    ∧ (c.setEngine e x).rimGuards = c.rimGuards ∧ (c.setEngine e x).emitted = c.emitted ∧ (c.setEngine e x).vloopOk = c.vloopOk
    ∧ (c.setEngine e x).vlowDue = c.vlowDue ∧ (c.setEngine e x).recPtr = c.recPtr ∧ (c.setEngine e x).linkErrs = c.linkErrs
    ∧ (c.setEngine e x).linkBad = c.linkBad ∧ (c.setEngine e x).capCmds = c.capCmds ∧ (c.setEngine e x).causes = c.causes
    ∧ (c.setEngine e x).beat = c.beat ∧ (c.setEngine e x).boardTick = c.boardTick ∧ (c.setEngine e x).lastFrame = c.lastFrame
    ∧ (c.setEngine e x).testNext = c.testNext ∧ (c.setEngine e x).testAt = c.testAt ∧ (c.setEngine e x).tbFree = c.tbFree
    ∧ (c.setEngine e x).chgLast = c.chgLast ∧ (c.setEngine e x).chgMarks = c.chgMarks ∧ (c.setEngine e x).chgSettled = c.chgSettled
    ∧ (c.setEngine e x).watch = c.watch ∧ (c.setEngine e x).autoArm = c.autoArm ∧ (c.setEngine e x).health = c.health
    ∧ (c.setEngine e x).outEn = c.outEn ∧ (c.setEngine e x).lnk = c.lnk ∧ (c.setEngine e x).sec = c.sec ∧ (c.setEngine e x).restart = c.restart
    ∧ (c.setEngine e x).restartReq = c.restartReq ∧ (c.setEngine e x).ckA = c.ckA ∧ (c.setEngine e x).ckB = c.ckB
    ∧ (c.setEngine e x).ckNext = c.ckNext ∧ (c.setEngine e x).skewPeak = c.skewPeak ∧ (c.setEngine e x).hotLogic = c.hotLogic
    ∧ (c.setEngine e x).hotField = c.hotField ∧ (c.setEngine e x).syncSeen = c.syncSeen ∧ (c.setEngine e x).axShown = c.axShown
    ∧ (c.setEngine e x).pfCount = c.pfCount ∧ (c.setEngine e x).draws = c.draws ∧ (c.setEngine e x).outReset = c.outReset := by
  simp [Chip.setEngine]

@[simp] theorem mp_setMp (c : Chip) (n k : Nat) (m : MpSt) : (c.setMp n m).mp k = if k = n then m else c.mp k :=
  tabGet_tabPut _ _ _ _ _
@[simp] theorem setMp_frame (c : Chip) (n : Nat) (m : MpSt) :
    (c.setMp n m).bankActive = c.bankActive ∧ (c.setMp n m).bank0 = c.bank0 ∧ (c.setMp n m).bank1 = c.bank1
    ∧ (c.setMp n m).walkAnyway = c.walkAnyway ∧ (c.setMp n m).costAt = c.costAt ∧ (c.setMp n m).laneMap = c.laneMap
    ∧ (c.setMp n m).spares = c.spares ∧ (c.setMp n m).laneOut = c.laneOut ∧ (c.setMp n m).loops = c.loops ∧ (c.setMp n m).sos = c.sos
    ∧ (c.setMp n m).ages = c.ages ∧ (c.setMp n m).termOn = c.termOn ∧ (c.setMp n m).termEp = c.termEp ∧ (c.setMp n m).condOn = c.condOn
    ∧ (c.setMp n m).tripped = c.tripped ∧ (c.setMp n m).echoes = c.echoes ∧ (c.setMp n m).tasks = c.tasks ∧ (c.setMp n m).nextStamp = c.nextStamp
    ∧ (c.setMp n m).flags = c.flags ∧ (c.setMp n m).axes = c.axes ∧ (c.setMp n m).ais = c.ais ∧ (c.setMp n m).wls = c.wls
    ∧ (c.setMp n m).badSteps = c.badSteps ∧ (c.setMp n m).ports = c.ports ∧ (c.setMp n m).fsk = c.fsk ∧ (c.setMp n m).mism = c.mism
    ∧ (c.setMp n m).retry = c.retry ∧ (c.setMp n m).opSec = c.opSec ∧ (c.setMp n m).caps = c.caps ∧ (c.setMp n m).ping = c.ping
    ∧ (c.setMp n m).time = c.time ∧ (c.setMp n m).net = c.net ∧ (c.setMp n m).retValid = c.retValid ∧ (c.setMp n m).scrubPos = c.scrubPos
    ∧ (c.setMp n m).scrubAt = c.scrubAt ∧ (c.setMp n m).badMem = c.badMem ∧ (c.setMp n m).twin = c.twin ∧ (c.setMp n m).tick = c.tick
    ∧ (c.setMp n m).phase = c.phase ∧ (c.setMp n m).tickLen = c.tickLen ∧ (c.setMp n m).perN = c.perN ∧ (c.setMp n m).cyc = c.cyc
    ∧ (c.setMp n m).mem = c.mem ∧ (c.setMp n m).before = c.before ∧ (c.setMp n m).recMem = c.recMem ∧ (c.setMp n m).work = c.work
    ∧ (c.setMp n m).settled = c.settled ∧ (c.setMp n m).ring = c.ring ∧ (c.setMp n m).pend = c.pend ∧ (c.setMp n m).mqueue = c.mqueue
    ∧ (c.setMp n m).cqueue = c.cqueue ∧ (c.setMp n m).dev = c.dev ∧ (c.setMp n m).devBefore = c.devBefore ∧ (c.setMp n m).pf = c.pf
    ∧ (c.setMp n m).devReq = c.devReq ∧ (c.setMp n m).devAuto = c.devAuto ∧ (c.setMp n m).safeCause = c.safeCause
    ∧ (c.setMp n m).autoRun = c.autoRun ∧ (c.setMp n m).autoCfg = c.autoCfg ∧ (c.setMp n m).sched = c.sched ∧ (c.setMp n m).doneStr = c.doneStr
    ∧ (c.setMp n m).lanesDown = c.lanesDown ∧ (c.setMp n m).overrun = c.overrun ∧ (c.setMp n m).earlyOver = c.earlyOver
    ∧ (c.setMp n m).lastOver = c.lastOver ∧ (c.setMp n m).unforced = c.unforced ∧ (c.setMp n m).check = c.check ∧ (c.setMp n m).avgSum = c.avgSum
    ∧ (c.setMp n m).avgBad = c.avgBad ∧ (c.setMp n m).avgCnt = c.avgCnt ∧ (c.setMp n m).laneDue = c.laneDue ∧ (c.setMp n m).engines = c.engines
    ∧ (c.setMp n m).sePtr = c.sePtr ∧ (c.setMp n m).seFree = c.seFree ∧ (c.setMp n m).cqPtr = c.cqPtr ∧ (c.setMp n m).guardsDone = c.guardsDone
    ∧ (c.setMp n m).flagWrites = c.flagWrites ∧ (c.setMp n m).portRep = c.portRep ∧ (c.setMp n m).drvMem = c.drvMem ∧ (c.setMp n m).inMem = c.inMem
    ∧ (c.setMp n m).convAt = c.convAt ∧ (c.setMp n m).homeFlags = c.homeFlags ∧ (c.setMp n m).pins = c.pins ∧ (c.setMp n m).owNext = c.owNext
    ∧ (c.setMp n m).marks = c.marks ∧ (c.setMp n m).rimTasks = c.rimTasks ∧ (c.setMp n m).rimGuards = c.rimGuards
    ∧ (c.setMp n m).emitted = c.emitted ∧ (c.setMp n m).vloopOk = c.vloopOk ∧ (c.setMp n m).vlowDue = c.vlowDue ∧ (c.setMp n m).recPtr = c.recPtr
    ∧ (c.setMp n m).linkErrs = c.linkErrs ∧ (c.setMp n m).linkBad = c.linkBad ∧ (c.setMp n m).capCmds = c.capCmds ∧ (c.setMp n m).causes = c.causes
    ∧ (c.setMp n m).beat = c.beat ∧ (c.setMp n m).boardTick = c.boardTick ∧ (c.setMp n m).lastFrame = c.lastFrame
    ∧ (c.setMp n m).testNext = c.testNext ∧ (c.setMp n m).testAt = c.testAt ∧ (c.setMp n m).tbFree = c.tbFree ∧ (c.setMp n m).chgLast = c.chgLast
    ∧ (c.setMp n m).chgMarks = c.chgMarks ∧ (c.setMp n m).chgSettled = c.chgSettled ∧ (c.setMp n m).watch = c.watch
    ∧ (c.setMp n m).autoArm = c.autoArm ∧ (c.setMp n m).health = c.health ∧ (c.setMp n m).outEn = c.outEn ∧ (c.setMp n m).lnk = c.lnk
    ∧ (c.setMp n m).sec = c.sec ∧ (c.setMp n m).restart = c.restart ∧ (c.setMp n m).restartReq = c.restartReq ∧ (c.setMp n m).ckA = c.ckA
    ∧ (c.setMp n m).ckB = c.ckB ∧ (c.setMp n m).ckNext = c.ckNext ∧ (c.setMp n m).skewPeak = c.skewPeak ∧ (c.setMp n m).hotLogic = c.hotLogic
    ∧ (c.setMp n m).hotField = c.hotField ∧ (c.setMp n m).syncSeen = c.syncSeen ∧ (c.setMp n m).axShown = c.axShown
    ∧ (c.setMp n m).pfCount = c.pfCount ∧ (c.setMp n m).draws = c.draws ∧ (c.setMp n m).outReset = c.outReset := by
  simp [Chip.setMp]

@[simp] theorem ax_setAx (c : Chip) (n k : Nat) (a : AxSt) : (c.setAx n a).ax k = if k = n then a else c.ax k :=
  tabGet_tabPut _ _ _ _ _
@[simp] theorem setAx_frame (c : Chip) (n : Nat) (a : AxSt) :
    (c.setAx n a).bankActive = c.bankActive ∧ (c.setAx n a).bank0 = c.bank0 ∧ (c.setAx n a).bank1 = c.bank1
    ∧ (c.setAx n a).walkAnyway = c.walkAnyway ∧ (c.setAx n a).costAt = c.costAt ∧ (c.setAx n a).laneMap = c.laneMap
    ∧ (c.setAx n a).spares = c.spares ∧ (c.setAx n a).laneOut = c.laneOut ∧ (c.setAx n a).loops = c.loops ∧ (c.setAx n a).sos = c.sos
    ∧ (c.setAx n a).ages = c.ages ∧ (c.setAx n a).termOn = c.termOn ∧ (c.setAx n a).termEp = c.termEp ∧ (c.setAx n a).condOn = c.condOn
    ∧ (c.setAx n a).tripped = c.tripped ∧ (c.setAx n a).echoes = c.echoes ∧ (c.setAx n a).tasks = c.tasks ∧ (c.setAx n a).nextStamp = c.nextStamp
    ∧ (c.setAx n a).flags = c.flags ∧ (c.setAx n a).mps = c.mps ∧ (c.setAx n a).ais = c.ais ∧ (c.setAx n a).wls = c.wls
    ∧ (c.setAx n a).badSteps = c.badSteps ∧ (c.setAx n a).ports = c.ports ∧ (c.setAx n a).fsk = c.fsk ∧ (c.setAx n a).mism = c.mism
    ∧ (c.setAx n a).retry = c.retry ∧ (c.setAx n a).opSec = c.opSec ∧ (c.setAx n a).caps = c.caps ∧ (c.setAx n a).ping = c.ping
    ∧ (c.setAx n a).time = c.time ∧ (c.setAx n a).net = c.net ∧ (c.setAx n a).retValid = c.retValid ∧ (c.setAx n a).scrubPos = c.scrubPos
    ∧ (c.setAx n a).scrubAt = c.scrubAt ∧ (c.setAx n a).badMem = c.badMem ∧ (c.setAx n a).twin = c.twin ∧ (c.setAx n a).tick = c.tick
    ∧ (c.setAx n a).phase = c.phase ∧ (c.setAx n a).tickLen = c.tickLen ∧ (c.setAx n a).perN = c.perN ∧ (c.setAx n a).cyc = c.cyc
    ∧ (c.setAx n a).mem = c.mem ∧ (c.setAx n a).before = c.before ∧ (c.setAx n a).recMem = c.recMem ∧ (c.setAx n a).work = c.work
    ∧ (c.setAx n a).settled = c.settled ∧ (c.setAx n a).ring = c.ring ∧ (c.setAx n a).pend = c.pend ∧ (c.setAx n a).mqueue = c.mqueue
    ∧ (c.setAx n a).cqueue = c.cqueue ∧ (c.setAx n a).dev = c.dev ∧ (c.setAx n a).devBefore = c.devBefore ∧ (c.setAx n a).pf = c.pf
    ∧ (c.setAx n a).devReq = c.devReq ∧ (c.setAx n a).devAuto = c.devAuto ∧ (c.setAx n a).safeCause = c.safeCause
    ∧ (c.setAx n a).autoRun = c.autoRun ∧ (c.setAx n a).autoCfg = c.autoCfg ∧ (c.setAx n a).sched = c.sched ∧ (c.setAx n a).doneStr = c.doneStr
    ∧ (c.setAx n a).lanesDown = c.lanesDown ∧ (c.setAx n a).overrun = c.overrun ∧ (c.setAx n a).earlyOver = c.earlyOver
    ∧ (c.setAx n a).lastOver = c.lastOver ∧ (c.setAx n a).unforced = c.unforced ∧ (c.setAx n a).check = c.check ∧ (c.setAx n a).avgSum = c.avgSum
    ∧ (c.setAx n a).avgBad = c.avgBad ∧ (c.setAx n a).avgCnt = c.avgCnt ∧ (c.setAx n a).laneDue = c.laneDue ∧ (c.setAx n a).engines = c.engines
    ∧ (c.setAx n a).sePtr = c.sePtr ∧ (c.setAx n a).seFree = c.seFree ∧ (c.setAx n a).cqPtr = c.cqPtr ∧ (c.setAx n a).guardsDone = c.guardsDone
    ∧ (c.setAx n a).flagWrites = c.flagWrites ∧ (c.setAx n a).portRep = c.portRep ∧ (c.setAx n a).drvMem = c.drvMem ∧ (c.setAx n a).inMem = c.inMem
    ∧ (c.setAx n a).convAt = c.convAt ∧ (c.setAx n a).homeFlags = c.homeFlags ∧ (c.setAx n a).pins = c.pins ∧ (c.setAx n a).owNext = c.owNext
    ∧ (c.setAx n a).marks = c.marks ∧ (c.setAx n a).rimTasks = c.rimTasks ∧ (c.setAx n a).rimGuards = c.rimGuards
    ∧ (c.setAx n a).emitted = c.emitted ∧ (c.setAx n a).vloopOk = c.vloopOk ∧ (c.setAx n a).vlowDue = c.vlowDue ∧ (c.setAx n a).recPtr = c.recPtr
    ∧ (c.setAx n a).linkErrs = c.linkErrs ∧ (c.setAx n a).linkBad = c.linkBad ∧ (c.setAx n a).capCmds = c.capCmds ∧ (c.setAx n a).causes = c.causes
    ∧ (c.setAx n a).beat = c.beat ∧ (c.setAx n a).boardTick = c.boardTick ∧ (c.setAx n a).lastFrame = c.lastFrame
    ∧ (c.setAx n a).testNext = c.testNext ∧ (c.setAx n a).testAt = c.testAt ∧ (c.setAx n a).tbFree = c.tbFree ∧ (c.setAx n a).chgLast = c.chgLast
    ∧ (c.setAx n a).chgMarks = c.chgMarks ∧ (c.setAx n a).chgSettled = c.chgSettled ∧ (c.setAx n a).watch = c.watch
    ∧ (c.setAx n a).autoArm = c.autoArm ∧ (c.setAx n a).health = c.health ∧ (c.setAx n a).outEn = c.outEn ∧ (c.setAx n a).lnk = c.lnk
    ∧ (c.setAx n a).sec = c.sec ∧ (c.setAx n a).restart = c.restart ∧ (c.setAx n a).restartReq = c.restartReq ∧ (c.setAx n a).ckA = c.ckA
    ∧ (c.setAx n a).ckB = c.ckB ∧ (c.setAx n a).ckNext = c.ckNext ∧ (c.setAx n a).skewPeak = c.skewPeak ∧ (c.setAx n a).hotLogic = c.hotLogic
    ∧ (c.setAx n a).hotField = c.hotField ∧ (c.setAx n a).syncSeen = c.syncSeen ∧ (c.setAx n a).axShown = c.axShown
    ∧ (c.setAx n a).pfCount = c.pfCount ∧ (c.setAx n a).draws = c.draws ∧ (c.setAx n a).outReset = c.outReset := by
  simp [Chip.setAx]

@[simp] theorem ai_setAi (c : Chip) (n k : Nat) (a : AiSt) : (c.setAi n a).ai k = if k = n then a else c.ai k :=
  tabGet_tabPut _ _ _ _ _
@[simp] theorem setAi_frame (c : Chip) (n : Nat) (a : AiSt) :
    (c.setAi n a).bankActive = c.bankActive ∧ (c.setAi n a).bank0 = c.bank0 ∧ (c.setAi n a).bank1 = c.bank1
    ∧ (c.setAi n a).walkAnyway = c.walkAnyway ∧ (c.setAi n a).costAt = c.costAt ∧ (c.setAi n a).laneMap = c.laneMap
    ∧ (c.setAi n a).spares = c.spares ∧ (c.setAi n a).laneOut = c.laneOut ∧ (c.setAi n a).loops = c.loops ∧ (c.setAi n a).sos = c.sos
    ∧ (c.setAi n a).ages = c.ages ∧ (c.setAi n a).termOn = c.termOn ∧ (c.setAi n a).termEp = c.termEp ∧ (c.setAi n a).condOn = c.condOn
    ∧ (c.setAi n a).tripped = c.tripped ∧ (c.setAi n a).echoes = c.echoes ∧ (c.setAi n a).tasks = c.tasks ∧ (c.setAi n a).nextStamp = c.nextStamp
    ∧ (c.setAi n a).flags = c.flags ∧ (c.setAi n a).mps = c.mps ∧ (c.setAi n a).axes = c.axes ∧ (c.setAi n a).wls = c.wls
    ∧ (c.setAi n a).badSteps = c.badSteps ∧ (c.setAi n a).ports = c.ports ∧ (c.setAi n a).fsk = c.fsk ∧ (c.setAi n a).mism = c.mism
    ∧ (c.setAi n a).retry = c.retry ∧ (c.setAi n a).opSec = c.opSec ∧ (c.setAi n a).caps = c.caps ∧ (c.setAi n a).ping = c.ping
    ∧ (c.setAi n a).time = c.time ∧ (c.setAi n a).net = c.net ∧ (c.setAi n a).retValid = c.retValid ∧ (c.setAi n a).scrubPos = c.scrubPos
    ∧ (c.setAi n a).scrubAt = c.scrubAt ∧ (c.setAi n a).badMem = c.badMem ∧ (c.setAi n a).twin = c.twin ∧ (c.setAi n a).tick = c.tick
    ∧ (c.setAi n a).phase = c.phase ∧ (c.setAi n a).tickLen = c.tickLen ∧ (c.setAi n a).perN = c.perN ∧ (c.setAi n a).cyc = c.cyc
    ∧ (c.setAi n a).mem = c.mem ∧ (c.setAi n a).before = c.before ∧ (c.setAi n a).recMem = c.recMem ∧ (c.setAi n a).work = c.work
    ∧ (c.setAi n a).settled = c.settled ∧ (c.setAi n a).ring = c.ring ∧ (c.setAi n a).pend = c.pend ∧ (c.setAi n a).mqueue = c.mqueue
    ∧ (c.setAi n a).cqueue = c.cqueue ∧ (c.setAi n a).dev = c.dev ∧ (c.setAi n a).devBefore = c.devBefore ∧ (c.setAi n a).pf = c.pf
    ∧ (c.setAi n a).devReq = c.devReq ∧ (c.setAi n a).devAuto = c.devAuto ∧ (c.setAi n a).safeCause = c.safeCause
    ∧ (c.setAi n a).autoRun = c.autoRun ∧ (c.setAi n a).autoCfg = c.autoCfg ∧ (c.setAi n a).sched = c.sched ∧ (c.setAi n a).doneStr = c.doneStr
    ∧ (c.setAi n a).lanesDown = c.lanesDown ∧ (c.setAi n a).overrun = c.overrun ∧ (c.setAi n a).earlyOver = c.earlyOver
    ∧ (c.setAi n a).lastOver = c.lastOver ∧ (c.setAi n a).unforced = c.unforced ∧ (c.setAi n a).check = c.check ∧ (c.setAi n a).avgSum = c.avgSum
    ∧ (c.setAi n a).avgBad = c.avgBad ∧ (c.setAi n a).avgCnt = c.avgCnt ∧ (c.setAi n a).laneDue = c.laneDue ∧ (c.setAi n a).engines = c.engines
    ∧ (c.setAi n a).sePtr = c.sePtr ∧ (c.setAi n a).seFree = c.seFree ∧ (c.setAi n a).cqPtr = c.cqPtr ∧ (c.setAi n a).guardsDone = c.guardsDone
    ∧ (c.setAi n a).flagWrites = c.flagWrites ∧ (c.setAi n a).portRep = c.portRep ∧ (c.setAi n a).drvMem = c.drvMem ∧ (c.setAi n a).inMem = c.inMem
    ∧ (c.setAi n a).convAt = c.convAt ∧ (c.setAi n a).homeFlags = c.homeFlags ∧ (c.setAi n a).pins = c.pins ∧ (c.setAi n a).owNext = c.owNext
    ∧ (c.setAi n a).marks = c.marks ∧ (c.setAi n a).rimTasks = c.rimTasks ∧ (c.setAi n a).rimGuards = c.rimGuards
    ∧ (c.setAi n a).emitted = c.emitted ∧ (c.setAi n a).vloopOk = c.vloopOk ∧ (c.setAi n a).vlowDue = c.vlowDue ∧ (c.setAi n a).recPtr = c.recPtr
    ∧ (c.setAi n a).linkErrs = c.linkErrs ∧ (c.setAi n a).linkBad = c.linkBad ∧ (c.setAi n a).capCmds = c.capCmds ∧ (c.setAi n a).causes = c.causes
    ∧ (c.setAi n a).beat = c.beat ∧ (c.setAi n a).boardTick = c.boardTick ∧ (c.setAi n a).lastFrame = c.lastFrame
    ∧ (c.setAi n a).testNext = c.testNext ∧ (c.setAi n a).testAt = c.testAt ∧ (c.setAi n a).tbFree = c.tbFree ∧ (c.setAi n a).chgLast = c.chgLast
    ∧ (c.setAi n a).chgMarks = c.chgMarks ∧ (c.setAi n a).chgSettled = c.chgSettled ∧ (c.setAi n a).watch = c.watch
    ∧ (c.setAi n a).autoArm = c.autoArm ∧ (c.setAi n a).health = c.health ∧ (c.setAi n a).outEn = c.outEn ∧ (c.setAi n a).lnk = c.lnk
    ∧ (c.setAi n a).sec = c.sec ∧ (c.setAi n a).restart = c.restart ∧ (c.setAi n a).restartReq = c.restartReq ∧ (c.setAi n a).ckA = c.ckA
    ∧ (c.setAi n a).ckB = c.ckB ∧ (c.setAi n a).ckNext = c.ckNext ∧ (c.setAi n a).skewPeak = c.skewPeak ∧ (c.setAi n a).hotLogic = c.hotLogic
    ∧ (c.setAi n a).hotField = c.hotField ∧ (c.setAi n a).syncSeen = c.syncSeen ∧ (c.setAi n a).axShown = c.axShown
    ∧ (c.setAi n a).pfCount = c.pfCount ∧ (c.setAi n a).draws = c.draws ∧ (c.setAi n a).outReset = c.outReset := by
  simp [Chip.setAi]

@[simp] theorem pin_setPin (c : Chip) (n k : Nat) (p : PinSt) : (c.setPin n p).pin k = if k = n then p else c.pin k :=
  tabGet_tabPut _ _ _ _ _
@[simp] theorem setPin_frame (c : Chip) (n : Nat) (p : PinSt) :
    (c.setPin n p).bankActive = c.bankActive ∧ (c.setPin n p).bank0 = c.bank0 ∧ (c.setPin n p).bank1 = c.bank1
    ∧ (c.setPin n p).walkAnyway = c.walkAnyway ∧ (c.setPin n p).costAt = c.costAt ∧ (c.setPin n p).laneMap = c.laneMap
    ∧ (c.setPin n p).spares = c.spares ∧ (c.setPin n p).laneOut = c.laneOut ∧ (c.setPin n p).loops = c.loops ∧ (c.setPin n p).sos = c.sos
    ∧ (c.setPin n p).ages = c.ages ∧ (c.setPin n p).termOn = c.termOn ∧ (c.setPin n p).termEp = c.termEp ∧ (c.setPin n p).condOn = c.condOn
    ∧ (c.setPin n p).tripped = c.tripped ∧ (c.setPin n p).echoes = c.echoes ∧ (c.setPin n p).tasks = c.tasks
    ∧ (c.setPin n p).nextStamp = c.nextStamp ∧ (c.setPin n p).flags = c.flags ∧ (c.setPin n p).mps = c.mps ∧ (c.setPin n p).axes = c.axes
    ∧ (c.setPin n p).ais = c.ais ∧ (c.setPin n p).wls = c.wls ∧ (c.setPin n p).badSteps = c.badSteps ∧ (c.setPin n p).ports = c.ports
    ∧ (c.setPin n p).fsk = c.fsk ∧ (c.setPin n p).mism = c.mism ∧ (c.setPin n p).retry = c.retry ∧ (c.setPin n p).opSec = c.opSec
    ∧ (c.setPin n p).caps = c.caps ∧ (c.setPin n p).ping = c.ping ∧ (c.setPin n p).time = c.time ∧ (c.setPin n p).net = c.net
    ∧ (c.setPin n p).retValid = c.retValid ∧ (c.setPin n p).scrubPos = c.scrubPos ∧ (c.setPin n p).scrubAt = c.scrubAt
    ∧ (c.setPin n p).badMem = c.badMem ∧ (c.setPin n p).twin = c.twin ∧ (c.setPin n p).tick = c.tick ∧ (c.setPin n p).phase = c.phase
    ∧ (c.setPin n p).tickLen = c.tickLen ∧ (c.setPin n p).perN = c.perN ∧ (c.setPin n p).cyc = c.cyc ∧ (c.setPin n p).mem = c.mem
    ∧ (c.setPin n p).before = c.before ∧ (c.setPin n p).recMem = c.recMem ∧ (c.setPin n p).work = c.work ∧ (c.setPin n p).settled = c.settled
    ∧ (c.setPin n p).ring = c.ring ∧ (c.setPin n p).pend = c.pend ∧ (c.setPin n p).mqueue = c.mqueue ∧ (c.setPin n p).cqueue = c.cqueue
    ∧ (c.setPin n p).dev = c.dev ∧ (c.setPin n p).devBefore = c.devBefore ∧ (c.setPin n p).pf = c.pf ∧ (c.setPin n p).devReq = c.devReq
    ∧ (c.setPin n p).devAuto = c.devAuto ∧ (c.setPin n p).safeCause = c.safeCause ∧ (c.setPin n p).autoRun = c.autoRun
    ∧ (c.setPin n p).autoCfg = c.autoCfg ∧ (c.setPin n p).sched = c.sched ∧ (c.setPin n p).doneStr = c.doneStr
    ∧ (c.setPin n p).lanesDown = c.lanesDown ∧ (c.setPin n p).overrun = c.overrun ∧ (c.setPin n p).earlyOver = c.earlyOver
    ∧ (c.setPin n p).lastOver = c.lastOver ∧ (c.setPin n p).unforced = c.unforced ∧ (c.setPin n p).check = c.check
    ∧ (c.setPin n p).avgSum = c.avgSum ∧ (c.setPin n p).avgBad = c.avgBad ∧ (c.setPin n p).avgCnt = c.avgCnt ∧ (c.setPin n p).laneDue = c.laneDue
    ∧ (c.setPin n p).engines = c.engines ∧ (c.setPin n p).sePtr = c.sePtr ∧ (c.setPin n p).seFree = c.seFree ∧ (c.setPin n p).cqPtr = c.cqPtr
    ∧ (c.setPin n p).guardsDone = c.guardsDone ∧ (c.setPin n p).flagWrites = c.flagWrites ∧ (c.setPin n p).portRep = c.portRep
    ∧ (c.setPin n p).drvMem = c.drvMem ∧ (c.setPin n p).inMem = c.inMem ∧ (c.setPin n p).convAt = c.convAt ∧ (c.setPin n p).homeFlags = c.homeFlags
    ∧ (c.setPin n p).owNext = c.owNext ∧ (c.setPin n p).marks = c.marks ∧ (c.setPin n p).rimTasks = c.rimTasks
    ∧ (c.setPin n p).rimGuards = c.rimGuards ∧ (c.setPin n p).emitted = c.emitted ∧ (c.setPin n p).vloopOk = c.vloopOk
    ∧ (c.setPin n p).vlowDue = c.vlowDue ∧ (c.setPin n p).recPtr = c.recPtr ∧ (c.setPin n p).linkErrs = c.linkErrs
    ∧ (c.setPin n p).linkBad = c.linkBad ∧ (c.setPin n p).capCmds = c.capCmds ∧ (c.setPin n p).causes = c.causes ∧ (c.setPin n p).beat = c.beat
    ∧ (c.setPin n p).boardTick = c.boardTick ∧ (c.setPin n p).lastFrame = c.lastFrame ∧ (c.setPin n p).testNext = c.testNext
    ∧ (c.setPin n p).testAt = c.testAt ∧ (c.setPin n p).tbFree = c.tbFree ∧ (c.setPin n p).chgLast = c.chgLast
    ∧ (c.setPin n p).chgMarks = c.chgMarks ∧ (c.setPin n p).chgSettled = c.chgSettled ∧ (c.setPin n p).watch = c.watch
    ∧ (c.setPin n p).autoArm = c.autoArm ∧ (c.setPin n p).health = c.health ∧ (c.setPin n p).outEn = c.outEn ∧ (c.setPin n p).lnk = c.lnk
    ∧ (c.setPin n p).sec = c.sec ∧ (c.setPin n p).restart = c.restart ∧ (c.setPin n p).restartReq = c.restartReq ∧ (c.setPin n p).ckA = c.ckA
    ∧ (c.setPin n p).ckB = c.ckB ∧ (c.setPin n p).ckNext = c.ckNext ∧ (c.setPin n p).skewPeak = c.skewPeak ∧ (c.setPin n p).hotLogic = c.hotLogic
    ∧ (c.setPin n p).hotField = c.hotField ∧ (c.setPin n p).syncSeen = c.syncSeen ∧ (c.setPin n p).axShown = c.axShown
    ∧ (c.setPin n p).pfCount = c.pfCount ∧ (c.setPin n p).draws = c.draws ∧ (c.setPin n p).outReset = c.outReset := by
  simp [Chip.setPin]

@[simp] theorem wl_setWl (c : Chip) (n k : Nat) (w : WlSt) : (c.setWl n w).wl k = if k = n then w else c.wl k :=
  tabGet_tabPut _ _ _ _ _
@[simp] theorem setWl_frame (c : Chip) (n : Nat) (w : WlSt) :
    (c.setWl n w).bankActive = c.bankActive ∧ (c.setWl n w).bank0 = c.bank0 ∧ (c.setWl n w).bank1 = c.bank1
    ∧ (c.setWl n w).walkAnyway = c.walkAnyway ∧ (c.setWl n w).costAt = c.costAt ∧ (c.setWl n w).laneMap = c.laneMap
    ∧ (c.setWl n w).spares = c.spares ∧ (c.setWl n w).laneOut = c.laneOut ∧ (c.setWl n w).loops = c.loops ∧ (c.setWl n w).sos = c.sos
    ∧ (c.setWl n w).ages = c.ages ∧ (c.setWl n w).termOn = c.termOn ∧ (c.setWl n w).termEp = c.termEp ∧ (c.setWl n w).condOn = c.condOn
    ∧ (c.setWl n w).tripped = c.tripped ∧ (c.setWl n w).echoes = c.echoes ∧ (c.setWl n w).tasks = c.tasks ∧ (c.setWl n w).nextStamp = c.nextStamp
    ∧ (c.setWl n w).flags = c.flags ∧ (c.setWl n w).mps = c.mps ∧ (c.setWl n w).axes = c.axes ∧ (c.setWl n w).ais = c.ais
    ∧ (c.setWl n w).badSteps = c.badSteps ∧ (c.setWl n w).ports = c.ports ∧ (c.setWl n w).fsk = c.fsk ∧ (c.setWl n w).mism = c.mism
    ∧ (c.setWl n w).retry = c.retry ∧ (c.setWl n w).opSec = c.opSec ∧ (c.setWl n w).caps = c.caps ∧ (c.setWl n w).ping = c.ping
    ∧ (c.setWl n w).time = c.time ∧ (c.setWl n w).net = c.net ∧ (c.setWl n w).retValid = c.retValid ∧ (c.setWl n w).scrubPos = c.scrubPos
    ∧ (c.setWl n w).scrubAt = c.scrubAt ∧ (c.setWl n w).badMem = c.badMem ∧ (c.setWl n w).twin = c.twin ∧ (c.setWl n w).tick = c.tick
    ∧ (c.setWl n w).phase = c.phase ∧ (c.setWl n w).tickLen = c.tickLen ∧ (c.setWl n w).perN = c.perN ∧ (c.setWl n w).cyc = c.cyc
    ∧ (c.setWl n w).mem = c.mem ∧ (c.setWl n w).before = c.before ∧ (c.setWl n w).recMem = c.recMem ∧ (c.setWl n w).work = c.work
    ∧ (c.setWl n w).settled = c.settled ∧ (c.setWl n w).ring = c.ring ∧ (c.setWl n w).pend = c.pend ∧ (c.setWl n w).mqueue = c.mqueue
    ∧ (c.setWl n w).cqueue = c.cqueue ∧ (c.setWl n w).dev = c.dev ∧ (c.setWl n w).devBefore = c.devBefore ∧ (c.setWl n w).pf = c.pf
    ∧ (c.setWl n w).devReq = c.devReq ∧ (c.setWl n w).devAuto = c.devAuto ∧ (c.setWl n w).safeCause = c.safeCause
    ∧ (c.setWl n w).autoRun = c.autoRun ∧ (c.setWl n w).autoCfg = c.autoCfg ∧ (c.setWl n w).sched = c.sched ∧ (c.setWl n w).doneStr = c.doneStr
    ∧ (c.setWl n w).lanesDown = c.lanesDown ∧ (c.setWl n w).overrun = c.overrun ∧ (c.setWl n w).earlyOver = c.earlyOver
    ∧ (c.setWl n w).lastOver = c.lastOver ∧ (c.setWl n w).unforced = c.unforced ∧ (c.setWl n w).check = c.check ∧ (c.setWl n w).avgSum = c.avgSum
    ∧ (c.setWl n w).avgBad = c.avgBad ∧ (c.setWl n w).avgCnt = c.avgCnt ∧ (c.setWl n w).laneDue = c.laneDue ∧ (c.setWl n w).engines = c.engines
    ∧ (c.setWl n w).sePtr = c.sePtr ∧ (c.setWl n w).seFree = c.seFree ∧ (c.setWl n w).cqPtr = c.cqPtr ∧ (c.setWl n w).guardsDone = c.guardsDone
    ∧ (c.setWl n w).flagWrites = c.flagWrites ∧ (c.setWl n w).portRep = c.portRep ∧ (c.setWl n w).drvMem = c.drvMem ∧ (c.setWl n w).inMem = c.inMem
    ∧ (c.setWl n w).convAt = c.convAt ∧ (c.setWl n w).homeFlags = c.homeFlags ∧ (c.setWl n w).pins = c.pins ∧ (c.setWl n w).owNext = c.owNext
    ∧ (c.setWl n w).marks = c.marks ∧ (c.setWl n w).rimTasks = c.rimTasks ∧ (c.setWl n w).rimGuards = c.rimGuards
    ∧ (c.setWl n w).emitted = c.emitted ∧ (c.setWl n w).vloopOk = c.vloopOk ∧ (c.setWl n w).vlowDue = c.vlowDue ∧ (c.setWl n w).recPtr = c.recPtr
    ∧ (c.setWl n w).linkErrs = c.linkErrs ∧ (c.setWl n w).linkBad = c.linkBad ∧ (c.setWl n w).capCmds = c.capCmds ∧ (c.setWl n w).causes = c.causes
    ∧ (c.setWl n w).beat = c.beat ∧ (c.setWl n w).boardTick = c.boardTick ∧ (c.setWl n w).lastFrame = c.lastFrame
    ∧ (c.setWl n w).testNext = c.testNext ∧ (c.setWl n w).testAt = c.testAt ∧ (c.setWl n w).tbFree = c.tbFree ∧ (c.setWl n w).chgLast = c.chgLast
    ∧ (c.setWl n w).chgMarks = c.chgMarks ∧ (c.setWl n w).chgSettled = c.chgSettled ∧ (c.setWl n w).watch = c.watch
    ∧ (c.setWl n w).autoArm = c.autoArm ∧ (c.setWl n w).health = c.health ∧ (c.setWl n w).outEn = c.outEn ∧ (c.setWl n w).lnk = c.lnk
    ∧ (c.setWl n w).sec = c.sec ∧ (c.setWl n w).restart = c.restart ∧ (c.setWl n w).restartReq = c.restartReq ∧ (c.setWl n w).ckA = c.ckA
    ∧ (c.setWl n w).ckB = c.ckB ∧ (c.setWl n w).ckNext = c.ckNext ∧ (c.setWl n w).skewPeak = c.skewPeak ∧ (c.setWl n w).hotLogic = c.hotLogic
    ∧ (c.setWl n w).hotField = c.hotField ∧ (c.setWl n w).syncSeen = c.syncSeen ∧ (c.setWl n w).axShown = c.axShown
    ∧ (c.setWl n w).pfCount = c.pfCount ∧ (c.setWl n w).draws = c.draws ∧ (c.setWl n w).outReset = c.outReset := by
  simp [Chip.setWl]

@[simp] theorem port_setPort (c : Chip) (n k : Nat) (p : PortSt) : (c.setPort n p).port k = if k = n then p else c.port k :=
  tabGet_tabPut _ _ _ _ _
@[simp] theorem setPort_frame (c : Chip) (n : Nat) (p : PortSt) :
    (c.setPort n p).bankActive = c.bankActive ∧ (c.setPort n p).bank0 = c.bank0 ∧ (c.setPort n p).bank1 = c.bank1
    ∧ (c.setPort n p).walkAnyway = c.walkAnyway ∧ (c.setPort n p).costAt = c.costAt ∧ (c.setPort n p).laneMap = c.laneMap
    ∧ (c.setPort n p).spares = c.spares ∧ (c.setPort n p).laneOut = c.laneOut ∧ (c.setPort n p).loops = c.loops ∧ (c.setPort n p).sos = c.sos
    ∧ (c.setPort n p).ages = c.ages ∧ (c.setPort n p).termOn = c.termOn ∧ (c.setPort n p).termEp = c.termEp ∧ (c.setPort n p).condOn = c.condOn
    ∧ (c.setPort n p).tripped = c.tripped ∧ (c.setPort n p).echoes = c.echoes ∧ (c.setPort n p).tasks = c.tasks
    ∧ (c.setPort n p).nextStamp = c.nextStamp ∧ (c.setPort n p).flags = c.flags ∧ (c.setPort n p).mps = c.mps ∧ (c.setPort n p).axes = c.axes
    ∧ (c.setPort n p).ais = c.ais ∧ (c.setPort n p).wls = c.wls ∧ (c.setPort n p).badSteps = c.badSteps ∧ (c.setPort n p).fsk = c.fsk
    ∧ (c.setPort n p).mism = c.mism ∧ (c.setPort n p).retry = c.retry ∧ (c.setPort n p).opSec = c.opSec ∧ (c.setPort n p).caps = c.caps
    ∧ (c.setPort n p).ping = c.ping ∧ (c.setPort n p).time = c.time ∧ (c.setPort n p).net = c.net ∧ (c.setPort n p).retValid = c.retValid
    ∧ (c.setPort n p).scrubPos = c.scrubPos ∧ (c.setPort n p).scrubAt = c.scrubAt ∧ (c.setPort n p).badMem = c.badMem
    ∧ (c.setPort n p).twin = c.twin ∧ (c.setPort n p).tick = c.tick ∧ (c.setPort n p).phase = c.phase ∧ (c.setPort n p).tickLen = c.tickLen
    ∧ (c.setPort n p).perN = c.perN ∧ (c.setPort n p).cyc = c.cyc ∧ (c.setPort n p).mem = c.mem ∧ (c.setPort n p).before = c.before
    ∧ (c.setPort n p).recMem = c.recMem ∧ (c.setPort n p).work = c.work ∧ (c.setPort n p).settled = c.settled ∧ (c.setPort n p).ring = c.ring
    ∧ (c.setPort n p).pend = c.pend ∧ (c.setPort n p).mqueue = c.mqueue ∧ (c.setPort n p).cqueue = c.cqueue ∧ (c.setPort n p).dev = c.dev
    ∧ (c.setPort n p).devBefore = c.devBefore ∧ (c.setPort n p).pf = c.pf ∧ (c.setPort n p).devReq = c.devReq ∧ (c.setPort n p).devAuto = c.devAuto
    ∧ (c.setPort n p).safeCause = c.safeCause ∧ (c.setPort n p).autoRun = c.autoRun ∧ (c.setPort n p).autoCfg = c.autoCfg
    ∧ (c.setPort n p).sched = c.sched ∧ (c.setPort n p).doneStr = c.doneStr ∧ (c.setPort n p).lanesDown = c.lanesDown
    ∧ (c.setPort n p).overrun = c.overrun ∧ (c.setPort n p).earlyOver = c.earlyOver ∧ (c.setPort n p).lastOver = c.lastOver
    ∧ (c.setPort n p).unforced = c.unforced ∧ (c.setPort n p).check = c.check ∧ (c.setPort n p).avgSum = c.avgSum
    ∧ (c.setPort n p).avgBad = c.avgBad ∧ (c.setPort n p).avgCnt = c.avgCnt ∧ (c.setPort n p).laneDue = c.laneDue
    ∧ (c.setPort n p).engines = c.engines ∧ (c.setPort n p).sePtr = c.sePtr ∧ (c.setPort n p).seFree = c.seFree ∧ (c.setPort n p).cqPtr = c.cqPtr
    ∧ (c.setPort n p).guardsDone = c.guardsDone ∧ (c.setPort n p).flagWrites = c.flagWrites ∧ (c.setPort n p).portRep = c.portRep
    ∧ (c.setPort n p).drvMem = c.drvMem ∧ (c.setPort n p).inMem = c.inMem ∧ (c.setPort n p).convAt = c.convAt
    ∧ (c.setPort n p).homeFlags = c.homeFlags ∧ (c.setPort n p).pins = c.pins ∧ (c.setPort n p).owNext = c.owNext ∧ (c.setPort n p).marks = c.marks
    ∧ (c.setPort n p).rimTasks = c.rimTasks ∧ (c.setPort n p).rimGuards = c.rimGuards ∧ (c.setPort n p).emitted = c.emitted
    ∧ (c.setPort n p).vloopOk = c.vloopOk ∧ (c.setPort n p).vlowDue = c.vlowDue ∧ (c.setPort n p).recPtr = c.recPtr
    ∧ (c.setPort n p).linkErrs = c.linkErrs ∧ (c.setPort n p).linkBad = c.linkBad ∧ (c.setPort n p).capCmds = c.capCmds
    ∧ (c.setPort n p).causes = c.causes ∧ (c.setPort n p).beat = c.beat ∧ (c.setPort n p).boardTick = c.boardTick
    ∧ (c.setPort n p).lastFrame = c.lastFrame ∧ (c.setPort n p).testNext = c.testNext ∧ (c.setPort n p).testAt = c.testAt
    ∧ (c.setPort n p).tbFree = c.tbFree ∧ (c.setPort n p).chgLast = c.chgLast ∧ (c.setPort n p).chgMarks = c.chgMarks
    ∧ (c.setPort n p).chgSettled = c.chgSettled ∧ (c.setPort n p).watch = c.watch ∧ (c.setPort n p).autoArm = c.autoArm
    ∧ (c.setPort n p).health = c.health ∧ (c.setPort n p).outEn = c.outEn ∧ (c.setPort n p).lnk = c.lnk ∧ (c.setPort n p).sec = c.sec
    ∧ (c.setPort n p).restart = c.restart ∧ (c.setPort n p).restartReq = c.restartReq ∧ (c.setPort n p).ckA = c.ckA ∧ (c.setPort n p).ckB = c.ckB
    ∧ (c.setPort n p).ckNext = c.ckNext ∧ (c.setPort n p).skewPeak = c.skewPeak ∧ (c.setPort n p).hotLogic = c.hotLogic
    ∧ (c.setPort n p).hotField = c.hotField ∧ (c.setPort n p).syncSeen = c.syncSeen ∧ (c.setPort n p).axShown = c.axShown
    ∧ (c.setPort n p).pfCount = c.pfCount ∧ (c.setPort n p).draws = c.draws ∧ (c.setPort n p).outReset = c.outReset := by
  simp [Chip.setPort]

@[simp] theorem modem_setModem (c : Chip) (n k : Nat) (f : FskSt) : (c.setModem n f).modem k = if k = n then f else c.modem k :=
  tabGet_tabPut _ _ _ _ _
@[simp] theorem setModem_frame (c : Chip) (n : Nat) (f : FskSt) :
    (c.setModem n f).bankActive = c.bankActive ∧ (c.setModem n f).bank0 = c.bank0 ∧ (c.setModem n f).bank1 = c.bank1
    ∧ (c.setModem n f).walkAnyway = c.walkAnyway ∧ (c.setModem n f).costAt = c.costAt ∧ (c.setModem n f).laneMap = c.laneMap
    ∧ (c.setModem n f).spares = c.spares ∧ (c.setModem n f).laneOut = c.laneOut ∧ (c.setModem n f).loops = c.loops ∧ (c.setModem n f).sos = c.sos
    ∧ (c.setModem n f).ages = c.ages ∧ (c.setModem n f).termOn = c.termOn ∧ (c.setModem n f).termEp = c.termEp ∧ (c.setModem n f).condOn = c.condOn
    ∧ (c.setModem n f).tripped = c.tripped ∧ (c.setModem n f).echoes = c.echoes ∧ (c.setModem n f).tasks = c.tasks
    ∧ (c.setModem n f).nextStamp = c.nextStamp ∧ (c.setModem n f).flags = c.flags ∧ (c.setModem n f).mps = c.mps ∧ (c.setModem n f).axes = c.axes
    ∧ (c.setModem n f).ais = c.ais ∧ (c.setModem n f).wls = c.wls ∧ (c.setModem n f).badSteps = c.badSteps ∧ (c.setModem n f).ports = c.ports
    ∧ (c.setModem n f).mism = c.mism ∧ (c.setModem n f).retry = c.retry ∧ (c.setModem n f).opSec = c.opSec ∧ (c.setModem n f).caps = c.caps
    ∧ (c.setModem n f).ping = c.ping ∧ (c.setModem n f).time = c.time ∧ (c.setModem n f).net = c.net ∧ (c.setModem n f).retValid = c.retValid
    ∧ (c.setModem n f).scrubPos = c.scrubPos ∧ (c.setModem n f).scrubAt = c.scrubAt ∧ (c.setModem n f).badMem = c.badMem
    ∧ (c.setModem n f).twin = c.twin ∧ (c.setModem n f).tick = c.tick ∧ (c.setModem n f).phase = c.phase ∧ (c.setModem n f).tickLen = c.tickLen
    ∧ (c.setModem n f).perN = c.perN ∧ (c.setModem n f).cyc = c.cyc ∧ (c.setModem n f).mem = c.mem ∧ (c.setModem n f).before = c.before
    ∧ (c.setModem n f).recMem = c.recMem ∧ (c.setModem n f).work = c.work ∧ (c.setModem n f).settled = c.settled ∧ (c.setModem n f).ring = c.ring
    ∧ (c.setModem n f).pend = c.pend ∧ (c.setModem n f).mqueue = c.mqueue ∧ (c.setModem n f).cqueue = c.cqueue ∧ (c.setModem n f).dev = c.dev
    ∧ (c.setModem n f).devBefore = c.devBefore ∧ (c.setModem n f).pf = c.pf ∧ (c.setModem n f).devReq = c.devReq
    ∧ (c.setModem n f).devAuto = c.devAuto ∧ (c.setModem n f).safeCause = c.safeCause ∧ (c.setModem n f).autoRun = c.autoRun
    ∧ (c.setModem n f).autoCfg = c.autoCfg ∧ (c.setModem n f).sched = c.sched ∧ (c.setModem n f).doneStr = c.doneStr
    ∧ (c.setModem n f).lanesDown = c.lanesDown ∧ (c.setModem n f).overrun = c.overrun ∧ (c.setModem n f).earlyOver = c.earlyOver
    ∧ (c.setModem n f).lastOver = c.lastOver ∧ (c.setModem n f).unforced = c.unforced ∧ (c.setModem n f).check = c.check
    ∧ (c.setModem n f).avgSum = c.avgSum ∧ (c.setModem n f).avgBad = c.avgBad ∧ (c.setModem n f).avgCnt = c.avgCnt
    ∧ (c.setModem n f).laneDue = c.laneDue ∧ (c.setModem n f).engines = c.engines ∧ (c.setModem n f).sePtr = c.sePtr
    ∧ (c.setModem n f).seFree = c.seFree ∧ (c.setModem n f).cqPtr = c.cqPtr ∧ (c.setModem n f).guardsDone = c.guardsDone
    ∧ (c.setModem n f).flagWrites = c.flagWrites ∧ (c.setModem n f).portRep = c.portRep ∧ (c.setModem n f).drvMem = c.drvMem
    ∧ (c.setModem n f).inMem = c.inMem ∧ (c.setModem n f).convAt = c.convAt ∧ (c.setModem n f).homeFlags = c.homeFlags
    ∧ (c.setModem n f).pins = c.pins ∧ (c.setModem n f).owNext = c.owNext ∧ (c.setModem n f).marks = c.marks
    ∧ (c.setModem n f).rimTasks = c.rimTasks ∧ (c.setModem n f).rimGuards = c.rimGuards ∧ (c.setModem n f).emitted = c.emitted
    ∧ (c.setModem n f).vloopOk = c.vloopOk ∧ (c.setModem n f).vlowDue = c.vlowDue ∧ (c.setModem n f).recPtr = c.recPtr
    ∧ (c.setModem n f).linkErrs = c.linkErrs ∧ (c.setModem n f).linkBad = c.linkBad ∧ (c.setModem n f).capCmds = c.capCmds
    ∧ (c.setModem n f).causes = c.causes ∧ (c.setModem n f).beat = c.beat ∧ (c.setModem n f).boardTick = c.boardTick
    ∧ (c.setModem n f).lastFrame = c.lastFrame ∧ (c.setModem n f).testNext = c.testNext ∧ (c.setModem n f).testAt = c.testAt
    ∧ (c.setModem n f).tbFree = c.tbFree ∧ (c.setModem n f).chgLast = c.chgLast ∧ (c.setModem n f).chgMarks = c.chgMarks
    ∧ (c.setModem n f).chgSettled = c.chgSettled ∧ (c.setModem n f).watch = c.watch ∧ (c.setModem n f).autoArm = c.autoArm
    ∧ (c.setModem n f).health = c.health ∧ (c.setModem n f).outEn = c.outEn ∧ (c.setModem n f).lnk = c.lnk ∧ (c.setModem n f).sec = c.sec
    ∧ (c.setModem n f).restart = c.restart ∧ (c.setModem n f).restartReq = c.restartReq ∧ (c.setModem n f).ckA = c.ckA
    ∧ (c.setModem n f).ckB = c.ckB ∧ (c.setModem n f).ckNext = c.ckNext ∧ (c.setModem n f).skewPeak = c.skewPeak
    ∧ (c.setModem n f).hotLogic = c.hotLogic ∧ (c.setModem n f).hotField = c.hotField ∧ (c.setModem n f).syncSeen = c.syncSeen
    ∧ (c.setModem n f).axShown = c.axShown ∧ (c.setModem n f).pfCount = c.pfCount ∧ (c.setModem n f).draws = c.draws
    ∧ (c.setModem n f).outReset = c.outReset := by
  simp [Chip.setModem]

@[simp] theorem flag_setFlag (c : Chip) (n k : Nat) (b : Bool) : (c.setFlag n b).flag k = if k = n then b else c.flag k :=
  tabGet_tabPut _ _ _ _ _
@[simp] theorem setFlag_frame (c : Chip) (n : Nat) (b : Bool) :
    (c.setFlag n b).bankActive = c.bankActive ∧ (c.setFlag n b).bank0 = c.bank0 ∧ (c.setFlag n b).bank1 = c.bank1
    ∧ (c.setFlag n b).walkAnyway = c.walkAnyway ∧ (c.setFlag n b).costAt = c.costAt ∧ (c.setFlag n b).laneMap = c.laneMap
    ∧ (c.setFlag n b).spares = c.spares ∧ (c.setFlag n b).laneOut = c.laneOut ∧ (c.setFlag n b).loops = c.loops ∧ (c.setFlag n b).sos = c.sos
    ∧ (c.setFlag n b).ages = c.ages ∧ (c.setFlag n b).termOn = c.termOn ∧ (c.setFlag n b).termEp = c.termEp ∧ (c.setFlag n b).condOn = c.condOn
    ∧ (c.setFlag n b).tripped = c.tripped ∧ (c.setFlag n b).echoes = c.echoes ∧ (c.setFlag n b).tasks = c.tasks
    ∧ (c.setFlag n b).nextStamp = c.nextStamp ∧ (c.setFlag n b).mps = c.mps ∧ (c.setFlag n b).axes = c.axes ∧ (c.setFlag n b).ais = c.ais
    ∧ (c.setFlag n b).wls = c.wls ∧ (c.setFlag n b).badSteps = c.badSteps ∧ (c.setFlag n b).ports = c.ports ∧ (c.setFlag n b).fsk = c.fsk
    ∧ (c.setFlag n b).mism = c.mism ∧ (c.setFlag n b).retry = c.retry ∧ (c.setFlag n b).opSec = c.opSec ∧ (c.setFlag n b).caps = c.caps
    ∧ (c.setFlag n b).ping = c.ping ∧ (c.setFlag n b).time = c.time ∧ (c.setFlag n b).net = c.net ∧ (c.setFlag n b).retValid = c.retValid
    ∧ (c.setFlag n b).scrubPos = c.scrubPos ∧ (c.setFlag n b).scrubAt = c.scrubAt ∧ (c.setFlag n b).badMem = c.badMem
    ∧ (c.setFlag n b).twin = c.twin ∧ (c.setFlag n b).tick = c.tick ∧ (c.setFlag n b).phase = c.phase ∧ (c.setFlag n b).tickLen = c.tickLen
    ∧ (c.setFlag n b).perN = c.perN ∧ (c.setFlag n b).cyc = c.cyc ∧ (c.setFlag n b).mem = c.mem ∧ (c.setFlag n b).before = c.before
    ∧ (c.setFlag n b).recMem = c.recMem ∧ (c.setFlag n b).work = c.work ∧ (c.setFlag n b).settled = c.settled ∧ (c.setFlag n b).ring = c.ring
    ∧ (c.setFlag n b).pend = c.pend ∧ (c.setFlag n b).mqueue = c.mqueue ∧ (c.setFlag n b).cqueue = c.cqueue ∧ (c.setFlag n b).dev = c.dev
    ∧ (c.setFlag n b).devBefore = c.devBefore ∧ (c.setFlag n b).pf = c.pf ∧ (c.setFlag n b).devReq = c.devReq ∧ (c.setFlag n b).devAuto = c.devAuto
    ∧ (c.setFlag n b).safeCause = c.safeCause ∧ (c.setFlag n b).autoRun = c.autoRun ∧ (c.setFlag n b).autoCfg = c.autoCfg
    ∧ (c.setFlag n b).sched = c.sched ∧ (c.setFlag n b).doneStr = c.doneStr ∧ (c.setFlag n b).lanesDown = c.lanesDown
    ∧ (c.setFlag n b).overrun = c.overrun ∧ (c.setFlag n b).earlyOver = c.earlyOver ∧ (c.setFlag n b).lastOver = c.lastOver
    ∧ (c.setFlag n b).unforced = c.unforced ∧ (c.setFlag n b).check = c.check ∧ (c.setFlag n b).avgSum = c.avgSum
    ∧ (c.setFlag n b).avgBad = c.avgBad ∧ (c.setFlag n b).avgCnt = c.avgCnt ∧ (c.setFlag n b).laneDue = c.laneDue
    ∧ (c.setFlag n b).engines = c.engines ∧ (c.setFlag n b).sePtr = c.sePtr ∧ (c.setFlag n b).seFree = c.seFree ∧ (c.setFlag n b).cqPtr = c.cqPtr
    ∧ (c.setFlag n b).guardsDone = c.guardsDone ∧ (c.setFlag n b).flagWrites = c.flagWrites ∧ (c.setFlag n b).portRep = c.portRep
    ∧ (c.setFlag n b).drvMem = c.drvMem ∧ (c.setFlag n b).inMem = c.inMem ∧ (c.setFlag n b).convAt = c.convAt
    ∧ (c.setFlag n b).homeFlags = c.homeFlags ∧ (c.setFlag n b).pins = c.pins ∧ (c.setFlag n b).owNext = c.owNext ∧ (c.setFlag n b).marks = c.marks
    ∧ (c.setFlag n b).rimTasks = c.rimTasks ∧ (c.setFlag n b).rimGuards = c.rimGuards ∧ (c.setFlag n b).emitted = c.emitted
    ∧ (c.setFlag n b).vloopOk = c.vloopOk ∧ (c.setFlag n b).vlowDue = c.vlowDue ∧ (c.setFlag n b).recPtr = c.recPtr
    ∧ (c.setFlag n b).linkErrs = c.linkErrs ∧ (c.setFlag n b).linkBad = c.linkBad ∧ (c.setFlag n b).capCmds = c.capCmds
    ∧ (c.setFlag n b).causes = c.causes ∧ (c.setFlag n b).beat = c.beat ∧ (c.setFlag n b).boardTick = c.boardTick
    ∧ (c.setFlag n b).lastFrame = c.lastFrame ∧ (c.setFlag n b).testNext = c.testNext ∧ (c.setFlag n b).testAt = c.testAt
    ∧ (c.setFlag n b).tbFree = c.tbFree ∧ (c.setFlag n b).chgLast = c.chgLast ∧ (c.setFlag n b).chgMarks = c.chgMarks
    ∧ (c.setFlag n b).chgSettled = c.chgSettled ∧ (c.setFlag n b).watch = c.watch ∧ (c.setFlag n b).autoArm = c.autoArm
    ∧ (c.setFlag n b).health = c.health ∧ (c.setFlag n b).outEn = c.outEn ∧ (c.setFlag n b).lnk = c.lnk ∧ (c.setFlag n b).sec = c.sec
    ∧ (c.setFlag n b).restart = c.restart ∧ (c.setFlag n b).restartReq = c.restartReq ∧ (c.setFlag n b).ckA = c.ckA ∧ (c.setFlag n b).ckB = c.ckB
    ∧ (c.setFlag n b).ckNext = c.ckNext ∧ (c.setFlag n b).skewPeak = c.skewPeak ∧ (c.setFlag n b).hotLogic = c.hotLogic
    ∧ (c.setFlag n b).hotField = c.hotField ∧ (c.setFlag n b).syncSeen = c.syncSeen ∧ (c.setFlag n b).axShown = c.axShown
    ∧ (c.setFlag n b).pfCount = c.pfCount ∧ (c.setFlag n b).draws = c.draws ∧ (c.setFlag n b).outReset = c.outReset := by
  simp [Chip.setFlag]

/-! ### Registers and the board -/

@[simp] theorem wr8_frame (c : Chip) (a : Nat) (b : Byte) :
    (wr8 a b c).bankActive = c.bankActive ∧ (wr8 a b c).bank0 = c.bank0 ∧ (wr8 a b c).bank1 = c.bank1 ∧ (wr8 a b c).walkAnyway = c.walkAnyway
    ∧ (wr8 a b c).costAt = c.costAt ∧ (wr8 a b c).laneMap = c.laneMap ∧ (wr8 a b c).spares = c.spares ∧ (wr8 a b c).laneOut = c.laneOut
    ∧ (wr8 a b c).loops = c.loops ∧ (wr8 a b c).sos = c.sos ∧ (wr8 a b c).ages = c.ages ∧ (wr8 a b c).termOn = c.termOn
    ∧ (wr8 a b c).termEp = c.termEp ∧ (wr8 a b c).condOn = c.condOn ∧ (wr8 a b c).tripped = c.tripped ∧ (wr8 a b c).echoes = c.echoes
    ∧ (wr8 a b c).tasks = c.tasks ∧ (wr8 a b c).nextStamp = c.nextStamp ∧ (wr8 a b c).flags = c.flags ∧ (wr8 a b c).mps = c.mps
    ∧ (wr8 a b c).axes = c.axes ∧ (wr8 a b c).ais = c.ais ∧ (wr8 a b c).wls = c.wls ∧ (wr8 a b c).badSteps = c.badSteps
    ∧ (wr8 a b c).ports = c.ports ∧ (wr8 a b c).fsk = c.fsk ∧ (wr8 a b c).mism = c.mism ∧ (wr8 a b c).retry = c.retry ∧ (wr8 a b c).opSec = c.opSec
    ∧ (wr8 a b c).caps = c.caps ∧ (wr8 a b c).ping = c.ping ∧ (wr8 a b c).time = c.time ∧ (wr8 a b c).net = c.net
    ∧ (wr8 a b c).retValid = c.retValid ∧ (wr8 a b c).scrubPos = c.scrubPos ∧ (wr8 a b c).scrubAt = c.scrubAt ∧ (wr8 a b c).badMem = c.badMem
    ∧ (wr8 a b c).twin = c.twin ∧ (wr8 a b c).tick = c.tick ∧ (wr8 a b c).phase = c.phase ∧ (wr8 a b c).tickLen = c.tickLen
    ∧ (wr8 a b c).perN = c.perN ∧ (wr8 a b c).cyc = c.cyc ∧ (wr8 a b c).before = c.before ∧ (wr8 a b c).recMem = c.recMem
    ∧ (wr8 a b c).work = c.work ∧ (wr8 a b c).settled = c.settled ∧ (wr8 a b c).ring = c.ring ∧ (wr8 a b c).pend = c.pend
    ∧ (wr8 a b c).mqueue = c.mqueue ∧ (wr8 a b c).cqueue = c.cqueue ∧ (wr8 a b c).dev = c.dev ∧ (wr8 a b c).devBefore = c.devBefore
    ∧ (wr8 a b c).pf = c.pf ∧ (wr8 a b c).devReq = c.devReq ∧ (wr8 a b c).devAuto = c.devAuto ∧ (wr8 a b c).safeCause = c.safeCause
    ∧ (wr8 a b c).autoRun = c.autoRun ∧ (wr8 a b c).autoCfg = c.autoCfg ∧ (wr8 a b c).sched = c.sched ∧ (wr8 a b c).doneStr = c.doneStr
    ∧ (wr8 a b c).lanesDown = c.lanesDown ∧ (wr8 a b c).overrun = c.overrun ∧ (wr8 a b c).earlyOver = c.earlyOver
    ∧ (wr8 a b c).lastOver = c.lastOver ∧ (wr8 a b c).unforced = c.unforced ∧ (wr8 a b c).check = c.check ∧ (wr8 a b c).avgSum = c.avgSum
    ∧ (wr8 a b c).avgBad = c.avgBad ∧ (wr8 a b c).avgCnt = c.avgCnt ∧ (wr8 a b c).laneDue = c.laneDue ∧ (wr8 a b c).engines = c.engines
    ∧ (wr8 a b c).sePtr = c.sePtr ∧ (wr8 a b c).seFree = c.seFree ∧ (wr8 a b c).cqPtr = c.cqPtr ∧ (wr8 a b c).guardsDone = c.guardsDone
    ∧ (wr8 a b c).flagWrites = c.flagWrites ∧ (wr8 a b c).portRep = c.portRep ∧ (wr8 a b c).drvMem = c.drvMem ∧ (wr8 a b c).inMem = c.inMem
    ∧ (wr8 a b c).convAt = c.convAt ∧ (wr8 a b c).homeFlags = c.homeFlags ∧ (wr8 a b c).pins = c.pins ∧ (wr8 a b c).owNext = c.owNext
    ∧ (wr8 a b c).marks = c.marks ∧ (wr8 a b c).rimTasks = c.rimTasks ∧ (wr8 a b c).rimGuards = c.rimGuards ∧ (wr8 a b c).emitted = c.emitted
    ∧ (wr8 a b c).vloopOk = c.vloopOk ∧ (wr8 a b c).vlowDue = c.vlowDue ∧ (wr8 a b c).recPtr = c.recPtr ∧ (wr8 a b c).linkErrs = c.linkErrs
    ∧ (wr8 a b c).linkBad = c.linkBad ∧ (wr8 a b c).capCmds = c.capCmds ∧ (wr8 a b c).causes = c.causes ∧ (wr8 a b c).beat = c.beat
    ∧ (wr8 a b c).boardTick = c.boardTick ∧ (wr8 a b c).lastFrame = c.lastFrame ∧ (wr8 a b c).testNext = c.testNext ∧ (wr8 a b c).testAt = c.testAt
    ∧ (wr8 a b c).tbFree = c.tbFree ∧ (wr8 a b c).chgLast = c.chgLast ∧ (wr8 a b c).chgMarks = c.chgMarks ∧ (wr8 a b c).chgSettled = c.chgSettled
    ∧ (wr8 a b c).watch = c.watch ∧ (wr8 a b c).autoArm = c.autoArm ∧ (wr8 a b c).health = c.health ∧ (wr8 a b c).outEn = c.outEn
    ∧ (wr8 a b c).lnk = c.lnk ∧ (wr8 a b c).sec = c.sec ∧ (wr8 a b c).restart = c.restart ∧ (wr8 a b c).restartReq = c.restartReq
    ∧ (wr8 a b c).ckA = c.ckA ∧ (wr8 a b c).ckB = c.ckB ∧ (wr8 a b c).ckNext = c.ckNext ∧ (wr8 a b c).skewPeak = c.skewPeak
    ∧ (wr8 a b c).hotLogic = c.hotLogic ∧ (wr8 a b c).hotField = c.hotField ∧ (wr8 a b c).syncSeen = c.syncSeen ∧ (wr8 a b c).axShown = c.axShown
    ∧ (wr8 a b c).pfCount = c.pfCount ∧ (wr8 a b c).draws = c.draws ∧ (wr8 a b c).outReset = c.outReset := by
  simp [wr8]

@[simp] theorem wr32_frame (c : Chip) (a : Nat) (w : Word) :
    (wr32 a w c).bankActive = c.bankActive ∧ (wr32 a w c).bank0 = c.bank0 ∧ (wr32 a w c).bank1 = c.bank1 ∧ (wr32 a w c).walkAnyway = c.walkAnyway
    ∧ (wr32 a w c).costAt = c.costAt ∧ (wr32 a w c).laneMap = c.laneMap ∧ (wr32 a w c).spares = c.spares ∧ (wr32 a w c).laneOut = c.laneOut
    ∧ (wr32 a w c).loops = c.loops ∧ (wr32 a w c).sos = c.sos ∧ (wr32 a w c).ages = c.ages ∧ (wr32 a w c).termOn = c.termOn
    ∧ (wr32 a w c).termEp = c.termEp ∧ (wr32 a w c).condOn = c.condOn ∧ (wr32 a w c).tripped = c.tripped ∧ (wr32 a w c).echoes = c.echoes
    ∧ (wr32 a w c).tasks = c.tasks ∧ (wr32 a w c).nextStamp = c.nextStamp ∧ (wr32 a w c).flags = c.flags ∧ (wr32 a w c).mps = c.mps
    ∧ (wr32 a w c).axes = c.axes ∧ (wr32 a w c).ais = c.ais ∧ (wr32 a w c).wls = c.wls ∧ (wr32 a w c).badSteps = c.badSteps
    ∧ (wr32 a w c).ports = c.ports ∧ (wr32 a w c).fsk = c.fsk ∧ (wr32 a w c).mism = c.mism ∧ (wr32 a w c).retry = c.retry
    ∧ (wr32 a w c).opSec = c.opSec ∧ (wr32 a w c).caps = c.caps ∧ (wr32 a w c).ping = c.ping ∧ (wr32 a w c).time = c.time
    ∧ (wr32 a w c).net = c.net ∧ (wr32 a w c).retValid = c.retValid ∧ (wr32 a w c).scrubPos = c.scrubPos ∧ (wr32 a w c).scrubAt = c.scrubAt
    ∧ (wr32 a w c).badMem = c.badMem ∧ (wr32 a w c).twin = c.twin ∧ (wr32 a w c).tick = c.tick ∧ (wr32 a w c).phase = c.phase
    ∧ (wr32 a w c).tickLen = c.tickLen ∧ (wr32 a w c).perN = c.perN ∧ (wr32 a w c).cyc = c.cyc ∧ (wr32 a w c).before = c.before
    ∧ (wr32 a w c).recMem = c.recMem ∧ (wr32 a w c).work = c.work ∧ (wr32 a w c).settled = c.settled ∧ (wr32 a w c).ring = c.ring
    ∧ (wr32 a w c).pend = c.pend ∧ (wr32 a w c).mqueue = c.mqueue ∧ (wr32 a w c).cqueue = c.cqueue ∧ (wr32 a w c).dev = c.dev
    ∧ (wr32 a w c).devBefore = c.devBefore ∧ (wr32 a w c).pf = c.pf ∧ (wr32 a w c).devReq = c.devReq ∧ (wr32 a w c).devAuto = c.devAuto
    ∧ (wr32 a w c).safeCause = c.safeCause ∧ (wr32 a w c).autoRun = c.autoRun ∧ (wr32 a w c).autoCfg = c.autoCfg ∧ (wr32 a w c).sched = c.sched
    ∧ (wr32 a w c).doneStr = c.doneStr ∧ (wr32 a w c).lanesDown = c.lanesDown ∧ (wr32 a w c).overrun = c.overrun
    ∧ (wr32 a w c).earlyOver = c.earlyOver ∧ (wr32 a w c).lastOver = c.lastOver ∧ (wr32 a w c).unforced = c.unforced ∧ (wr32 a w c).check = c.check
    ∧ (wr32 a w c).avgSum = c.avgSum ∧ (wr32 a w c).avgBad = c.avgBad ∧ (wr32 a w c).avgCnt = c.avgCnt ∧ (wr32 a w c).laneDue = c.laneDue
    ∧ (wr32 a w c).engines = c.engines ∧ (wr32 a w c).sePtr = c.sePtr ∧ (wr32 a w c).seFree = c.seFree ∧ (wr32 a w c).cqPtr = c.cqPtr
    ∧ (wr32 a w c).guardsDone = c.guardsDone ∧ (wr32 a w c).flagWrites = c.flagWrites ∧ (wr32 a w c).portRep = c.portRep
    ∧ (wr32 a w c).drvMem = c.drvMem ∧ (wr32 a w c).inMem = c.inMem ∧ (wr32 a w c).convAt = c.convAt ∧ (wr32 a w c).homeFlags = c.homeFlags
    ∧ (wr32 a w c).pins = c.pins ∧ (wr32 a w c).owNext = c.owNext ∧ (wr32 a w c).marks = c.marks ∧ (wr32 a w c).rimTasks = c.rimTasks
    ∧ (wr32 a w c).rimGuards = c.rimGuards ∧ (wr32 a w c).emitted = c.emitted ∧ (wr32 a w c).vloopOk = c.vloopOk ∧ (wr32 a w c).vlowDue = c.vlowDue
    ∧ (wr32 a w c).recPtr = c.recPtr ∧ (wr32 a w c).linkErrs = c.linkErrs ∧ (wr32 a w c).linkBad = c.linkBad ∧ (wr32 a w c).capCmds = c.capCmds
    ∧ (wr32 a w c).causes = c.causes ∧ (wr32 a w c).beat = c.beat ∧ (wr32 a w c).boardTick = c.boardTick ∧ (wr32 a w c).lastFrame = c.lastFrame
    ∧ (wr32 a w c).testNext = c.testNext ∧ (wr32 a w c).testAt = c.testAt ∧ (wr32 a w c).tbFree = c.tbFree ∧ (wr32 a w c).chgLast = c.chgLast
    ∧ (wr32 a w c).chgMarks = c.chgMarks ∧ (wr32 a w c).chgSettled = c.chgSettled ∧ (wr32 a w c).watch = c.watch ∧ (wr32 a w c).autoArm = c.autoArm
    ∧ (wr32 a w c).health = c.health ∧ (wr32 a w c).outEn = c.outEn ∧ (wr32 a w c).lnk = c.lnk ∧ (wr32 a w c).sec = c.sec
    ∧ (wr32 a w c).restart = c.restart ∧ (wr32 a w c).restartReq = c.restartReq ∧ (wr32 a w c).ckA = c.ckA ∧ (wr32 a w c).ckB = c.ckB
    ∧ (wr32 a w c).ckNext = c.ckNext ∧ (wr32 a w c).skewPeak = c.skewPeak ∧ (wr32 a w c).hotLogic = c.hotLogic ∧ (wr32 a w c).hotField = c.hotField
    ∧ (wr32 a w c).syncSeen = c.syncSeen ∧ (wr32 a w c).axShown = c.axShown ∧ (wr32 a w c).pfCount = c.pfCount ∧ (wr32 a w c).draws = c.draws
    ∧ (wr32 a w c).outReset = c.outReset := by
  simp [wr32]

@[simp] theorem wrMask_frame (c : Chip) (a : Nat) (k v : Word) :
    (wrMask a k v c).bankActive = c.bankActive ∧ (wrMask a k v c).bank0 = c.bank0 ∧ (wrMask a k v c).bank1 = c.bank1
    ∧ (wrMask a k v c).walkAnyway = c.walkAnyway ∧ (wrMask a k v c).costAt = c.costAt ∧ (wrMask a k v c).laneMap = c.laneMap
    ∧ (wrMask a k v c).spares = c.spares ∧ (wrMask a k v c).laneOut = c.laneOut ∧ (wrMask a k v c).loops = c.loops ∧ (wrMask a k v c).sos = c.sos
    ∧ (wrMask a k v c).ages = c.ages ∧ (wrMask a k v c).termOn = c.termOn ∧ (wrMask a k v c).termEp = c.termEp ∧ (wrMask a k v c).condOn = c.condOn
    ∧ (wrMask a k v c).tripped = c.tripped ∧ (wrMask a k v c).echoes = c.echoes ∧ (wrMask a k v c).tasks = c.tasks
    ∧ (wrMask a k v c).nextStamp = c.nextStamp ∧ (wrMask a k v c).flags = c.flags ∧ (wrMask a k v c).mps = c.mps ∧ (wrMask a k v c).axes = c.axes
    ∧ (wrMask a k v c).ais = c.ais ∧ (wrMask a k v c).wls = c.wls ∧ (wrMask a k v c).badSteps = c.badSteps ∧ (wrMask a k v c).ports = c.ports
    ∧ (wrMask a k v c).fsk = c.fsk ∧ (wrMask a k v c).mism = c.mism ∧ (wrMask a k v c).retry = c.retry ∧ (wrMask a k v c).opSec = c.opSec
    ∧ (wrMask a k v c).caps = c.caps ∧ (wrMask a k v c).ping = c.ping ∧ (wrMask a k v c).time = c.time ∧ (wrMask a k v c).net = c.net
    ∧ (wrMask a k v c).retValid = c.retValid ∧ (wrMask a k v c).scrubPos = c.scrubPos ∧ (wrMask a k v c).scrubAt = c.scrubAt
    ∧ (wrMask a k v c).badMem = c.badMem ∧ (wrMask a k v c).twin = c.twin ∧ (wrMask a k v c).tick = c.tick ∧ (wrMask a k v c).phase = c.phase
    ∧ (wrMask a k v c).tickLen = c.tickLen ∧ (wrMask a k v c).perN = c.perN ∧ (wrMask a k v c).cyc = c.cyc ∧ (wrMask a k v c).before = c.before
    ∧ (wrMask a k v c).recMem = c.recMem ∧ (wrMask a k v c).work = c.work ∧ (wrMask a k v c).settled = c.settled ∧ (wrMask a k v c).ring = c.ring
    ∧ (wrMask a k v c).pend = c.pend ∧ (wrMask a k v c).mqueue = c.mqueue ∧ (wrMask a k v c).cqueue = c.cqueue ∧ (wrMask a k v c).dev = c.dev
    ∧ (wrMask a k v c).devBefore = c.devBefore ∧ (wrMask a k v c).pf = c.pf ∧ (wrMask a k v c).devReq = c.devReq
    ∧ (wrMask a k v c).devAuto = c.devAuto ∧ (wrMask a k v c).safeCause = c.safeCause ∧ (wrMask a k v c).autoRun = c.autoRun
    ∧ (wrMask a k v c).autoCfg = c.autoCfg ∧ (wrMask a k v c).sched = c.sched ∧ (wrMask a k v c).doneStr = c.doneStr
    ∧ (wrMask a k v c).lanesDown = c.lanesDown ∧ (wrMask a k v c).overrun = c.overrun ∧ (wrMask a k v c).earlyOver = c.earlyOver
    ∧ (wrMask a k v c).lastOver = c.lastOver ∧ (wrMask a k v c).unforced = c.unforced ∧ (wrMask a k v c).check = c.check
    ∧ (wrMask a k v c).avgSum = c.avgSum ∧ (wrMask a k v c).avgBad = c.avgBad ∧ (wrMask a k v c).avgCnt = c.avgCnt
    ∧ (wrMask a k v c).laneDue = c.laneDue ∧ (wrMask a k v c).engines = c.engines ∧ (wrMask a k v c).sePtr = c.sePtr
    ∧ (wrMask a k v c).seFree = c.seFree ∧ (wrMask a k v c).cqPtr = c.cqPtr ∧ (wrMask a k v c).guardsDone = c.guardsDone
    ∧ (wrMask a k v c).flagWrites = c.flagWrites ∧ (wrMask a k v c).portRep = c.portRep ∧ (wrMask a k v c).drvMem = c.drvMem
    ∧ (wrMask a k v c).inMem = c.inMem ∧ (wrMask a k v c).convAt = c.convAt ∧ (wrMask a k v c).homeFlags = c.homeFlags
    ∧ (wrMask a k v c).pins = c.pins ∧ (wrMask a k v c).owNext = c.owNext ∧ (wrMask a k v c).marks = c.marks
    ∧ (wrMask a k v c).rimTasks = c.rimTasks ∧ (wrMask a k v c).rimGuards = c.rimGuards ∧ (wrMask a k v c).emitted = c.emitted
    ∧ (wrMask a k v c).vloopOk = c.vloopOk ∧ (wrMask a k v c).vlowDue = c.vlowDue ∧ (wrMask a k v c).recPtr = c.recPtr
    ∧ (wrMask a k v c).linkErrs = c.linkErrs ∧ (wrMask a k v c).linkBad = c.linkBad ∧ (wrMask a k v c).capCmds = c.capCmds
    ∧ (wrMask a k v c).causes = c.causes ∧ (wrMask a k v c).beat = c.beat ∧ (wrMask a k v c).boardTick = c.boardTick
    ∧ (wrMask a k v c).lastFrame = c.lastFrame ∧ (wrMask a k v c).testNext = c.testNext ∧ (wrMask a k v c).testAt = c.testAt
    ∧ (wrMask a k v c).tbFree = c.tbFree ∧ (wrMask a k v c).chgLast = c.chgLast ∧ (wrMask a k v c).chgMarks = c.chgMarks
    ∧ (wrMask a k v c).chgSettled = c.chgSettled ∧ (wrMask a k v c).watch = c.watch ∧ (wrMask a k v c).autoArm = c.autoArm
    ∧ (wrMask a k v c).health = c.health ∧ (wrMask a k v c).outEn = c.outEn ∧ (wrMask a k v c).lnk = c.lnk ∧ (wrMask a k v c).sec = c.sec
    ∧ (wrMask a k v c).restart = c.restart ∧ (wrMask a k v c).restartReq = c.restartReq ∧ (wrMask a k v c).ckA = c.ckA
    ∧ (wrMask a k v c).ckB = c.ckB ∧ (wrMask a k v c).ckNext = c.ckNext ∧ (wrMask a k v c).skewPeak = c.skewPeak
    ∧ (wrMask a k v c).hotLogic = c.hotLogic ∧ (wrMask a k v c).hotField = c.hotField ∧ (wrMask a k v c).syncSeen = c.syncSeen
    ∧ (wrMask a k v c).axShown = c.axShown ∧ (wrMask a k v c).pfCount = c.pfCount ∧ (wrMask a k v c).draws = c.draws
    ∧ (wrMask a k v c).outReset = c.outReset := by
  simp [wrMask, wr32]

@[simp] theorem wrF_frame (c : Chip) (a hi lo v : Nat) :
    (wrF a hi lo v c).bankActive = c.bankActive ∧ (wrF a hi lo v c).bank0 = c.bank0 ∧ (wrF a hi lo v c).bank1 = c.bank1
    ∧ (wrF a hi lo v c).walkAnyway = c.walkAnyway ∧ (wrF a hi lo v c).costAt = c.costAt ∧ (wrF a hi lo v c).laneMap = c.laneMap
    ∧ (wrF a hi lo v c).spares = c.spares ∧ (wrF a hi lo v c).laneOut = c.laneOut ∧ (wrF a hi lo v c).loops = c.loops
    ∧ (wrF a hi lo v c).sos = c.sos ∧ (wrF a hi lo v c).ages = c.ages ∧ (wrF a hi lo v c).termOn = c.termOn ∧ (wrF a hi lo v c).termEp = c.termEp
    ∧ (wrF a hi lo v c).condOn = c.condOn ∧ (wrF a hi lo v c).tripped = c.tripped ∧ (wrF a hi lo v c).echoes = c.echoes
    ∧ (wrF a hi lo v c).tasks = c.tasks ∧ (wrF a hi lo v c).nextStamp = c.nextStamp ∧ (wrF a hi lo v c).flags = c.flags
    ∧ (wrF a hi lo v c).mps = c.mps ∧ (wrF a hi lo v c).axes = c.axes ∧ (wrF a hi lo v c).ais = c.ais ∧ (wrF a hi lo v c).wls = c.wls
    ∧ (wrF a hi lo v c).badSteps = c.badSteps ∧ (wrF a hi lo v c).ports = c.ports ∧ (wrF a hi lo v c).fsk = c.fsk ∧ (wrF a hi lo v c).mism = c.mism
    ∧ (wrF a hi lo v c).retry = c.retry ∧ (wrF a hi lo v c).opSec = c.opSec ∧ (wrF a hi lo v c).caps = c.caps ∧ (wrF a hi lo v c).ping = c.ping
    ∧ (wrF a hi lo v c).time = c.time ∧ (wrF a hi lo v c).net = c.net ∧ (wrF a hi lo v c).retValid = c.retValid
    ∧ (wrF a hi lo v c).scrubPos = c.scrubPos ∧ (wrF a hi lo v c).scrubAt = c.scrubAt ∧ (wrF a hi lo v c).badMem = c.badMem
    ∧ (wrF a hi lo v c).twin = c.twin ∧ (wrF a hi lo v c).tick = c.tick ∧ (wrF a hi lo v c).phase = c.phase ∧ (wrF a hi lo v c).tickLen = c.tickLen
    ∧ (wrF a hi lo v c).perN = c.perN ∧ (wrF a hi lo v c).cyc = c.cyc ∧ (wrF a hi lo v c).before = c.before ∧ (wrF a hi lo v c).recMem = c.recMem
    ∧ (wrF a hi lo v c).work = c.work ∧ (wrF a hi lo v c).settled = c.settled ∧ (wrF a hi lo v c).ring = c.ring ∧ (wrF a hi lo v c).pend = c.pend
    ∧ (wrF a hi lo v c).mqueue = c.mqueue ∧ (wrF a hi lo v c).cqueue = c.cqueue ∧ (wrF a hi lo v c).dev = c.dev
    ∧ (wrF a hi lo v c).devBefore = c.devBefore ∧ (wrF a hi lo v c).pf = c.pf ∧ (wrF a hi lo v c).devReq = c.devReq
    ∧ (wrF a hi lo v c).devAuto = c.devAuto ∧ (wrF a hi lo v c).safeCause = c.safeCause ∧ (wrF a hi lo v c).autoRun = c.autoRun
    ∧ (wrF a hi lo v c).autoCfg = c.autoCfg ∧ (wrF a hi lo v c).sched = c.sched ∧ (wrF a hi lo v c).doneStr = c.doneStr
    ∧ (wrF a hi lo v c).lanesDown = c.lanesDown ∧ (wrF a hi lo v c).overrun = c.overrun ∧ (wrF a hi lo v c).earlyOver = c.earlyOver
    ∧ (wrF a hi lo v c).lastOver = c.lastOver ∧ (wrF a hi lo v c).unforced = c.unforced ∧ (wrF a hi lo v c).check = c.check
    ∧ (wrF a hi lo v c).avgSum = c.avgSum ∧ (wrF a hi lo v c).avgBad = c.avgBad ∧ (wrF a hi lo v c).avgCnt = c.avgCnt
    ∧ (wrF a hi lo v c).laneDue = c.laneDue ∧ (wrF a hi lo v c).engines = c.engines ∧ (wrF a hi lo v c).sePtr = c.sePtr
    ∧ (wrF a hi lo v c).seFree = c.seFree ∧ (wrF a hi lo v c).cqPtr = c.cqPtr ∧ (wrF a hi lo v c).guardsDone = c.guardsDone
    ∧ (wrF a hi lo v c).flagWrites = c.flagWrites ∧ (wrF a hi lo v c).portRep = c.portRep ∧ (wrF a hi lo v c).drvMem = c.drvMem
    ∧ (wrF a hi lo v c).inMem = c.inMem ∧ (wrF a hi lo v c).convAt = c.convAt ∧ (wrF a hi lo v c).homeFlags = c.homeFlags
    ∧ (wrF a hi lo v c).pins = c.pins ∧ (wrF a hi lo v c).owNext = c.owNext ∧ (wrF a hi lo v c).marks = c.marks
    ∧ (wrF a hi lo v c).rimTasks = c.rimTasks ∧ (wrF a hi lo v c).rimGuards = c.rimGuards ∧ (wrF a hi lo v c).emitted = c.emitted
    ∧ (wrF a hi lo v c).vloopOk = c.vloopOk ∧ (wrF a hi lo v c).vlowDue = c.vlowDue ∧ (wrF a hi lo v c).recPtr = c.recPtr
    ∧ (wrF a hi lo v c).linkErrs = c.linkErrs ∧ (wrF a hi lo v c).linkBad = c.linkBad ∧ (wrF a hi lo v c).capCmds = c.capCmds
    ∧ (wrF a hi lo v c).causes = c.causes ∧ (wrF a hi lo v c).beat = c.beat ∧ (wrF a hi lo v c).boardTick = c.boardTick
    ∧ (wrF a hi lo v c).lastFrame = c.lastFrame ∧ (wrF a hi lo v c).testNext = c.testNext ∧ (wrF a hi lo v c).testAt = c.testAt
    ∧ (wrF a hi lo v c).tbFree = c.tbFree ∧ (wrF a hi lo v c).chgLast = c.chgLast ∧ (wrF a hi lo v c).chgMarks = c.chgMarks
    ∧ (wrF a hi lo v c).chgSettled = c.chgSettled ∧ (wrF a hi lo v c).watch = c.watch ∧ (wrF a hi lo v c).autoArm = c.autoArm
    ∧ (wrF a hi lo v c).health = c.health ∧ (wrF a hi lo v c).outEn = c.outEn ∧ (wrF a hi lo v c).lnk = c.lnk ∧ (wrF a hi lo v c).sec = c.sec
    ∧ (wrF a hi lo v c).restart = c.restart ∧ (wrF a hi lo v c).restartReq = c.restartReq ∧ (wrF a hi lo v c).ckA = c.ckA
    ∧ (wrF a hi lo v c).ckB = c.ckB ∧ (wrF a hi lo v c).ckNext = c.ckNext ∧ (wrF a hi lo v c).skewPeak = c.skewPeak
    ∧ (wrF a hi lo v c).hotLogic = c.hotLogic ∧ (wrF a hi lo v c).hotField = c.hotField ∧ (wrF a hi lo v c).syncSeen = c.syncSeen
    ∧ (wrF a hi lo v c).axShown = c.axShown ∧ (wrF a hi lo v c).pfCount = c.pfCount ∧ (wrF a hi lo v c).draws = c.draws
    ∧ (wrF a hi lo v c).outReset = c.outReset := by
  simp [wrF, wr32]

@[simp] theorem wrB_frame (c : Chip) (a i : Nat) (b : Bool) :
    (wrB a i b c).bankActive = c.bankActive ∧ (wrB a i b c).bank0 = c.bank0 ∧ (wrB a i b c).bank1 = c.bank1
    ∧ (wrB a i b c).walkAnyway = c.walkAnyway ∧ (wrB a i b c).costAt = c.costAt ∧ (wrB a i b c).laneMap = c.laneMap
    ∧ (wrB a i b c).spares = c.spares ∧ (wrB a i b c).laneOut = c.laneOut ∧ (wrB a i b c).loops = c.loops ∧ (wrB a i b c).sos = c.sos
    ∧ (wrB a i b c).ages = c.ages ∧ (wrB a i b c).termOn = c.termOn ∧ (wrB a i b c).termEp = c.termEp ∧ (wrB a i b c).condOn = c.condOn
    ∧ (wrB a i b c).tripped = c.tripped ∧ (wrB a i b c).echoes = c.echoes ∧ (wrB a i b c).tasks = c.tasks ∧ (wrB a i b c).nextStamp = c.nextStamp
    ∧ (wrB a i b c).flags = c.flags ∧ (wrB a i b c).mps = c.mps ∧ (wrB a i b c).axes = c.axes ∧ (wrB a i b c).ais = c.ais
    ∧ (wrB a i b c).wls = c.wls ∧ (wrB a i b c).badSteps = c.badSteps ∧ (wrB a i b c).ports = c.ports ∧ (wrB a i b c).fsk = c.fsk
    ∧ (wrB a i b c).mism = c.mism ∧ (wrB a i b c).retry = c.retry ∧ (wrB a i b c).opSec = c.opSec ∧ (wrB a i b c).caps = c.caps
    ∧ (wrB a i b c).ping = c.ping ∧ (wrB a i b c).time = c.time ∧ (wrB a i b c).net = c.net ∧ (wrB a i b c).retValid = c.retValid
    ∧ (wrB a i b c).scrubPos = c.scrubPos ∧ (wrB a i b c).scrubAt = c.scrubAt ∧ (wrB a i b c).badMem = c.badMem ∧ (wrB a i b c).twin = c.twin
    ∧ (wrB a i b c).tick = c.tick ∧ (wrB a i b c).phase = c.phase ∧ (wrB a i b c).tickLen = c.tickLen ∧ (wrB a i b c).perN = c.perN
    ∧ (wrB a i b c).cyc = c.cyc ∧ (wrB a i b c).before = c.before ∧ (wrB a i b c).recMem = c.recMem ∧ (wrB a i b c).work = c.work
    ∧ (wrB a i b c).settled = c.settled ∧ (wrB a i b c).ring = c.ring ∧ (wrB a i b c).pend = c.pend ∧ (wrB a i b c).mqueue = c.mqueue
    ∧ (wrB a i b c).cqueue = c.cqueue ∧ (wrB a i b c).dev = c.dev ∧ (wrB a i b c).devBefore = c.devBefore ∧ (wrB a i b c).pf = c.pf
    ∧ (wrB a i b c).devReq = c.devReq ∧ (wrB a i b c).devAuto = c.devAuto ∧ (wrB a i b c).safeCause = c.safeCause
    ∧ (wrB a i b c).autoRun = c.autoRun ∧ (wrB a i b c).autoCfg = c.autoCfg ∧ (wrB a i b c).sched = c.sched ∧ (wrB a i b c).doneStr = c.doneStr
    ∧ (wrB a i b c).lanesDown = c.lanesDown ∧ (wrB a i b c).overrun = c.overrun ∧ (wrB a i b c).earlyOver = c.earlyOver
    ∧ (wrB a i b c).lastOver = c.lastOver ∧ (wrB a i b c).unforced = c.unforced ∧ (wrB a i b c).check = c.check ∧ (wrB a i b c).avgSum = c.avgSum
    ∧ (wrB a i b c).avgBad = c.avgBad ∧ (wrB a i b c).avgCnt = c.avgCnt ∧ (wrB a i b c).laneDue = c.laneDue ∧ (wrB a i b c).engines = c.engines
    ∧ (wrB a i b c).sePtr = c.sePtr ∧ (wrB a i b c).seFree = c.seFree ∧ (wrB a i b c).cqPtr = c.cqPtr ∧ (wrB a i b c).guardsDone = c.guardsDone
    ∧ (wrB a i b c).flagWrites = c.flagWrites ∧ (wrB a i b c).portRep = c.portRep ∧ (wrB a i b c).drvMem = c.drvMem ∧ (wrB a i b c).inMem = c.inMem
    ∧ (wrB a i b c).convAt = c.convAt ∧ (wrB a i b c).homeFlags = c.homeFlags ∧ (wrB a i b c).pins = c.pins ∧ (wrB a i b c).owNext = c.owNext
    ∧ (wrB a i b c).marks = c.marks ∧ (wrB a i b c).rimTasks = c.rimTasks ∧ (wrB a i b c).rimGuards = c.rimGuards
    ∧ (wrB a i b c).emitted = c.emitted ∧ (wrB a i b c).vloopOk = c.vloopOk ∧ (wrB a i b c).vlowDue = c.vlowDue ∧ (wrB a i b c).recPtr = c.recPtr
    ∧ (wrB a i b c).linkErrs = c.linkErrs ∧ (wrB a i b c).linkBad = c.linkBad ∧ (wrB a i b c).capCmds = c.capCmds ∧ (wrB a i b c).causes = c.causes
    ∧ (wrB a i b c).beat = c.beat ∧ (wrB a i b c).boardTick = c.boardTick ∧ (wrB a i b c).lastFrame = c.lastFrame
    ∧ (wrB a i b c).testNext = c.testNext ∧ (wrB a i b c).testAt = c.testAt ∧ (wrB a i b c).tbFree = c.tbFree ∧ (wrB a i b c).chgLast = c.chgLast
    ∧ (wrB a i b c).chgMarks = c.chgMarks ∧ (wrB a i b c).chgSettled = c.chgSettled ∧ (wrB a i b c).watch = c.watch
    ∧ (wrB a i b c).autoArm = c.autoArm ∧ (wrB a i b c).health = c.health ∧ (wrB a i b c).outEn = c.outEn ∧ (wrB a i b c).lnk = c.lnk
    ∧ (wrB a i b c).sec = c.sec ∧ (wrB a i b c).restart = c.restart ∧ (wrB a i b c).restartReq = c.restartReq ∧ (wrB a i b c).ckA = c.ckA
    ∧ (wrB a i b c).ckB = c.ckB ∧ (wrB a i b c).ckNext = c.ckNext ∧ (wrB a i b c).skewPeak = c.skewPeak ∧ (wrB a i b c).hotLogic = c.hotLogic
    ∧ (wrB a i b c).hotField = c.hotField ∧ (wrB a i b c).syncSeen = c.syncSeen ∧ (wrB a i b c).axShown = c.axShown
    ∧ (wrB a i b c).pfCount = c.pfCount ∧ (wrB a i b c).draws = c.draws ∧ (wrB a i b c).outReset = c.outReset := by
  simp [wrB, wr32]

@[simp] theorem regInc_frame (c : Chip) (a : Nat) :
    (regInc a c).bankActive = c.bankActive ∧ (regInc a c).bank0 = c.bank0 ∧ (regInc a c).bank1 = c.bank1 ∧ (regInc a c).walkAnyway = c.walkAnyway
    ∧ (regInc a c).costAt = c.costAt ∧ (regInc a c).laneMap = c.laneMap ∧ (regInc a c).spares = c.spares ∧ (regInc a c).laneOut = c.laneOut
    ∧ (regInc a c).loops = c.loops ∧ (regInc a c).sos = c.sos ∧ (regInc a c).ages = c.ages ∧ (regInc a c).termOn = c.termOn
    ∧ (regInc a c).termEp = c.termEp ∧ (regInc a c).condOn = c.condOn ∧ (regInc a c).tripped = c.tripped ∧ (regInc a c).echoes = c.echoes
    ∧ (regInc a c).tasks = c.tasks ∧ (regInc a c).nextStamp = c.nextStamp ∧ (regInc a c).flags = c.flags ∧ (regInc a c).mps = c.mps
    ∧ (regInc a c).axes = c.axes ∧ (regInc a c).ais = c.ais ∧ (regInc a c).wls = c.wls ∧ (regInc a c).badSteps = c.badSteps
    ∧ (regInc a c).ports = c.ports ∧ (regInc a c).fsk = c.fsk ∧ (regInc a c).mism = c.mism ∧ (regInc a c).retry = c.retry
    ∧ (regInc a c).opSec = c.opSec ∧ (regInc a c).caps = c.caps ∧ (regInc a c).ping = c.ping ∧ (regInc a c).time = c.time
    ∧ (regInc a c).net = c.net ∧ (regInc a c).retValid = c.retValid ∧ (regInc a c).scrubPos = c.scrubPos ∧ (regInc a c).scrubAt = c.scrubAt
    ∧ (regInc a c).badMem = c.badMem ∧ (regInc a c).twin = c.twin ∧ (regInc a c).tick = c.tick ∧ (regInc a c).phase = c.phase
    ∧ (regInc a c).tickLen = c.tickLen ∧ (regInc a c).perN = c.perN ∧ (regInc a c).cyc = c.cyc ∧ (regInc a c).before = c.before
    ∧ (regInc a c).recMem = c.recMem ∧ (regInc a c).work = c.work ∧ (regInc a c).settled = c.settled ∧ (regInc a c).ring = c.ring
    ∧ (regInc a c).pend = c.pend ∧ (regInc a c).mqueue = c.mqueue ∧ (regInc a c).cqueue = c.cqueue ∧ (regInc a c).dev = c.dev
    ∧ (regInc a c).devBefore = c.devBefore ∧ (regInc a c).pf = c.pf ∧ (regInc a c).devReq = c.devReq ∧ (regInc a c).devAuto = c.devAuto
    ∧ (regInc a c).safeCause = c.safeCause ∧ (regInc a c).autoRun = c.autoRun ∧ (regInc a c).autoCfg = c.autoCfg ∧ (regInc a c).sched = c.sched
    ∧ (regInc a c).doneStr = c.doneStr ∧ (regInc a c).lanesDown = c.lanesDown ∧ (regInc a c).overrun = c.overrun
    ∧ (regInc a c).earlyOver = c.earlyOver ∧ (regInc a c).lastOver = c.lastOver ∧ (regInc a c).unforced = c.unforced ∧ (regInc a c).check = c.check
    ∧ (regInc a c).avgSum = c.avgSum ∧ (regInc a c).avgBad = c.avgBad ∧ (regInc a c).avgCnt = c.avgCnt ∧ (regInc a c).laneDue = c.laneDue
    ∧ (regInc a c).engines = c.engines ∧ (regInc a c).sePtr = c.sePtr ∧ (regInc a c).seFree = c.seFree ∧ (regInc a c).cqPtr = c.cqPtr
    ∧ (regInc a c).guardsDone = c.guardsDone ∧ (regInc a c).flagWrites = c.flagWrites ∧ (regInc a c).portRep = c.portRep
    ∧ (regInc a c).drvMem = c.drvMem ∧ (regInc a c).inMem = c.inMem ∧ (regInc a c).convAt = c.convAt ∧ (regInc a c).homeFlags = c.homeFlags
    ∧ (regInc a c).pins = c.pins ∧ (regInc a c).owNext = c.owNext ∧ (regInc a c).marks = c.marks ∧ (regInc a c).rimTasks = c.rimTasks
    ∧ (regInc a c).rimGuards = c.rimGuards ∧ (regInc a c).emitted = c.emitted ∧ (regInc a c).vloopOk = c.vloopOk ∧ (regInc a c).vlowDue = c.vlowDue
    ∧ (regInc a c).recPtr = c.recPtr ∧ (regInc a c).linkErrs = c.linkErrs ∧ (regInc a c).linkBad = c.linkBad ∧ (regInc a c).capCmds = c.capCmds
    ∧ (regInc a c).causes = c.causes ∧ (regInc a c).beat = c.beat ∧ (regInc a c).boardTick = c.boardTick ∧ (regInc a c).lastFrame = c.lastFrame
    ∧ (regInc a c).testNext = c.testNext ∧ (regInc a c).testAt = c.testAt ∧ (regInc a c).tbFree = c.tbFree ∧ (regInc a c).chgLast = c.chgLast
    ∧ (regInc a c).chgMarks = c.chgMarks ∧ (regInc a c).chgSettled = c.chgSettled ∧ (regInc a c).watch = c.watch ∧ (regInc a c).autoArm = c.autoArm
    ∧ (regInc a c).health = c.health ∧ (regInc a c).outEn = c.outEn ∧ (regInc a c).lnk = c.lnk ∧ (regInc a c).sec = c.sec
    ∧ (regInc a c).restart = c.restart ∧ (regInc a c).restartReq = c.restartReq ∧ (regInc a c).ckA = c.ckA ∧ (regInc a c).ckB = c.ckB
    ∧ (regInc a c).ckNext = c.ckNext ∧ (regInc a c).skewPeak = c.skewPeak ∧ (regInc a c).hotLogic = c.hotLogic ∧ (regInc a c).hotField = c.hotField
    ∧ (regInc a c).syncSeen = c.syncSeen ∧ (regInc a c).axShown = c.axShown ∧ (regInc a c).pfCount = c.pfCount ∧ (regInc a c).draws = c.draws
    ∧ (regInc a c).outReset = c.outReset := by
  simp [regInc, wr32]

@[simp] theorem boardWr_frame (c : Chip) (t i : Nat) (v : Word) (valid : Bool) :
    (boardWr t i v valid c).bankActive = c.bankActive ∧ (boardWr t i v valid c).bank0 = c.bank0 ∧ (boardWr t i v valid c).bank1 = c.bank1
    ∧ (boardWr t i v valid c).walkAnyway = c.walkAnyway ∧ (boardWr t i v valid c).costAt = c.costAt ∧ (boardWr t i v valid c).laneMap = c.laneMap
    ∧ (boardWr t i v valid c).spares = c.spares ∧ (boardWr t i v valid c).laneOut = c.laneOut ∧ (boardWr t i v valid c).loops = c.loops
    ∧ (boardWr t i v valid c).sos = c.sos ∧ (boardWr t i v valid c).ages = c.ages ∧ (boardWr t i v valid c).termOn = c.termOn
    ∧ (boardWr t i v valid c).termEp = c.termEp ∧ (boardWr t i v valid c).condOn = c.condOn ∧ (boardWr t i v valid c).tripped = c.tripped
    ∧ (boardWr t i v valid c).echoes = c.echoes ∧ (boardWr t i v valid c).tasks = c.tasks ∧ (boardWr t i v valid c).nextStamp = c.nextStamp
    ∧ (boardWr t i v valid c).flags = c.flags ∧ (boardWr t i v valid c).mps = c.mps ∧ (boardWr t i v valid c).axes = c.axes
    ∧ (boardWr t i v valid c).ais = c.ais ∧ (boardWr t i v valid c).wls = c.wls ∧ (boardWr t i v valid c).badSteps = c.badSteps
    ∧ (boardWr t i v valid c).ports = c.ports ∧ (boardWr t i v valid c).fsk = c.fsk ∧ (boardWr t i v valid c).mism = c.mism
    ∧ (boardWr t i v valid c).retry = c.retry ∧ (boardWr t i v valid c).opSec = c.opSec ∧ (boardWr t i v valid c).caps = c.caps
    ∧ (boardWr t i v valid c).ping = c.ping ∧ (boardWr t i v valid c).time = c.time ∧ (boardWr t i v valid c).net = c.net
    ∧ (boardWr t i v valid c).retValid = c.retValid ∧ (boardWr t i v valid c).scrubPos = c.scrubPos ∧ (boardWr t i v valid c).scrubAt = c.scrubAt
    ∧ (boardWr t i v valid c).badMem = c.badMem ∧ (boardWr t i v valid c).twin = c.twin ∧ (boardWr t i v valid c).tick = c.tick
    ∧ (boardWr t i v valid c).phase = c.phase ∧ (boardWr t i v valid c).tickLen = c.tickLen ∧ (boardWr t i v valid c).perN = c.perN
    ∧ (boardWr t i v valid c).cyc = c.cyc ∧ (boardWr t i v valid c).mem = c.mem ∧ (boardWr t i v valid c).before = c.before
    ∧ (boardWr t i v valid c).recMem = c.recMem ∧ (boardWr t i v valid c).settled = c.settled ∧ (boardWr t i v valid c).ring = c.ring
    ∧ (boardWr t i v valid c).pend = c.pend ∧ (boardWr t i v valid c).mqueue = c.mqueue ∧ (boardWr t i v valid c).cqueue = c.cqueue
    ∧ (boardWr t i v valid c).dev = c.dev ∧ (boardWr t i v valid c).devBefore = c.devBefore ∧ (boardWr t i v valid c).pf = c.pf
    ∧ (boardWr t i v valid c).devReq = c.devReq ∧ (boardWr t i v valid c).devAuto = c.devAuto ∧ (boardWr t i v valid c).safeCause = c.safeCause
    ∧ (boardWr t i v valid c).autoRun = c.autoRun ∧ (boardWr t i v valid c).autoCfg = c.autoCfg ∧ (boardWr t i v valid c).sched = c.sched
    ∧ (boardWr t i v valid c).doneStr = c.doneStr ∧ (boardWr t i v valid c).lanesDown = c.lanesDown ∧ (boardWr t i v valid c).overrun = c.overrun
    ∧ (boardWr t i v valid c).earlyOver = c.earlyOver ∧ (boardWr t i v valid c).lastOver = c.lastOver
    ∧ (boardWr t i v valid c).unforced = c.unforced ∧ (boardWr t i v valid c).check = c.check ∧ (boardWr t i v valid c).avgSum = c.avgSum
    ∧ (boardWr t i v valid c).avgBad = c.avgBad ∧ (boardWr t i v valid c).avgCnt = c.avgCnt ∧ (boardWr t i v valid c).laneDue = c.laneDue
    ∧ (boardWr t i v valid c).engines = c.engines ∧ (boardWr t i v valid c).sePtr = c.sePtr ∧ (boardWr t i v valid c).seFree = c.seFree
    ∧ (boardWr t i v valid c).cqPtr = c.cqPtr ∧ (boardWr t i v valid c).guardsDone = c.guardsDone
    ∧ (boardWr t i v valid c).flagWrites = c.flagWrites ∧ (boardWr t i v valid c).portRep = c.portRep ∧ (boardWr t i v valid c).drvMem = c.drvMem
    ∧ (boardWr t i v valid c).inMem = c.inMem ∧ (boardWr t i v valid c).convAt = c.convAt ∧ (boardWr t i v valid c).homeFlags = c.homeFlags
    ∧ (boardWr t i v valid c).pins = c.pins ∧ (boardWr t i v valid c).owNext = c.owNext ∧ (boardWr t i v valid c).marks = c.marks
    ∧ (boardWr t i v valid c).rimTasks = c.rimTasks ∧ (boardWr t i v valid c).rimGuards = c.rimGuards ∧ (boardWr t i v valid c).emitted = c.emitted
    ∧ (boardWr t i v valid c).vloopOk = c.vloopOk ∧ (boardWr t i v valid c).vlowDue = c.vlowDue ∧ (boardWr t i v valid c).recPtr = c.recPtr
    ∧ (boardWr t i v valid c).linkErrs = c.linkErrs ∧ (boardWr t i v valid c).linkBad = c.linkBad ∧ (boardWr t i v valid c).capCmds = c.capCmds
    ∧ (boardWr t i v valid c).causes = c.causes ∧ (boardWr t i v valid c).beat = c.beat ∧ (boardWr t i v valid c).boardTick = c.boardTick
    ∧ (boardWr t i v valid c).lastFrame = c.lastFrame ∧ (boardWr t i v valid c).testNext = c.testNext ∧ (boardWr t i v valid c).testAt = c.testAt
    ∧ (boardWr t i v valid c).tbFree = c.tbFree ∧ (boardWr t i v valid c).chgLast = c.chgLast ∧ (boardWr t i v valid c).chgMarks = c.chgMarks
    ∧ (boardWr t i v valid c).chgSettled = c.chgSettled ∧ (boardWr t i v valid c).watch = c.watch ∧ (boardWr t i v valid c).autoArm = c.autoArm
    ∧ (boardWr t i v valid c).health = c.health ∧ (boardWr t i v valid c).outEn = c.outEn ∧ (boardWr t i v valid c).lnk = c.lnk
    ∧ (boardWr t i v valid c).sec = c.sec ∧ (boardWr t i v valid c).restart = c.restart ∧ (boardWr t i v valid c).restartReq = c.restartReq
    ∧ (boardWr t i v valid c).ckA = c.ckA ∧ (boardWr t i v valid c).ckB = c.ckB ∧ (boardWr t i v valid c).ckNext = c.ckNext
    ∧ (boardWr t i v valid c).skewPeak = c.skewPeak ∧ (boardWr t i v valid c).hotLogic = c.hotLogic ∧ (boardWr t i v valid c).hotField = c.hotField
    ∧ (boardWr t i v valid c).syncSeen = c.syncSeen ∧ (boardWr t i v valid c).axShown = c.axShown ∧ (boardWr t i v valid c).pfCount = c.pfCount
    ∧ (boardWr t i v valid c).draws = c.draws ∧ (boardWr t i v valid c).outReset = c.outReset := by
  simp [boardWr]

@[simp] theorem atPhase_frame (c : Chip) (ph : Nat) :
    (atPhase ph c).bankActive = c.bankActive ∧ (atPhase ph c).bank0 = c.bank0 ∧ (atPhase ph c).bank1 = c.bank1
    ∧ (atPhase ph c).walkAnyway = c.walkAnyway ∧ (atPhase ph c).costAt = c.costAt ∧ (atPhase ph c).laneMap = c.laneMap
    ∧ (atPhase ph c).spares = c.spares ∧ (atPhase ph c).laneOut = c.laneOut ∧ (atPhase ph c).loops = c.loops ∧ (atPhase ph c).sos = c.sos
    ∧ (atPhase ph c).ages = c.ages ∧ (atPhase ph c).termOn = c.termOn ∧ (atPhase ph c).termEp = c.termEp ∧ (atPhase ph c).condOn = c.condOn
    ∧ (atPhase ph c).tripped = c.tripped ∧ (atPhase ph c).echoes = c.echoes ∧ (atPhase ph c).tasks = c.tasks
    ∧ (atPhase ph c).nextStamp = c.nextStamp ∧ (atPhase ph c).flags = c.flags ∧ (atPhase ph c).mps = c.mps ∧ (atPhase ph c).axes = c.axes
    ∧ (atPhase ph c).ais = c.ais ∧ (atPhase ph c).wls = c.wls ∧ (atPhase ph c).badSteps = c.badSteps ∧ (atPhase ph c).ports = c.ports
    ∧ (atPhase ph c).fsk = c.fsk ∧ (atPhase ph c).mism = c.mism ∧ (atPhase ph c).retry = c.retry ∧ (atPhase ph c).opSec = c.opSec
    ∧ (atPhase ph c).caps = c.caps ∧ (atPhase ph c).ping = c.ping ∧ (atPhase ph c).time = c.time ∧ (atPhase ph c).net = c.net
    ∧ (atPhase ph c).retValid = c.retValid ∧ (atPhase ph c).scrubPos = c.scrubPos ∧ (atPhase ph c).scrubAt = c.scrubAt
    ∧ (atPhase ph c).badMem = c.badMem ∧ (atPhase ph c).twin = c.twin ∧ (atPhase ph c).tick = c.tick ∧ (atPhase ph c).tickLen = c.tickLen
    ∧ (atPhase ph c).perN = c.perN ∧ (atPhase ph c).cyc = c.cyc ∧ (atPhase ph c).mem = c.mem ∧ (atPhase ph c).recMem = c.recMem
    ∧ (atPhase ph c).work = c.work ∧ (atPhase ph c).settled = c.settled ∧ (atPhase ph c).ring = c.ring ∧ (atPhase ph c).pend = c.pend
    ∧ (atPhase ph c).mqueue = c.mqueue ∧ (atPhase ph c).cqueue = c.cqueue ∧ (atPhase ph c).dev = c.dev ∧ (atPhase ph c).devBefore = c.devBefore
    ∧ (atPhase ph c).pf = c.pf ∧ (atPhase ph c).devReq = c.devReq ∧ (atPhase ph c).devAuto = c.devAuto ∧ (atPhase ph c).safeCause = c.safeCause
    ∧ (atPhase ph c).autoRun = c.autoRun ∧ (atPhase ph c).autoCfg = c.autoCfg ∧ (atPhase ph c).sched = c.sched ∧ (atPhase ph c).doneStr = c.doneStr
    ∧ (atPhase ph c).lanesDown = c.lanesDown ∧ (atPhase ph c).overrun = c.overrun ∧ (atPhase ph c).earlyOver = c.earlyOver
    ∧ (atPhase ph c).lastOver = c.lastOver ∧ (atPhase ph c).unforced = c.unforced ∧ (atPhase ph c).check = c.check
    ∧ (atPhase ph c).avgSum = c.avgSum ∧ (atPhase ph c).avgBad = c.avgBad ∧ (atPhase ph c).avgCnt = c.avgCnt ∧ (atPhase ph c).laneDue = c.laneDue
    ∧ (atPhase ph c).engines = c.engines ∧ (atPhase ph c).sePtr = c.sePtr ∧ (atPhase ph c).seFree = c.seFree ∧ (atPhase ph c).cqPtr = c.cqPtr
    ∧ (atPhase ph c).guardsDone = c.guardsDone ∧ (atPhase ph c).flagWrites = c.flagWrites ∧ (atPhase ph c).portRep = c.portRep
    ∧ (atPhase ph c).drvMem = c.drvMem ∧ (atPhase ph c).inMem = c.inMem ∧ (atPhase ph c).convAt = c.convAt ∧ (atPhase ph c).homeFlags = c.homeFlags
    ∧ (atPhase ph c).pins = c.pins ∧ (atPhase ph c).owNext = c.owNext ∧ (atPhase ph c).marks = c.marks ∧ (atPhase ph c).rimTasks = c.rimTasks
    ∧ (atPhase ph c).rimGuards = c.rimGuards ∧ (atPhase ph c).emitted = c.emitted ∧ (atPhase ph c).vloopOk = c.vloopOk
    ∧ (atPhase ph c).vlowDue = c.vlowDue ∧ (atPhase ph c).recPtr = c.recPtr ∧ (atPhase ph c).linkErrs = c.linkErrs
    ∧ (atPhase ph c).linkBad = c.linkBad ∧ (atPhase ph c).capCmds = c.capCmds ∧ (atPhase ph c).causes = c.causes ∧ (atPhase ph c).beat = c.beat
    ∧ (atPhase ph c).boardTick = c.boardTick ∧ (atPhase ph c).lastFrame = c.lastFrame ∧ (atPhase ph c).testNext = c.testNext
    ∧ (atPhase ph c).testAt = c.testAt ∧ (atPhase ph c).tbFree = c.tbFree ∧ (atPhase ph c).chgLast = c.chgLast
    ∧ (atPhase ph c).chgMarks = c.chgMarks ∧ (atPhase ph c).chgSettled = c.chgSettled ∧ (atPhase ph c).watch = c.watch
    ∧ (atPhase ph c).autoArm = c.autoArm ∧ (atPhase ph c).health = c.health ∧ (atPhase ph c).outEn = c.outEn ∧ (atPhase ph c).lnk = c.lnk
    ∧ (atPhase ph c).sec = c.sec ∧ (atPhase ph c).restart = c.restart ∧ (atPhase ph c).restartReq = c.restartReq ∧ (atPhase ph c).ckA = c.ckA
    ∧ (atPhase ph c).ckB = c.ckB ∧ (atPhase ph c).ckNext = c.ckNext ∧ (atPhase ph c).skewPeak = c.skewPeak ∧ (atPhase ph c).hotLogic = c.hotLogic
    ∧ (atPhase ph c).hotField = c.hotField ∧ (atPhase ph c).syncSeen = c.syncSeen ∧ (atPhase ph c).axShown = c.axShown
    ∧ (atPhase ph c).pfCount = c.pfCount ∧ (atPhase ph c).draws = c.draws ∧ (atPhase ph c).outReset = c.outReset := by
  simp [atPhase]

end Sys2Proof.Machine
end

