-- ==== Sys2Proof/WellFormed.lean ====
section
/-!
DEFINITION. WellFormed.lean: the operands that can come to the part with a command: each within the width, range or number that the specification
gives it. The model gives every command a meaning, well-formed or not.
-/
namespace Sys2Proof

/-- A phase of a tick: 0 to 25,012 CK_TIME cycles (R26). -/
def phaseOk (ph : Nat) : Bool := decide (ph ≤ 25012)

/-- A tick count of 48 bits (R33). -/
def tickOk (t : Nat) : Bool := decide (t < 2 ^ 48)

/-- A value of `n` bits. -/
def bitsOk (n x : Nat) : Bool := decide (x < 2 ^ n)

/-- A two's complement value of `n` bits. -/
def signedOk (n : Nat) (x : Int) : Bool := decide (-(2 ^ (n - 1) : Nat) ≤ x) && decide (x < (2 ^ (n - 1) : Nat))

/-- The fields of a recipe step within the widths of R166. -/
def stepOk (w : StepWord) : Bool := bitsOk 4 w.tag && bitsOk 16 w.a

/-- Self-test names lanes, axes and ports that exist. -/
def bistOk (b : BistResult) : Bool :=
  b.lanes.all (fun n => decide (n < 20)) && b.axes.all (fun n => decide (n < 32)) && b.ports.all (fun n => decide (n < 32))

/-- Sensor readings within the widths of their fields (R472). -/
def senseOk (x : Sense) : Bool := bitsOk 16 x.vhold && bitsOk 16 x.power && bitsOk 8 x.logic && bitsOk 8 x.field

/-- A return frame (R303): a payload of at most 1024 words. -/
def returnOk (f : ReturnFrame) : Bool :=
  tickOk f.seq && bitsOk 16 f.epochSeen && decide (f.hstat.length ≤ 16) && decide (f.payload.length ≤ 1024)

/-- What link start finds (R306): sixteen DELAY exchanges of each head, none shorter than its turnaround. -/
def linkOk (r : LinkResult) : Bool :=
  r.heads.all (fun h => decide (h.exchanges.length = 16) && h.exchanges.all (fun e => decide (e.2 ≤ e.1)))

/-- A signal frame (R384): a validity flag for each word. -/
def signalOk (f : SignalFrame) : Bool := decide (f.valids.length = f.words.length)

/-- Operands within range. -/
def wellFormed (i : Instr) : Bool :=
  match i with
  | .powerOnReset b _ => bistOk b
  | .restartComplete _ _ k => tickOk k
  | .powerFail mv _ ph | .powerFailClear mv ph => bitsOk 16 mv && phaseOk ph
  | .vloopResume mv => bitsOk 16 mv
  | .vloopLow mv ph => bitsOk 16 mv && phaseOk ph
  | .pllUnlock _ ph | .witnessLost ph => phaseOk ph
  | .tempWarn _ c ph => decide (c < 216) && phaseOk ph
  | .tickStart a b => signedOk 16 a && signedOk 16 b
  | .pIn xs v x => decide (xs.length = 32) && bitsOk 16 v && senseOk x
  | .stepSet _ w | .stepRamp _ w | .stepValve _ w | .stepMove _ w | .stepMode _ w | .stepDelay _ w | .stepWaitUntil _ w | .stepWaitEvent _ w
  | .stepSignal _ w | .stepFork _ w | .stepCall _ w | .stepReturn _ w | .stepJump _ w | .stepBranch _ w | .stepMark _ w | .stepCapture _ w
  | .stepEnd _ w => stepOk w
  | .hostRegisterWrite bar a _ _ ph => decide (a < (match bar with | .bar4 => 0x200000000 | _ => 0x04000000)) && phaseOk ph
  | .indexEdge _ t ph | .indexLost _ t ph | .edgeQualified _ _ _ t ph | .stepEdge _ t ph | .fskBit _ t ph | .fskCd _ _ t ph
  | .fskRxCharacter _ _ _ _ t ph | .glintPresent t ph => tickOk t && phaseOk ph
  | .onTimeEnd _ _ x t ph | .offTimeEnd _ _ x t ph => signedOk 12 x && tickOk t && phaseOk ph
  | .tableUpdate _ k a b => decide (1 ≤ k) && decide (k ≤ 200) && signedOk 12 a && signedOk 12 b
  | .aiConversion l ph => decide (l.length = 64) && l.all (signedOk 18) && phaseOk ph
  | .checkAdc _ x => signedOk 18 x.val && phaseOk x.ph
  | .returnFrame _ f ph => returnOk f && phaseOk ph
  | .signalFrameRx f ph => signalOk f && phaseOk ph
  | .hostFrameRx _ b ph => decide (60 ≤ b.length) && decide (b.length ≤ 1518) && phaseOk ph
  | .prpReceive _ src _ rct ph => bitsOk 48 src && rct.all (fun r => bitsOk 4 r.1 && bitsOk 16 r.2) && phaseOk ph
  | .ptpTransmit _ _ corr _ ph => bitsOk 64 corr && phaseOk ph
  | .triggerJudgement l => l.all (fun e => decide (e.1 < 4) && phaseOk e.2)
  | .pingRound l => l.val.all (fun e => decide (e.1 < 32)) && phaseOk l.ph
  | .linkStartDone _ r ph => linkOk r && phaseOk ph
  | .tbBurst _ u _ ns => bitsOk 5 u && phaseOk (ns / 4)
  | .pkgLoad b _ ph => decide (b.length < 2 ^ 25) && phaseOk ph
  | .linkCheck l => decide (l.val.length = 11) && phaseOk l.ph
  | .joinComplete d => bitsOk 128 d
  | .xcheckDiff x => decide (x < 16384)
  | .degradedTakeover l ph => l.all (fun e => decide (e.1 < 2048) && signedOk 32 e.2) && phaseOk ph
  | .glintLost t ph now => tickOk t && phaseOk ph && phaseOk now
  | .handoff ph => phaseOk ph
  | .offsetMeasurement _ x ph | .pathDelayMeasurement _ x ph => signedOk 64 x && phaseOk ph
  | .taskDispatch _ ph | .laneStop _ _ ph | .commit _ _ ph | .discard _ _ ph | .evtForce _ _ _ ph | .lock _ _ ph | .tickCountLo _ ph
  | .nsNow _ ph | .opSecLo _ ph | .wrCount _ _ ph | .rxData _ _ ph | .swapReq _ ph | .checkCmd _ _ ph | .checkDone _ ph | .retireReq _ _ ph
  | .engineUnretire _ _ ph | .loopClrState _ _ ph | .sosClrState _ _ ph | .guardResetRequest _ _ _ ph | .firstClr _ ph | .learn _ _ _ ph
  | .freeze _ _ _ ph | .fade _ _ _ ph | .clear _ _ _ ph | .echoUnretire _ _ _ ph | .start _ _ ph | .cancel _ _ ph | .suspend _ _ ph
  | .resume _ _ ph | .flagSet _ _ _ ph | .flagClr _ _ _ ph | .qstop _ _ _ ph | .home _ _ ph | .setPosCmd _ _ ph | .overcurrent _ _ ph
  | .stepdrvUnretire _ _ ph | .clrOffs _ _ ph | .thermalShut _ _ ph | .lportUnretire _ _ ph | .txData _ _ _ ph | .txGo _ _ _ ph
  | .fskMessageStart _ ph | .txAbort _ _ ph | .rxFlush _ _ ph | .aiUnretire _ _ _ ph | .rawEdge _ _ ph | .linkStart _ _ ph
  | .linkStop _ _ ph | .wlDown _ ph | .arm _ _ ph | .disarm _ _ ph | .swTrig _ _ ph | .syncLost ph | .ping _ ph
  | .rdCount _ _ _ ph | .msixMessage _ ph | .irqHoldoff _ ph | .hostReset ph | .wdKick _ ph | .hostLost ph | .run _ ph | .safe _ ph
  | .restart _ ph | .flush _ ph | .healthFlush _ ph | .flushRetry ph | .codeCfg _ _ ph | .rdIndex _ _ ph | .scrub _ ph
  | .sramError _ _ _ _ _ ph | .announce _ _ ph | .masterLost ph | .restep _ ph | .timeCmdSet _ ph | .timeCmdCancel _ ph
  | .prpSupervision ph | .netLinkDown _ ph | .netLinkUp _ ph | .htxGo _ _ ph | .hrxPop _ ph | .glintPulse ph | .twinLinkLost ph
  | .twinLinkLock _ ph | .mirrorPart _ ph | .twinAck ph | .takeover ph | .witnessFrame _ ph | .swap _ ph | .rejoin _ ph | .retire _ ph
  | .solo _ ph | .joinSlow ph | .joinWait _ ph | .migHandover _ ph | .migAbort _ ph | .chalCmdNew _ ph | .chalCmdClose _ ph | .sessionEnd ph
  | .pkgLoaded ph | .supplementApply ph | .pkgApply ph | .anchor ph | .grant ph | .claim ph | .returnPackage ph | .provision ph | .cert ph
  | .debug ph | .refurb ph | .scrap ph | .quoteGo _ ph | .quoteDone ph | .pllRelock _ ph | .refLocked ph | .syncReceiptTimeout _ ph
  | .flushSpacing ph | .linkTraining _ _ ph | .msixUnmask _ _ ph
  | .clearDone ⟨_, ph⟩ | .chopTest _ ph | .portReadback _ _ ⟨_, ph⟩ | .shareLost _ ⟨_, ph⟩ | .capOverflow ⟨_, ph⟩
  | .laneCheck _ _ ⟨_, ph⟩ | .recompute _ _ ph | .subLost ⟨_, ph⟩ => phaseOk ph
  | .eventTake | .flushInterval | .migDone
  | .autoRun | .heldOutputRestart _ | .fieldDieHoldExpiry | .logicWatchdog | .wakePass | .delayExpiry _ | .waitTimeout _
  | .recipeMemErr _ | .strandDispatch _ | .strandComplete _ | .earlyCompletionCheck | .guardEvaluation | .profilePass | .pOut _ | .echoUpdate _
  | .rim _ | .chatter _ _ | .standstillReduction _ | .openCoil _ _ | .compliance _ | .openLoop _ | .portThermalRestart _ _ | .overshare _
  | .openWireTest _ | .returnLost _ | .boardSweep | .rearmEnd _ | .streamDrained _ | .dmaTransfer _ _ | .opSec | .healthSample | .witnessSend
  | .handoffSwitch | .failbackRequest | .failback => true

end Sys2Proof
end

