-- ==== Sys2Proof/Tests/Slice0.lean ====
section
/-!
SUPPORT. Tests/Slice0.lean: the model's own tests: operands that the checks of WellFormed refuse, single steps whose results are worked out from the
specification, and for every statement with hypotheses states and operands that meet them.
-/
namespace Sys2Proof.Machine

open Sys2Proof

/-! ### Operands out of range -/

/-- A recipe step with a tag of 16. -/
def badStep : StepWord := ⟨16, false, false, false, false, 0, 0, 0, 0⟩

/-- Every check refuses something. -/
theorem test_ill_formed_operands_are_refused :
    [Instr.powerOnReset ⟨[20], [], []⟩ false, .restartComplete true true (2 ^ 48), .powerFail 0x10000 false 0, .powerFailClear 0 25013,
      .vloopResume 0x10000, .vloopLow 0x10000 0, .pllUnlock 0 25013, .witnessLost 25013, .tempWarn false 216 0, .tickStart 32768 0, .pIn [] 0 ⟨0, 0, 0, 0⟩, .subLost ⟨0, 25013⟩, .glintPulse 25013,
      .stepSet 0 badStep, .stepEnd 0 { badStep with tag := 0, a := 0x10000 }, .hostRegisterWrite .bar0 0x04000000 none 0 0,
      .hostRegisterWrite .bar4 0x200000000 (some 0) 0 0, .indexEdge 0 (2 ^ 48) 0, .onTimeEnd 0 0 2048 0 0, .tableUpdate 0 0 0 0, .tableUpdate 0 201 0 0,
      .tableUpdate 0 1 2048 0, .aiConversion [] 0, .checkAdc 0 ⟨131072, 0⟩, .returnFrame 0 ⟨2 ^ 48, 0, 0, [], [], 0⟩ 0,
      .returnFrame 0 ⟨0, 0, 0, List.replicate 17 0, [], 0⟩ 0, .signalFrameRx ⟨2, 0, 0, 0, 0, 0, [], [0]⟩ 0, .hostFrameRx 0 [] 0,
      .prpReceive 0 (2 ^ 48) false none 0, .prpReceive 0 0 false (some (16, 0)) 0, .ptpTransmit 0 .sync (2 ^ 64) 0 0, .triggerJudgement [(4, 0)],
      .pingRound ⟨[(32, 0)], 0⟩, .tbBurst 0 32 true 0, .linkCheck ⟨[], 0⟩, .joinComplete (2 ^ 128), .xcheckDiff 16384, .degradedTakeover [(2048, 0)] 0,
      .glintLost 0 25013 0, .handoff 25013, .offsetMeasurement 0 (2 ^ 63) 0, .commit .sys .u 25013].all (fun i => !wellFormed i) = true := by decide

/-- And lets pass what comes to the part. -/
theorem test_operands_in_range_pass :
    [Instr.powerOnReset ⟨[19], [31], [31]⟩ false, .restartComplete true true 0, .powerFail 15999 false 0, .vloopResume 10000, .tempWarn true 215 25012,
      .tickStart (-32768) 32767, .pIn (List.replicate 32 ⟨0, 0, 0, 0, false, false, 0, 0⟩) 0 ⟨0, 0, 0, 0⟩, .stepSet 0 { badStep with tag := 15 }, .hostRegisterWrite .bar2 0x03FFFFFC (some 0) 15 0,
      .tableUpdate 0 200 (-2048) 2047, .aiConversion (List.replicate 64 (-131072)) 625, .linkCheck ⟨List.replicate 11 0, 0⟩, .commit .sys .u 25012,
      .rim false].all wellFormed = true := by decide

/-! ### Small states -/

/-- The part at reset, changed. -/
def chipBy (f : Chip → Chip) : State := { State.reset with chip := f State.reset.chip }

/-- The part in RUN at a phase of a tick. -/
def running0 (ph : Nat) (f : Chip → Chip) : State := chipBy (fun c => f { c with dev := .run, phase := ph, tick := 7 })

/-- A part with a privilege session. -/
def inSession : State := chipBy (fun c => { c with sec := { c.sec with session := some ⟨0, 300⟩ } })

/-- Registers of a chip set to words, one after the other. -/
def regs (l : List (Nat × Word)) (c : Chip) : Chip := l.foldl (fun c e => wr32 e.1 e.2 c) c

/-- With a session every host write may act at the part after reset, whichever its view, page and offset. -/
theorem test_host_may (v : View) (p : Page) (a : Nat) : inSession.HostMay v p a := by
  refine ⟨by unfold State.Live; decide, by decide, fun _ => .inl rfl, .inl (by decide), ?_⟩
  have h : roleCode inSession.chip = 0 := by decide
  simp [forwarded, h]

/-- The word of TWIN_STAT for a role, a partner's state and other bits. -/
def pairWord (role partner bits : Nat) : Word := Word.ofNat (role + 0x80 * partner + bits)

/-- A unit of a pair, in a session: role, partner's state and other bits of TWIN_STAT. -/
def inPair (role partner bits : Nat) (f : Chip → Chip) : State := chipBy (fun c => f (regs [(Reg.TWIN_TWIN_STAT, pairWord role partner bits),
  (Reg.TWIN_TWIN_CFG, 0x00050007)] { c with sec := { c.sec with session := some ⟨0, 300⟩ } }))

/-- An owner with a partner in SHADOW on both paths. -/
def owner (f : Chip → Chip) : State := inPair 2 3 0x30 f

/-- That partner. -/
def shadow (f : Chip → Chip) : State := inPair 3 2 0x430 f

/-! ### Hypotheses that are met: host accesses -/

/-- A part that a restart holds in reset. -/
def inRestart : State := chipBy (fun c => { c with dev := .heldRestart, devBefore := .run, restart := some { cause := .watchdog, flushed := false, arrays := false } })

theorem test_closed_accesses : inRestart.chip.dev = .heldRestart
    ∧ (∀ v, readsZero inRestart.chip (viewBar v) Reg.TICK_TICK_COUNT_LO = true ∧ readsZero inRestart.chip (viewBar v) Reg.TIME_NS_NOW = true
      ∧ readsZero inRestart.chip (viewBar v) Reg.HEALTH_OP_SEC_LO = true ∧ readsZero inRestart.chip (viewBar v) (dmaBlock 7 + 0x10) = true
      ∧ readsZero inRestart.chip (viewBar v) (portBlock 31 + 0x1C) = true) :=
  ⟨rfl, fun v => by cases v <;> decide⟩

theorem test_unmapped_write : State.reset.chip.dev ≠ .heldRestart ∧ 0x03FFFFFC % 4 = 0 ∧ mapped .bar0 0x03FFFFFC = false ∧ mapped .bar2 0x03FFFFFC = false
    ∧ mapped .bar0 (pageBase .sec + 0x40) = false ∧ mapped .bar4 0 = false := by decide

theorem test_writes_without_right :
    (State.reset.chip.dev ≠ .heldRestart ∧ rdF State.reset.chip Reg.SEC_LC_STAT 2 0 ≠ 4 ∧ State.reset.chip.sec.session = none
      ∧ goodReg .p .guard Reg.GUARD_FIRST_CLR = true ∧ sessionFree Reg.GUARD_FIRST_CLR = false
      ∧ goodReg .p .sec Reg.SEC_DATA_SEL = true ∧ sessionFree Reg.SEC_DATA_SEL = false)
    ∧ ((shadow id).chip.dev ≠ .heldRestart ∧ rdF (shadow id).chip Reg.SEC_LC_STAT 2 0 ≠ 4 ∧ (shadow id).chip.sec.session.isSome = true
      ∧ ownsOutputs (shadow id).chip = false ∧ anyRole .guard = false ∧ goodReg .u .guard Reg.GUARD_FIRST_CLR = true
      ∧ goodReg .p .sys Reg.SYS_DEV_CFG = true ∧ Reg.SYS_DEV_CFG ≠ Reg.SYS_DEV_CMD) := by decide

/-- An owner that has forwarded a write. -/
def forwarding : State := owner (fun c => { c with twin := { c.twin with awaiting := [⟨.bar0, Reg.TASK_FLAG_SET, 1, 15⟩] } })

theorem test_forwarded_writes :
    forwarding.chip.dev ≠ .heldRestart ∧ rdF forwarding.chip Reg.SEC_LC_STAT 2 0 ≠ 4 ∧ forwarding.chip.sec.session.isSome = true
      ∧ goodReg .u .task Reg.TASK_FLAG_SET = true ∧ forwarded forwarding.chip .task Reg.TASK_FLAG_SET = true
      ∧ goodReg .p .sys Reg.SYS_DEV_CFG = true ∧ forwarded forwarding.chip .sys Reg.SYS_DEV_CFG = true
      ∧ forwarding.chip.twin.awaiting = [⟨.bar0, Reg.TASK_FLAG_SET, 1, 15⟩] := by decide

/-- The status bits of any page, the requests, the staged commands and every other command of a host write may act at the part in a session. -/
theorem test_host_commands (v : View) :
    (∀ p, inSession.HostMay v p (pageBase p + Reg.HDR_EVT_STAT)) ∧ inSession.HostMay v .engine Reg.ENGINE_RETIRE_REQ
      ∧ (∀ w : Fin 4, inSession.HostMay v .echo (Reg.ECHO_CLEAR + 4 * w)) ∧ (∀ w : Fin 8, inSession.HostMay v .guard (Reg.GUARD_RESET + 4 * w))
      ∧ inSession.HostMay v .task Reg.TASK_CMD ∧ inSession.HostMay v .stepdrv Reg.STEPDRV_UNRETIRE
      ∧ (∀ p : Fin 8, inSession.HostMay v .wlink (wb p)) ∧ (∀ n : Fin 2048, inSession.HostMay v .loopctl (loopRec n + 0xC0))
      ∧ (∀ n : Fin 32, inSession.HostMay v .lport (portBlock n + 0x14)) ∧ inSession.HostMay v .weave Reg.WEAVE_CHECK_CMD
      ∧ inSession.HostMay v .sys Reg.SYS_DEV_CMD ∧ inSession.HostMay v .health Reg.HEALTH_RD_INDEX ∧ inSession.HostMay v .net Reg.NET_HTX_CTL
      ∧ (∀ p, inSession.HostMay v p (pageBase p + Reg.HDR_COMMIT)) ∧ (∀ ch : Fin 8, inSession.HostMay v .host (dmaBlock ch + 0x18)) :=
  ⟨fun _ => test_host_may .., test_host_may .., fun _ => test_host_may .., fun _ => test_host_may .., test_host_may .., test_host_may ..,
    fun _ => test_host_may .., fun _ => test_host_may .., fun _ => test_host_may .., test_host_may .., test_host_may .., test_host_may ..,
    test_host_may .., fun _ => test_host_may .., fun _ => test_host_may ..⟩

theorem test_unlocked_pages : [Page.wlink, .capture, .twin, .health, .loopctl].all (fun p => !locked inSession.chip p) = true := by decide

/-- The U-view needs no session. -/
theorem test_user_commands : State.reset.HostMay .u .sec Reg.SEC_CHAL_CMD ∧ State.reset.HostMay .p .sec Reg.SEC_CHAL_CMD
    ∧ State.reset.HostMay .u .loopctl (loopRec 0 + 0xC0) := by
  refine ⟨⟨by unfold State.Live; decide, by decide, (fun h => by cases h), .inl (by decide), by decide⟩,
    ⟨by unfold State.Live; decide, by decide, fun _ => .inr (by decide), .inl (by decide), by decide⟩,
    ⟨by unfold State.Live; decide, by decide, (fun h => by cases h), .inl (by decide), by decide⟩⟩

/-- A check of the other bank under way; a restart refused, as the power fails or one is asked for already. -/
theorem test_check_and_restart :
    (let s := chipBy (fun c => { c with check := some { bank := 1, mem := [] } }); s.chip.check.map (·.bank) = some 1)
      ∧ State.reset.chip.pf = false ∧ State.reset.chip.restartReq = .none
      ∧ (chipBy (fun c => { c with pf := true })).chip.pf = true ∧ hasShadow State.reset.chip = false := by decide

/-- A station address and a link. -/
def onNet (f : Chip → Chip) : State := chipBy (fun c => f (regs [(Reg.NET_MAC_LO, 0x12345678), (Reg.NET_LINK_STAT, 3)] { c with
  sec := { c.sec with session := some ⟨0, 300⟩ } }))

theorem test_host_frames :
    (fld (60 : Word) 10 0 = 60 ∧ fld (0x35EE : Word) 10 0 = 1518 ∧ macSet (onNet id).chip = true
      ∧ rdB (onNet id).chip Reg.NET_LINK_STAT (fld (60 : Word) 13 13) = true ∧ wbit (0x35EE : Word) 12 = true ∧ netUp (onNet id).chip = true
      ∧ portsUp (onNet id).chip = [0, 1] ∧ (∀ p, p < 2 → ((onNet id).chip.tx p).wait = [] ∧ ((onNet id).chip.tx p).free ≤ 0)
      ∧ txStart (onNet id).chip 0 (24 + 60) = 0 ∧ txStart (onNet id).chip 0 (30 + 1518) = 0)
    ∧ (fld (59 : Word) 10 0 < 60 ∧ 1518 < fld (1519 : Word) 10 0 ∧ macSet State.reset.chip = false) := by decide

/-- The part in use. -/
def inUse (f : Chip → Chip) : State :=
  { chipBy f with nv := { State.reset.nv with fuses := claimFuses [] { State.reset.nv.fuses with prov := true } } }

theorem test_quotes : lcState (inUse id).nv.fuses = 2 ∧ lcState State.reset.nv.fuses = 0 ∧ (inUse id).chip.dev ≠ .heldRestart := by decide

set_option maxRecDepth 20000 in
/-- A COMMIT of nothing, of a value that no rule refuses, and of more entries than one may have. -/
theorem test_commits :
    pageJudge (opened inSession.chip) inSession.chip.mem .time [] = none ∧ structJudge (opened inSession.chip) inSession.chip.mem [] = none
      ∧ entryCount (pendOf inSession.chip .time) ≤ 192 ∧ 192 < entryCount (List.replicate 193 ⟨Reg.TIME_TIME_CMD, 1, 7, true, true⟩) := by decide

theorem test_reads : ∀ v, readsZero State.reset.chip (viewBar v) Reg.TICK_TICK_COUNT_LO = false ∧ readsZero State.reset.chip (viewBar v) Reg.TIME_NS_NOW = false
    ∧ readsZero State.reset.chip (viewBar v) Reg.HEALTH_OP_SEC_LO = false ∧ readsZero State.reset.chip (viewBar v) (dmaBlock 7 + 0x10) = false
    ∧ readsZero State.reset.chip (viewBar v) (portBlock 31 + 0x1C) = false
    ∧ ∀ a ∈ [Reg.ENGINE_SAT_COUNT, Reg.LOOPCTL_SP_CLAMP_COUNT, Reg.LOOPCTL_LIMIT_COUNT, Reg.GUARD_TRIP_COUNT, Reg.INPUT_EDGE_LOST_COUNT,
          Reg.CAPTURE_TB_COLL_COUNT, Reg.TIME_REFUSED_COUNT, Reg.TWIN_WIT_LOST_COUNT, Reg.HOST_CE_COUNT, Reg.HOST_UE_COUNT],
        readsZero State.reset.chip (viewBar v) a = false := fun v => by cases v <;> decide

/-! ### Hypotheses that are met: the host link -/

/-- More pending entries than one COMMIT may have, and queues that are full. -/
def manyPending : State := { inSession with chip := { inSession.chip with pend := [(pageIndex .time, List.replicate 193 ⟨Reg.TIME_TIME_CMD, 1, 7, true, true⟩)] } }
def fullQueues : State := { inSession with chip := { inSession.chip with
  pend := [(pageIndex .time, [⟨Reg.TIME_TIME_CMD, 1, 7, true, true⟩])], mqueue := [⟨.task, [], 2048, false, .host, 0⟩] } }

set_option maxRecDepth 20000 in
theorem test_commit_limits :
    (192 < entryCount (pendOf manyPending.chip .time)
      ∧ pageJudge (opened manyPending.chip) manyPending.chip.mem .time (valueAddrs (pendOf manyPending.chip .time)) = none)
    ∧ (entryCount (pendOf fullQueues.chip .time) = 1 ∧ (fullQueues.chip.mqueue.map (·.entries)).sum + 1 = 2049
      ∧ pageJudge (opened fullQueues.chip) fullQueues.chip.mem .time (valueAddrs (pendOf fullQueues.chip .time)) = none) := by decide

/-- A channel in use, whose streaming set has three items to send; and one whose ring is full. -/
def streaming (wr : Nat) : State := chipBy (fun c => regs [(dmaBlock 0, 0x000C0001), (Reg.CAPTURE_SET_CFG, 9), (Reg.CAPTURE_SET_CFG + 24, 0x00010000)]
  { c with lnk := { c.lnk with bme := true, wr := [(0, wr)] }, caps := [(0, { mode := .stream, total := 24, wptr := 24 })] })

theorem test_dma :
    ((streaming 8).chip.dev ≠ .heldRestart ∧ dmaSet (streaming 8).chip 0 = some 0 ∧ rdB (streaming 8).chip (dmaBlock 0) 0 = true
      ∧ (streaming 8).chip.lnk.bme = true
      ∧ 8 * min 5 (min ((((streaming 8).chip.cap 0).total - ((streaming 8).chip.cap 0).sent) / 8) (dmaFree (streaming 8).chip 0 / 8)) = 24)
    ∧ (8 * min 5 (min ((((streaming 4096).chip.cap 0).total - ((streaming 4096).chip.cap 0).sent) / 8) (dmaFree (streaming 4096).chip 0 / 8)) = 0)
    ∧ (dmaRd (streaming 8).chip 0 ≤ (0 : BitVec 64).toNat ∧ (8 : BitVec 64).toNat ≤ dmaWr (streaming 8).chip 0
      ∧ dmaWr (streaming 8).chip 0 < (9 : BitVec 64).toNat) := by decide

/-- TASK reports to vector 5, where an event stands; the host has enabled MSI-X. -/
def reporting (mask : Word) (f : Chip → Chip) : State := chipBy (fun c => f (regs [(pageBase .task + Reg.HDR_PAGE_CTL, 0x501),
  (pageBase .task + Reg.HDR_EVT_EN, 1), (pageBase .task + Reg.HDR_EVT_STAT, 1), (0x1440C + 16 * 5, mask), (Reg.HOST_IRQ_HOLDOFF, 10)]
    { c with lnk := { c.lnk with msixEn := true, bme := true } }))

theorem test_interrupts :
    (vectorSummary (reporting 0 id).chip 5 = true ∧ tabFind (reporting 0 id).chip.lnk.sent 5 = none ∧ vectorOpen (reporting 0 id).chip 5 = true
      ∧ vectorOpen (reporting 1 id).chip 5 = false)
    ∧ (let s := reporting 1 (fun c => { c with lnk := { c.lnk with sent := [(5, 0)] } });
      tabFind s.chip.lnk.sent 5 = some 0 ∧ vectorSummary s.chip 5 = true ∧ rdF s.chip Reg.HOST_IRQ_HOLDOFF 15 0 = 10
        ∧ 0 + 250 * 10 ≤ nowAt (atPhase 2500 s.chip))
    ∧ (let s := reporting 1 (wrB (pbaWord 5) 5 true);
      s.chip.lnk.msixEn = true ∧ s.chip.lnk.funcMask = false ∧ s.chip.lnk.bme = true ∧ rdB s.chip (pbaWord 5) 5 = true)
    ∧ (let s := reporting 0 (wrB (pbaWord 5) 5 true);
      rdB s.chip (pbaWord 5) 5 = true ∧ rdB s.chip (0x1440C + 16 * 5) 0 = false) := by decide

/-- A host that has been silent in RUN for its 2 ms. -/
def silent : State := running0 0 (fun c => wr32 Reg.HOST_WD_CFG 0x10002 { c with cyc := 500000 })

theorem test_silent_host : silent.chip.dev = .run ∧ rdF silent.chip Reg.HOST_WD_CFG 15 0 = 2
    ∧ silent.chip.lnk.kicked + 250000 * 2 ≤ nowAt (atPhase 0 silent.chip) := by decide

/-! ### Hypotheses that are met: power, restart, clocks -/

/-- The automatic start after power-on. -/
def starting : State := chipBy (fun c => { c with autoRun := true, autoCfg := true, outReset := false })

theorem test_power :
    (starting.chip.autoRun = true ∧ starting.chip.autoCfg = true ∧ starting.chip.sec.noAuto = false ∧ starting.chip.outReset = false
      ∧ ownsOutputs starting.chip = true ∧ starting.chip.dev ≠ .heldRestart ∧ ∀ p, p < 8 → wlState starting.chip p ≠ 1)
    ∧ (State.reset.chip.dev ≠ .heldRestart ∧ hasShadow State.reset.chip = false ∧ hasShadow (owner id).chip = true ∧ (owner id).chip.dev ≠ .heldRestart)
    ∧ (inRestart.chip.restart = some { cause := .watchdog, flushed := false, arrays := false })
    ∧ (State.reset.chip.pf = false ∧ 15999 < 16000 ∧ State.reset.chip.restart = none ∧ State.reset.chip.twin.handDue = none)
    ∧ ((chipBy (fun c => { c with pf := true })).chip.pf = true ∧ 18000 ≤ 18000)
    ∧ (∀ d : Fin 8, (let s := chipBy (wr32 Reg.CLKPWR_CLK_STAT 0xFF); rdB s.chip Reg.CLKPWR_CLK_STAT d = true)
        ∧ (let s := chipBy (wr32 Reg.CLKPWR_CLK_STAT 0); rdB s.chip Reg.CLKPWR_CLK_STAT d = false))
    ∧ roleCode State.reset.chip ≠ 2 := by decide

theorem test_ticks : State.reset.chip.dev ≠ .heldRestart ∧ inRestart.chip.dev = .heldRestart ∧ 8 < (9 : Int).natAbs ∧ 80 < (-81 : Int).natAbs
    ∧ rdB (chipBy (wr32 Reg.CLKPWR_CLK_STAT 0xFF)).chip Reg.CLKPWR_CLK_STAT 7 = true := by decide

/-! ### Hypotheses that are met: tasks -/

/-- Task 3 in a state of its own. -/
def withTask (k : TaskCtx) : State := running0 200 (fun c => { c with tasks := [(3, k)] })

theorem test_waiting_tasks :
    (roleCode (inPair 4 2 0 id).chip = 4 ∧ (inPair 4 2 0 id).chip.dev ≠ .heldRestart)
    ∧ (let s := withTask { state := .waiting, wait := some (.delay 7), pc := 131070 };
      s.chip.dev ≠ .heldRestart ∧ roleCode s.chip ≠ 4 ∧ delayDue s.chip 3 = true ∧ (s.chip.task 3).pc < 131071 ∧ delayDue s.chip 4 = false)
    ∧ (let s := withTask { state := .waiting, wait := some (.delay 7), pc := 131071 }; delayDue s.chip 3 = true ∧ (s.chip.task 3).pc = 131071)
    ∧ (∀ pc ∈ [0, 131069, 131070, 131071], let s := running0 200 (fun c => ({ c with tasks := [(3, { state := .waiting, wait := some (.event 9 false), pc := pc })] }).setFlag 9 true);
      roleCode s.chip ≠ 4 ∧ (s.chip.task 3).state = .waiting ∧ waitAge s.chip (s.chip.task 3) ≠ 0 ∧ (watch s.chip 3 (s.chip.task 3)).1 = true
        ∧ (s.chip.task 3).pc = pc ∧ judgedWait (s.chip.task 3).wait = true)
    ∧ (let s := withTask { state := .waiting, wait := some (.move 0 (some 0) (some 1)), pc := 131071 };
      (s.chip.task 3).state = .waiting ∧ (s.chip.task 3).wait = some (.move 0 (some 0) (some 1)) ∧ (s.chip.task 3).pc = 131071)
    ∧ (let s := withTask { state := .blocked };
      roleCode s.chip ≠ 4 ∧ (s.chip.task 3).state = .blocked ∧ released s.chip 3 = true)
    ∧ (let s := withTask { state := .waiting, wait := some (.event 0 false), deadline := some 7, ranTick := 6 };
      (s.chip.task 3).state = .waiting ∧ waitAge s.chip (s.chip.task 3) ≠ 0 ∧ timedOut s.chip (s.chip.task 3) = true
        ∧ (watch s.chip 3 (s.chip.task 3)).1 = false ∧ judgedWait (s.chip.task 3).wait = true ∧ (s.chip.task 3).pc < 131071)
    ∧ (let s := withTask { state := .waiting, wait := some (.event 0 false) };
      waitAge s.chip (s.chip.task 3) ≠ 0 ∧ timedOut s.chip (s.chip.task 3) = false ∧ (watch s.chip 3 (s.chip.task 3)).1 = false
        ∧ judgedWait (s.chip.task 3).wait = true ∧ (tabKeys s.chip.tasks).Nodup) := by decide

/-- Engine 0 runs task 3, at the last phase at which a step may start and at the 32nd step. -/
def atStep (ph count : Nat) (k : TaskCtx) : State := running0 ph (fun c => { c with engines := [(0, { task := 3, count := count })], tasks := [(3, k)] })

theorem test_engines :
    (let s := { withTask { state := .ready, pc := 2 } with chip := regs [(stepAddr 2, 0x11)] (withTask { state := .ready, pc := 2 }).chip };
      let c := atPhase 200 s.chip;
      dispatchOpen c = true ∧ (s.chip.engine 0).task = 0 ∧ grantCycle c + 2 ≤ lastStart c ∧ readyHead (grantCycle c) c = some 3
        ∧ roundRobin s.chip.sePtr (asking c (grantCycle c)) = some 0 ∧ roundRobin s.chip.sePtr (asking c (grantCycle c)) ≠ some 15
        ∧ recipeStep s.chip.mem (s.chip.task 3).pc = (0x11, ⟨0, false, false, false, false, 0, 0, 0, 0⟩)
        ∧ s.chip.badSteps.contains (s.chip.task 3).pc = false ∧ engineOf s.chip 3 = none)
    ∧ (State.reset.chip.dev ≠ .heldRestart ∧ (State.reset.chip.engine 15).task = 0 ∧ readyHead 0 State.reset.chip = none)
    ∧ (let s := atStep 200 0 { state := .running };
      s.chip.dev ≠ .heldRestart ∧ (s.chip.engine 0).task ≠ 0 ∧ engineOf s.chip (s.chip.engine 0).task = some 0) := by decide

/-- The step of task 3 may be carried out, whatever the task's context: at either end of its window, untagged, and tagged where no guard is tripped. -/
theorem test_at_step (k : TaskCtx) (w : StepWord) (h : w.rsv15 = false) (count : Nat) : ∀ ph ∈ [150, lastStart State.reset.chip / 2],
    (atStep ph count k).AtStep 0 3 w := by
  intro ph hp
  have hm : (atStep ph count k).chip.mem = State.reset.chip.mem := rfl
  have hr : roleCode (atStep ph count k).chip = roleCode State.reset.chip := by simp only [roleCode, rdF, rd32, hm]
  have h0 : roleCode State.reset.chip ≠ 4 ∧ 300 ≤ lastStart State.reset.chip := by decide
  have hd : (atStep ph count k).chip.dev = .run := rfl
  have hl : lastStart (atStep ph count k).chip = lastStart State.reset.chip := rfl
  have hq : (atStep ph count k).chip.phase = ph := rfl
  refine ⟨⟨rfl, by decide, rfl⟩, ?_, fun _ => rfl, h⟩
  simp only [List.mem_cons, List.not_mem_nil, or_false] at hp
  have hs : stepStart (atStep ph count k).chip 0 = 2 * ph := Nat.max_eq_left (Nat.zero_le _)
  have hb : 300 ≤ lastStart State.reset.chip := h0.2
  simp only [dispatchOpen, hd, hr, hl, hq, hs]
  rcases hp with rfl | rfl <;> simp [h0.1] <;> omega

/-- A step word without a tag. -/
def stepWord (a : Nat) (w1 w2 w3 : Word) : StepWord := ⟨0, false, false, false, false, a, w1, w2, w3⟩

theorem test_step_operands :
    (((atStep 150 0 {}).chip.engine 0).entries < 16 ∧ ((atStep 150 0 {}).chip.task 3).pc < 131071 ∧ ((atStep 150 0 {}).chip.task 3).stack.length < 8
      ∧ ((atStep 150 0 { pc := 131071 }).chip.task 3).pc = 131071 ∧ 8 ≤ ((atStep 150 0 { stack := [1, 2, 3, 4, 5, 6, 7, 8] }).chip.task 3).stack.length)
    ∧ ((stepWord 0x7FF 1 0 0).a < 0x800 ∧ 0 ≤ (stepWord 0 0 0x7FFFFFFF 0).w2.toInt ∧ (stepWord 1 0 0 0).a < 2 ∧ (stepWord 0 6 0 0).w1.toNat < 7
      ∧ fld (stepWord 0xFF 0x007FFFFF 0 0).w1 31 23 = 0 ∧ (stepWord 0xF 3 0 0).w1.toNat < 4 ∧ (stepWord 0x7F 2 0 0).w1.toNat = 2)
    ∧ (bitsOf (stepWord 0xC0FF 1 0 0xFFFF0000).a 13 8 = 0 ∧ fld (stepWord 0 0 0 0xFFFF0000).w3 15 0 = 0 ∧ (stepWord 0 0x1FFFF 0 0).w1.toNat < 0x20000)
    ∧ (((atStep 150 0 { stack := [5] }).chip.task 3).stack = [] ++ [5] ∧ ((atStep 150 0 { stack := [131072] }).chip.task 3).stack = [] ++ [131072]
      ∧ ((atStep 150 0 {}).chip.task 3).stack = [])
    ∧ (branchCond State.reset.chip (stepWord 0 0x80000 0 0) = some false ∧ branchCond State.reset.chip (stepWord 3 0xA0000 1 0) = some true
      ∧ branchCond State.reset.chip (stepWord 0x3FFF 0xE0000 0 0) = some false ∧ fld (0xA0000 : Word) 19 17 = 5) := by decide

/-! ### Hypotheses that are met: the weave, the guards, the rim -/

/-- Bank 0 holds one strand, of a kind and a unit. -/
def oneStrand (kind unit : Nat) (f : Chip → Chip) : State :=
  chipBy (fun c => f (regs [(Reg.WEAVE_BANK0_LEN, 1), (strandAddr 0 0, Word.ofNat kind), (strandAddr 0 0 + 4, Word.ofNat unit)] c))

set_option maxRecDepth 20000 in
theorem test_strands :
    (State.reset.chip.dev ≠ .heldRestart ∧ State.reset.chip.outReset = true ∧ State.reset.chip.earlyOver = false)
    ∧ ((chipBy (fun c => { c with sched := [⟨8191, 0, 10, 20, none⟩] })).chip.sched.find? (fun g => decide (g.index = 8191)) = some ⟨8191, 0, 10, 20, none⟩ ∧ 0 ≠ noLane)
    ∧ (let s := chipBy (fun c => { c with check := some { bank := 1, mem := [] } });
      s.chip.check.map (·.bank) = some 1 ∧ bankBreach [] 1 (laneCount s.chip) = none)
    ∧ (bankBreach (oneStrand 0xF 0 id).chip.mem 0 16).isSome = true := by decide

theorem test_outputs :
    (let s := chipBy (fun c => { c with outReset := false });
      s.chip.dev ≠ .heldRestart ∧ s.chip.outReset = false ∧ s.chip.earlyOver = false ∧ s.chip.linkBad = 0)
    ∧ (let s := chipBy (fun c => { c with outReset := false, linkBad := 1 }); s.chip.linkBad ≠ 0)
    ∧ (chipBy (fun c => { c with earlyOver := true })).chip.earlyOver = true
    ∧ (let s := chipBy (fun c => { wr32 (Reg.INPUT_DIO_CFG + 4 * 47) 1 c with outReset := false });
      fld (mrd32 s.chip.mem (Reg.INPUT_DIO_CFG + 4 * 47)) 1 0 = 1 ∧ s.chip.pf = false)
    ∧ (let s := chipBy (fun c => { wr32 (guardRec 255 + 0x10) 0x201 c with tripped := [(255, true)], dev := .run });
      255 ∈ listedRecords s.chip.mem 0x00304000 64 256 ∧ s.chip.guardOn 255 = true ∧ rdB s.chip (guardRec 255 + 0x10) 9 = true ∧ s.chip.earlyOver = false)
    ∧ (let s := chipBy (fun c => { c with work := [(Sig.tickLo, ⟨7, true, 0, true⟩)] });
      tabFind s.chip.work Sig.tickLo = some ⟨7, true, 0, true⟩ ∧ s.chip.mqueue = [] ∧ s.chip.time.step = none ∧ tickN s.chip = s.chip.perN) := by decide

/-! ### Hypotheses that are met: echo controllers, axes -/

/-- Controller 0 with its strand and an index, in a state of its own; it runs at coordinate 0 of tick 0. -/
def indexed (e : EchoSt) : State := oneStrand 2 0 (fun c => { regs [(echoDesc 0 + 4, 0x80000000)] c with echoes := [(0, e)] })

set_option maxRecDepth 20000 in
theorem test_index_edges :
    (let s := chipBy (fun c => { c with echoes := [(127, { state := .clearing, len := 65536, zeroed := some 65536 })] });
      (s.chip.echoOf 127).state = .clearing ∧ (s.chip.echoOf 127).zeroed = some (s.chip.echoOf 127).len)
    ∧ (∀ e ∈ [({ t := 0, len := 1000, crossed := some 0 } : EchoSt), { t := -2560, len := 1000, base := -2560, accepted := 1, crossed := some 0 },
        { t := -2560, len := 1000, locked := true, crossed := some 0 }, { t := -2560, len := 1000, crossed := some 0 }],
        (indexed e).chip.dev ≠ .heldRestart ∧ echoStrand (indexed e).chip 0 = some (strandOf (indexed e).chip.mem 0 0)
          ∧ edIndexed (indexed e).chip.mem 0 = true ∧ edgeCoord (indexed e).chip 0 (strandOf (indexed e).chip.mem 0 0) 0 0 = some 0
          ∧ e.p = 0 ∧ e.resize = false ∧ edgeAccepted (indexed e).chip.mem 0 e (0 - e.t) = decide (e.t ≠ 0))
    -- the worked example of chapter 06: the wrap at run 263,086 does not shorten the period measured by the second edge
    ∧ edgePeriod { t := 64789984 + 2560000, base := 64789984, p := 2560000, len := 10240, accepted := 1 } 67350112 = 0x271080
    ∧ (let e : EchoSt := { t := -2560, p := 2560, len := 1000, locked := true };
      e.locked = true ∧ edgeCoord (indexed e).chip 0 (strandOf (indexed e).chip.mem 0 0) 0 0 = none
        ∧ runCoord (indexed e).chip (strandOf (indexed e).chip.mem 0 0) 0 0 = 0 ∧ (echoDeadline (indexed e).chip.mem 0 e : Int) ≤ 0 - e.t) := by decide

theorem test_axis_edges :
    (let s := chipBy (wr32 (axCfg 31) 0); swSrc s.chip.mem 31 2 = 0 ∧ (s.chip.pin 0).raw = false ∧ (s.chip.pin 0).since = instant s.chip 0 0
        ∧ instant s.chip 0 0 + swDeb s.chip 31 < s.chip.cyc + tickN s.chip ∧ chatterOpen (s.chip.mp 31) 2 0 = false ∧ (s.chip.pin 0).raw ≠ true)
    ∧ (let s := chipBy (fun c => { c with mps := [(31, { chatWins := [⟨2, 5, 3⟩] })] });
      (s.chip.mp 31).chatWins.find? (fun w => decide (w.which = 2)) = some ⟨2, 5, 3⟩ ∧ 5 < s.chip.cyc + tickN s.chip)
    ∧ (let s := chipBy (fun c => { regs [(Reg.INPUT_DIO_CFG + 4 * 46, 2), (Reg.INPUT_DIO_CFG + 4 * 47, 2)] c with
        pins := [(96 + 2 * 23, { stepDue := true })], inMem := (regs [(Reg.INPUT_DIO_CFG + 4 * 46, 2), (Reg.INPUT_DIO_CFG + 4 * 47, 2)] c).mem });
      (s.chip.pin (96 + 2 * 23)).stepDue = true ∧ sdOn s.chip.inMem 23 = true
        ∧ 5 * fld (sdCfg s.chip.inMem 23) 7 0 ≤ 2 * (instant s.chip 1 0 - (s.chip.pin (96 + 2 * 23)).since)) := by decide

/-- Axis 31 in a state of its own. -/
def withAxis (a : AxSt) : State := chipBy (fun c => { wr32 Reg.IST_IST_EN 0x7F c with axes := [(31, a)] })

theorem test_drive :
    (updatesPerTick State.reset.chip = 40)
    ∧ (let s := withAxis { still := 1000000 };
      (s.chip.ax 31).reduced = false ∧ drvIHold s.chip.drvMem 31 ≠ 256 ∧ msTicks s.chip (mF s.chip.drvMem (drv 31 + 8) 9 0) ≤ (s.chip.ax 31).still)
    ∧ (∀ on ∈ [0, 1], ∀ ref ∈ [0, 100], let s := withAxis { en := true, phA := { chop := .off, onAt := on, offAt := 1, ref := ref } };
      (s.chip.ax 31).en = true ∧ (phaseOf (s.chip.ax 31) 0).chop = .off ∧ (phaseOf (s.chip.ax 31) 0).ref = ref
        ∧ 1 + mF s.chip.drvMem (drv 31 + 0x0C) 21 16 * 125 / 2 ≤ instant s.chip 0 250001 ∧ 0 ≤ tlo s.chip.drvMem 31 (s.chip.ax 31) 0 (instant s.chip 0 250001)
        ∧ 250000 ≤ (instant s.chip 0 250001 - on) * mF s.chip.drvMem (drv 31 + 0x0C) 31 24 ∧ s.chip.dev ≠ .heldRestart
        ∧ chopTesting (s.chip.ax 31) = false ∧ (phaseOf (s.chip.ax 31) 0).test = .none)
    -- the last phase of a test, the other having failed, and a test's beginning
    ∧ (let s := withAxis { en := true, reduced := true, rampN := 100000, phA := { chop := .off, offAt := 1, ref := 100, test := .cycle }, phB := { test := .over false } };
      (phaseOf (s.chip.ax 31) 0).test = .cycle ∧ (phaseOf (s.chip.ax 31) 1).test = .over false ∧ chopEligible s.chip 31 = true ∧ checkOn s.chip 6 = true
        ∧ 0 ≤ tlo s.chip.drvMem 31 (s.chip.ax 31) 0 (instant s.chip 0 250001))
    ∧ (let s := withAxis { en := true, reduced := true, rampN := 100000, phA := { ref := 100 } };
      testTurn 6 (axisUnit 0) 32 (chopEligible s.chip) s.chip 31 = true ∧ checkOn s.chip 6 = true ∧ chopTesting (s.chip.ax 31) = false
        ∧ (s.chip.ax 31).phA.ref ≠ 0 ∧ testTurn 6 (axisUnit 0) 32 (chopEligible s.chip) s.chip 30 = false)
    ∧ (let s := withAxis { en := true, phA := { chop := .off, onAt := 0, offAt := 10 } };
      instant s.chip 0 10 < 10 + mF s.chip.drvMem (drv 31 + 0x0C) 21 16 * 125 / 2)
    ∧ (let s := withAxis { phB := { openCnt := 3 } };
      3 ≤ (phaseOf (s.chip.ax 31) 1).openCnt ∧ (s.chip.ax 31).retired = false ∧ (s.chip.ax 31).retDue = none)
    ∧ (let s := withAxis { en := true, reduced := true, rampN := 100000 };
      chopEligible s.chip 31 = true ∧ checkOn s.chip 6 = true ∧ (mismatchWindow s.chip (axisUnit 31)).length < 2)
    ∧ (let s := { withAxis {} with chip := { (withAxis {}).chip with mism := [(axisUnit 31, [0, 0])] } };
      2 ≤ (mismatchWindow s.chip (axisUnit 31)).length) := by decide

/-! ### Hypotheses that are met: ports and modems -/

/-- Port 31 in a state of its own, shared with the partner's where `cfg` says so. -/
def withPort (cfg : Word) (p : PortSt) : State := chipBy (fun c => { regs [(Reg.IST_IST_EN, 0x7F), (portRec 31, cfg), (portRec 31 + 4, 0x200)] c with
  ports := [(31, p)], drvMem := (regs [(portRec 31, cfg), (portRec 31 + 4, 0x200)] c).mem })

theorem test_ports :
    (let s := withPort 0 { short := true, shortN := 2 };
      s.chip.dev ≠ .heldRestart ∧ (s.chip.port 31).short = true ∧ (s.chip.port 31).shortEp = false
        ∧ mF s.chip.drvMem (portRec 31 + 4) 15 8 = (s.chip.port 31).shortN)
    ∧ (let s := withPort 0 { openN := 1000 }; (s.chip.port 31).isOpen = false ∧ msTicks s.chip 5 ≤ (s.chip.port 31).openN)
    ∧ (let s := withPort 0 { isOpen := true, okN := 1000 }; (s.chip.port 31).isOpen = true ∧ msTicks s.chip 5 ≤ (s.chip.port 31).okN)
    ∧ (let s := withPort 0 { mode := 1, state := .run, shuts := [0, 0] };
      (s.chip.port 31).mode ≠ 0 ∧ (s.chip.port 31).state ≠ .shut ∧ (s.chip.port 31).retired = false ∧ 2 ≤ (recentShuts s.chip 31).length)
    ∧ (let s := { withPort 0 { state := .shut } with chip := { (withPort 0 { state := .shut }).chip with cyc := 25000000 } };
      (s.chip.port 31).state = .shut ∧ (s.chip.port 31).retired = false ∧ (s.chip.port 31).retDue = none ∧ (recentShuts s.chip 31).length < 3
        ∧ (s.chip.port 31).shutAt + 25000000 ≤ s.chip.cyc + pOutPhase s.chip)
    ∧ ((chipBy (fun c => { c with vloopOk := true })).chip.vloopOk = true ∧ 8999 < 9000 ∧ (chipBy (fun c => { c with vloopOk := false })).chip.vloopOk = false)
    ∧ (let s := withPort 0 { mode := 1, state := .run };
      testTurn 5 (portUnit 0) 32 (fun i => decide ((s.chip.port i).mode = 1) && decide ((s.chip.port i).state = .run)) s.chip 31 = true
        ∧ testTurn 5 (portUnit 0) 32 (fun i => decide ((s.chip.port i).mode = 1) && decide ((s.chip.port i).state = .run)) s.chip 30 = false
        ∧ checkOn s.chip 5 = true ∧ (s.chip.port 31).short = false ∧ (s.chip.port 31).cut = 0
        ∧ (s.chip.port 31).limit = 0xFFFF ∧ 65536 < 100 * (((656 : Nat) : Int) - (if prShared s.chip.drvMem 31 then (s.chip.port 31).own + (0 : Nat) else (s.chip.port 31).own)).natAbs
        ∧ (mismatchWindow s.chip (portUnit 31)).length < 2)
    ∧ (let s := withPort 0x80 { mode := 1, shareN := 3 };
      prShared s.chip.drvMem 31 = true ∧ (s.chip.port 31).full = false ∧ (s.chip.port 31).mode = 1 ∧ 3 ≤ (s.chip.port 31).shareN
        ∧ 4 ≤ rdF (wr32 Reg.TWIN_TWIN_STAT (pairWord 2 4 0) s.chip) Reg.TWIN_TWIN_STAT 9 7)
    ∧ (let s := withPort 0x80 { full := true, overN := 2 };
      prShared s.chip.drvMem 31 = true ∧ (s.chip.port 31).full = true ∧ 2 ≤ (s.chip.port 31).overN ∧ (s.chip.port 31).dropped = false) := by decide

/-- The modem of port 31, which is in RUN, in a state of its own. -/
def withModem (f : FskSt) : State := chipBy (fun c => { c with
  drvMem := (regs [(portRec 31, 0x100)] c).mem, fsk := [(31, f)], ports := [(31, { state := .run })] })

theorem test_modems :
    (let s := withModem { held := some 511 };
      s.chip.dev ≠ .heldRestart ∧ (s.chip.modem 31).held = some 511 ∧ fskRuns s.chip 31 = true ∧ (s.chip.modem 31).cd = false
        ∧ (s.chip.modem 31).msg = none ∧ (s.chip.port 31).mode ≠ 1)
    ∧ (let s := { withModem {} with chip := { (withModem {}).chip with ports := [(31, { state := .run, mode := 1, d := 2731 })] } };
      (s.chip.port 31).mode = 1 ∧ 65536 ≤ 24 * (s.chip.port 31).d ∧ (s.chip.port 31).short = false)
    ∧ (((withModem { msg := some ⟨0, 0, 0xFF, 10, false, 5⟩ }).chip.modem 31).msg = some ⟨0, 0, 0xFF, 10, false, 5⟩)
    ∧ (let f : FskSt := { msg := some ⟨1, 1, 0xFF, 11, false, 5⟩ }; f.abort = false ∧ f.msg = some ⟨1, 1, 0xFF, 11, false, 5⟩ ∧ (withModem f).chip.modem 31 = f)
    ∧ (let f : FskSt := { msg := some ⟨0, 1, 0xFF, 11, false, 5⟩, tx := [0x55] }; f.abort = false ∧ f.tx = 0x55 :: [] ∧ (withModem f).chip.modem 31 = f)
    ∧ (let f : FskSt := { msg := some ⟨0, 0, 0xFF, 11, false, 5⟩, tx := [0x55] }; f.abort = false ∧ (withModem f).chip.modem 31 = f)
    ∧ (let f : FskSt := { msg := some ⟨0, 1, 0xFF, 11, false, 5⟩ }; f.abort = false ∧ f.tx = [] ∧ (withModem f).chip.modem 31 = f)
    ∧ (let f : FskSt := { msg := some ⟨0, 1, 0xFF, 11, false, 5⟩, abort := true }; f.abort = true ∧ (withModem f).chip.modem 31 = f)
    ∧ (let s := withModem {}; (s.chip.modem 31).cd ≠ true ∧ fskOn s.chip 31 = true ∧ fskBlanked (s.chip.modem 31) (instant s.chip 0 0) = false)
    ∧ (let s := withModem { cd := true, rx := List.replicate 64 0 };
      (s.chip.modem 31).cd = true ∧ fskOn s.chip 31 = true ∧ fskBlanked (s.chip.modem 31) (instant s.chip 0 0) = false ∧ (s.chip.modem 31).rx.length = 64)
    ∧ (let s := withModem { cd := true }; (s.chip.modem 31).cd = true ∧ (s.chip.modem 31).rx.length ≠ 64) := by decide

/-! ### Hypotheses that are met: inputs, field links, capture, the sync bus -/

/-- Analogue input 63 in a state of its own, its threshold at 16. -/
def withInput (a : AiSt) : State := chipBy (fun c => { regs [(Reg.IST_IST_EN, 0x7F), (Reg.INPUT_AI_CFG + 4 * 63, 0x00100000)] c with
  ais := [(63, a)], testNext := [(4, 63)], inMem := (regs [(Reg.INPUT_AI_CFG + 4 * 63, 0x00100000)] c).mem })

theorem test_inputs :
    ((List.replicate 64 (131072 : Int))[63]? = some 131072 ∧ convertsAt State.reset.chip State.reset.chip.convAt = true
      ∧ convertsAt State.reset.chip (State.reset.chip.convAt + 1) = false)
    ∧ (let s := withInput { judge := some (100, 0, 4), fails := 1 };
      s.chip.dev ≠ .heldRestart ∧ (s.chip.ai 63).judge = some (100, 0, 4) ∧ aiThr s.chip.inMem 63 * 4 < ((100 : Int) * (4 : Nat) - 0).natAbs
        ∧ (s.chip.ai 63).isOpen = false ∧ 1 ≤ (s.chip.ai 63).fails)
    ∧ (let s := withInput { judge := some (16, 0, 4), passes := 1, isOpen := true };
      (s.chip.ai 63).judge = some (16, 0, 4) ∧ ¬ aiThr s.chip.inMem 63 * 4 < ((16 : Int) * (4 : Nat) - 0).natAbs ∧ (s.chip.ai 63).isOpen = true
        ∧ 1 ≤ (s.chip.ai 63).passes)
    ∧ (let s := withInput {};
      checkOn s.chip 4 = true ∧ testTurn 4 (aiUnit 0) 64 (fun k => !(s.chip.ai k).retired) s.chip 63 = true
        ∧ testTurn 4 (aiUnit 0) 64 (fun k => !(s.chip.ai k).retired) s.chip 0 = false ∧ 64 < ((65 : Int) - (s.chip.ai 63).last).natAbs
        ∧ (mismatchWindow s.chip (aiUnit 63)).length < 2)
    ∧ ((inRestart.chip.dev = .heldRestart) ∧ roleCode State.reset.chip ≠ 3 ∧ (State.reset.chip.pin 143).raw ≠ true ∧ roleCode (shadow id).chip = 3
      ∧ (shadow id).chip.dev ≠ .heldRestart) := by decide

/-- Field link 7 in a state of START_STAT. -/
def withLink (st : Word) (w : WlSt) : State := chipBy (fun c => { wr32 (wb 7 + 4) st c with wls := [(7, w)] })

/-- A start that found one head, at position 0. -/
def foundHead (id3 : Word) : LinkResult := ⟨true, [⟨0, 0, 0, id3, []⟩], none⟩

/-- A return of tick 0 with one fresh head, its CRC right; and the same frame as a head marks it. -/
def freshReturn : ReturnFrame := ⟨0, 0, 0, [1], [], Word.ofNat (wordsCrc (returnWords ⟨0, 0, 0, [1], [], 0⟩))⟩
def stompedReturn : ReturnFrame := { freshReturn with crc := ~~~ freshReturn.crc }

theorem test_return_frames : crcGood freshReturn = true ∧ crcStomped freshReturn = false ∧ crcStomped stompedReturn = true
    ∧ (let f := { freshReturn with crc := freshReturn.crc + 1 }; crcGood f = false ∧ crcStomped f = false) := by decide +kernel

theorem test_links :
    (let s := withLink 1 {};
      s.chip.dev ≠ .heldRestart ∧ wlState s.chip 7 = 1 ∧ (s.chip.wl 7).restart = false ∧ linkFailure s.chip 7 (foundHead 0x2000) = none
        ∧ linkFailure s.chip 7 (foundHead 0x1000) = some (3, 0) ∧ linkFailure s.chip 7 ⟨false, [], none⟩ = some (1, 0))
    ∧ (wlState State.reset.chip 7 ≠ 1)
    ∧ (let s := withLink 2 { heads := [{ stale := 3, lost := true }] };
      wlRuns s.chip 7 = true ∧ (s.chip.wl 7).judged = false ∧ s.chip.tick = 0 ∧ (s.chip.wl 7).heads.length = 1 ∧ freshReturn.seq = s.chip.tick
        ∧ wbit (freshReturn.hstat.getD 0 0) 0 = true)
    ∧ (wlState (withLink 4 {}).chip 7 = 4) := by decide

/-- Capture set 15 in a state of its own, its ring of 1 MiB. -/
def withSet (ctl : Word) (x : CapSt) : State := running0 0 (fun c => { regs [(Reg.CAPTURE_SET_CFG + 32 * 15, ctl),
  (Reg.CAPTURE_SET_CFG + 32 * 15 + 16, 0x00040000), (Reg.CAPTURE_SET_CFG + 32 * 15 + 24, 0x00010000)] c with caps := [(15, x)], causes := [⟨6, 18, 0, 15, false⟩], beat := 7, boardTick := 6 })

theorem test_capture :
    (capGoverns ((withSet 1 {}).chip.cap 15) 6 = false ∧ (withSet 1 {}).chip.dev ≠ .heldRestart ∧ (withSet 1 {}).chip.beat - 1 = 6)
    ∧ (let s := withSet 1 { mode := .armed };
      capGoverns (s.chip.cap 15) 6 = true ∧ capRed s.chip.mem 15 = 0 ∧ (s.chip.cap 15).gap = none ∧ capStream s.chip.mem 15 = false
        ∧ (s.chip.cap 15).ovf = none ∧ (s.chip.cap 15).firstAt ≤ 6 ∧ (s.chip.cap 15).early = none
        ∧ (s.chip.cap 15).wrote = false ∧ (s.chip.cap 15).disarm = none ∧ ⟨6, 18, 0, 15, false⟩ ∈ s.chip.causes
        ∧ causeTaken s.chip.mem 15 ⟨6, 18, 0, 15, false⟩ = true ∧ capLive (s.chip.cap 15) = true)
    ∧ (let s := withSet 9 { mode := .stream, total := 0x100000 };
      capGoverns (s.chip.cap 15) 6 = true ∧ capRed s.chip.mem 15 = 0 ∧ (s.chip.cap 15).gap = none ∧ capStream s.chip.mem 15 = true
        ∧ capSize s.chip.mem 15 < (s.chip.cap 15).total + (rawBytes s.chip 15 6).length - (s.chip.cap 15).sent)
    ∧ (let s := withSet 9 { mode := .stream, total := 8, sent := 8 };
      (s.chip.cap 15).total + (rawBytes s.chip 15 6).length - (s.chip.cap 15).sent ≤ capSize s.chip.mem 15)
    ∧ (let s := withSet 1 { mode := .rearm, rearmTo := 6 };
      (s.chip.cap 15).mode = .rearm ∧ (s.chip.cap 15).rearmTo < s.chip.beat)
    ∧ (let s := withSet 9 { mode := .stream, drain := true, total := 24, sent := 24 };
      (s.chip.cap 15).drain = true ∧ (s.chip.cap 15).disarm = none ∧ (s.chip.cap 15).sent = (s.chip.cap 15).total) := by decide

theorem test_sync_bus :
    (let s := chipBy (wr32 Reg.CAPTURE_SYNC_CTL 0x41);
      s.chip.dev ≠ .heldRestart ∧ rdB s.chip Reg.CAPTURE_SYNC_CTL 5 = false ∧ rdB s.chip Reg.CAPTURE_SYNC_CTL 6 = true
        ∧ (tbDelay s.chip 1).isSome = true ∧ (tbDelay s.chip 2).isSome = false)
    ∧ (let s := chipBy (fun c => { c with ping := { due := true, rounds := 6 }, time := { c.time with base := 600000000 * 2 ^ 32 } });
      s.chip.ping.due = true ∧ s.chip.ping.start + 100000000 * 6 ≤ busTime (atPhase 0 s.chip) ∧ s.chip.ping.rounds < 7)
    ∧ (let s := chipBy (fun c => { c with ping := { due := true, rounds := 7 }, time := { c.time with base := 700000000 * 2 ^ 32 } });
      s.chip.ping.due = true ∧ s.chip.ping.start + 100000000 * 7 ≤ busTime (atPhase 0 s.chip) ∧ 7 ≤ s.chip.ping.rounds) := by decide

/-! ### Hypotheses that are met: the ring, the recorder, the in-service test -/

/-- A ring whose consumer for management data is 4096 entries behind. -/
def behind : State := chipBy (fun c => { wr32 (pageBase .sys + Reg.HDR_EVT_EN) 0xFFFFFFFF c with ring := { c.ring with nextSeq := 4096 } })

theorem test_ring :
    (evEnabled (chipBy (wr32 (pageBase .health + Reg.HDR_EVT_EN) 0)).chip Event.HEALTH_HEALTH_FLUSH = false)
    ∧ (Event.SYS_BAD_ACCESS ∈ Event.ofPage .sys ∧ reqHost < 42 ∧ evEnabled behind.chip Event.SYS_BAD_ACCESS = true ∧ behind.chip.ring.queues = []
      ∧ behind.chip.ring.nextSeq - behind.chip.ring.mgmtSeq = 4096 ∧ behind.chip.ring.nextSeq - behind.chip.ring.dataSeq = 4096 ∧ State.reset.chip.ring.nextSeq - State.reset.chip.ring.mgmtSeq ≠ 4096
      ∧ State.reset.chip.ring.nextSeq - State.reset.chip.ring.dataSeq ≠ 4096)
    ∧ (ringGrant { State.reset.chip.ring with queues := [(reqHost, [mkEntry Event.SYS_BAD_ACCESS reqHost 0 0 0 []])] }).isSome = true := by decide

/-- One entry of the ring that the recorder has not taken. -/
def unread (f : Chip → Chip) : State := chipBy (fun c => f { c with ring := { c.ring with
  entries := [mkEntry Event.SYS_BAD_ACCESS reqHost 0 0 0 []], nextSeq := 1 } })

set_option maxRecDepth 20000 in
theorem test_recorder :
    (let r := State.reset.chip.ring;
      r.entries.find? (fun e => decide ((e.seq + 0x100000000 - r.mgmtSeq % 0x100000000) % 0x100000000 < r.nextSeq - r.mgmtSeq)) = none)
    ∧ (let s := unread (wr32 Reg.HEALTH_GROUP_CFG 0x0101);
      let r := s.chip.ring;
      (r.entries.find? (fun e => decide ((e.seq + 0x100000000 - r.mgmtSeq % 0x100000000) % 0x100000000 < r.nextSeq - r.mgmtSeq))
          = some (mkEntry Event.SYS_BAD_ACCESS reqHost 0 0 0 []))
        ∧ fld (bucketWord s.chip.mem Event.SYS_BAD_ACCESS.code) 7 0 ≠ 0
        ∧ 1 ≤ (refill (bucketWord s.chip.mem Event.SYS_BAD_ACCESS.code) 0 (tabFind s.chip.health.buckets Event.SYS_BAD_ACCESS.code)).tokens
        ∧ s.chip.health.recs.length < bufRecords)
    ∧ (let s := unread (wr32 Reg.HEALTH_GROUP_CFG 0); fld (bucketWord s.chip.mem Event.SYS_BAD_ACCESS.code) 7 0 = 0)
    ∧ (let s := chipBy (fun c => { c with opSec := 600 }); s.chip.health.flushOp + 600 ≤ s.chip.opSec)
    ∧ (State.reset.chip.opSec < State.reset.chip.health.flushOp + 600)
    ∧ (let s := chipBy (fun c => { c with health := { c.health with flushing := true } }); s.chip.health.flushing = true ∧ s.chip.health.again = 0)
    ∧ (let s := chipBy (fun c => { c with health := { c.health with retryDue := true }, cyc := 250000000 });
      s.chip.health.retryDue = true ∧ s.chip.health.flushing = false ∧ s.chip.health.failAt + 250000000 ≤ instant s.chip s.chip.tick 0)
    ∧ (let s := chipBy (fun c => { c with health := { c.health with waitFault := true, lastFault := some 0 }, cyc := 250000000 });
      s.chip.health.waitFault = true ∧ ∀ t ∈ s.chip.health.lastFault, t + 250000000 ≤ instant s.chip s.chip.tick 0)
    ∧ (let s := chipBy (wr32 (histCfg 63) 0x8000);
      rdB s.chip (histCfg 63) 15 = true ∧ s.chip.tick % 2 ^ rdF s.chip (histCfg 63) 19 16 = 0 ∧ (settledRd s.chip 0).valid = false)
    ∧ (let s := chipBy (fun c => { wr32 (histCfg 63) 0x8000 c with settled := [(0, ⟨5, true⟩)] }); (settledRd s.chip 0).valid = true) := by decide

/-- Every check on; lane 19 has two mismatches in its window. -/
def inTest (f : Chip → Chip) : State := chipBy (fun c => f { wr32 Reg.IST_IST_EN 0x7F c with mism := [(laneUnit 19, [0, 0])] })

theorem test_in_service :
    ((inTest id).chip.dev ≠ .heldRestart ∧ checkOn (inTest id).chip 1 = true ∧ (inTest id).chip.laneOut.contains 19 = false
      ∧ 2 ≤ (mismatchWindow (inTest id).chip (laneUnit 19)).length ∧ (mismatchWindow (inTest id).chip (laneUnit 0)).length < 2)
    ∧ (let s := inTest (fun c => { c with retry := [(laneUnit 0, 1)] }); tabFind s.chip.retry (laneUnit 0) = some 1)
    ∧ (let s := inTest (fun c => { regs [(Reg.WEAVE_BANK0_LEN, 1), (strandAddr 0 0, 1)] c with spares := [18], sched := [⟨0, 3, 0, 10, none⟩] });
      checkOn s.chip 2 = true ∧ s.chip.spares.contains 18 = true ∧ tabFind s.chip.retry (laneUnit 18) ≠ some 1
        ∧ tabGet (fun _ => 0) s.chip.testAt (256 + 18) ≤ s.chip.beat ∧ s.chip.laneMap[3]? = some 3 ∧ sampleOf 18 s.chip = some (0, 3))
    ∧ (checkOn (inTest id).chip 3 = true ∧ checkOn (inTest id).chip 7 = true ∧ (inTest id).chip.scrubPos + 4 * 1 < sramBytes
      ∧ sramBytes ≤ (inTest id).chip.scrubPos + 4 * (sramBytes / 4))
    ∧ ([4, 5, 6, 7, 8, 9, 11].all (fun mem => decide (mem = 6 → 0 = (inTest id).chip.bankActive)) = true)
    ∧ (rdF (inTest id).chip Reg.IST_LINK_ERR_MAX 15 0 < (List.replicate 11 65536).getD 10 0) := by decide

/-! ### Hypotheses that are met: time and network -/

/-- PTP on both ports, in a state of the time base. -/
def timed (st : Word) (t : TimeSt) : State := chipBy (fun c => { regs [(ptpBlock 0, st), (ptpBlock 1, st), (Reg.TIME_PTP_CFG, 0x400),
  (Reg.TIME_SERVO_CFG, 0x00230064), (Reg.TIME_PATH_CFG, 0x00020064), (Reg.NET_MAC_LO, 1), (Reg.NET_LINK_STAT, 3)] c with time := t })

/-- A grandmaster. -/
def master (gm : Nat) : Announce := ⟨128, 6, 0x20, 0, 128, gm, 0, 5, 0, 37, true⟩

theorem test_time :
    (ptpState (timed 0 {}).chip 1 = 0 ∧ ptpState (timed 4 {}).chip 1 ≠ 0 ∧ (timed 4 {}).chip.dev ≠ .heldRestart)
    ∧ (let s := timed 4 { state := .locked };
      (1 : Nat) ≠ s.chip.time.port ∧ (0 : Nat) = s.chip.time.port ∧ adjustsTime s.chip = true ∧ s.chip.time.state = .locked ∧ jumpThr s.chip = 100)
    ∧ (adjustsTime (shadow id).chip = false)
    ∧ (let s := timed 4 { p0 := { mpd := some 0, pathNew := [1000, 1000, 1000] } };
      (ptpPort s.chip.time 0).mpd = some 0 ∧ rdF s.chip Reg.TIME_PATH_CFG 15 0 = 100 ∧ (1000 * 65536 - 0 : Int).natAbs > (100 * 65536 : Int).natAbs
        ∧ (∀ y ∈ (ptpPort s.chip.time 0).pathNew, (y - 1000).natAbs ≤ 100) ∧ (ptpPort s.chip.time 1).mpd = none)
    ∧ ((master 1).domain = rdF (timed 4 {}).chip Reg.TIME_PTP_CFG 6 0 ∧ rdB (timed 4 {}).chip Reg.TIME_PTP_CFG 10 = true
      ∧ ({ master 1 with domain := 1 } : Announce).domain ≠ rdF (timed 4 {}).chip Reg.TIME_PTP_CFG 6 0)
    ∧ ((timed 4 {}).chip.time.master = none ∧ (timed 4 { state := .locked, master := some (master 2) }).chip.time.master = some (master 2)
      ∧ (timed 4 { state := .locking, master := some (master 2) }).chip.time.state = .locking ∧ (master 2).gmId ≠ (master 1).gmId)
    ∧ ((ptpPort (timed 4 { p1 := { usable := true } }).chip.time (1 - 0)).usable = true)
    ∧ (macSet (timed 4 {}).chip = true ∧ ptpState (timed 4 {}).chip 0 = 4 ∧ macSet State.reset.chip = false ∧ ptpState (timed 3 {}).chip 0 ≠ 4
      ∧ (∀ q, q < 2 → ((timed 4 {}).chip.tx q).wait = []) ∧ ((timed 4 {}).chip.tx 1).free ≤ 0 ∧ txStart (timed 4 {}).chip 0 (ptpLine (timed 4 {}).chip .sync) = 0)
    ∧ (rdB (chipBy (wr32 Reg.TIME_PTP_CFG 0)).chip Reg.TIME_PTP_CFG 10 = false ∧ adjustsTime State.reset.chip = true) := by decide

/-- A network with redundancy, and one frame seen. -/
def redundant : State := onNet (fun c => { wr32 Reg.NET_NET_CFG 0x01900004 c with net := { c.net with prp := [⟨7, 1, 0⟩] } })

/-- Subscription 15 to words of a stream of another unit. -/
def subscribed (f : Chip → Chip) : State := running0 0 (fun c => f (regs [(sg 15, 1), (sg 15 + 4, 9), (sg 15 + 16, 0x00010000)] c))

theorem test_network :
    (rdB redundant.chip Reg.NET_NET_CFG 2 = true ∧ rdB (chipBy (wr32 Reg.NET_NET_CFG 0)).chip Reg.NET_NET_CFG 2 = false ∧ macSet redundant.chip = true ∧ portsUp redundant.chip = [0, 1]
      ∧ redundant.chip.net.supAt = none ∧ (let s := { redundant with chip := { redundant.chip with net := { redundant.chip.net with supAt := some 0 } } };
        (∀ t ∈ s.chip.net.supAt, instant s.chip s.chip.tick 0 < t + 250000 * rdF s.chip Reg.NET_PRP_CFG 15 0)
          ∧ (∀ t ∈ s.chip.net.supAt, t + 250000 * rdF s.chip Reg.NET_PRP_CFG 15 0 ≤ instant { s.chip with cyc := 2 ^ 34 } s.chip.tick 0))
      ∧ redundant.chip.dev ≠ .heldRestart)
    ∧ (redundant.chip.net.prp.filter (fun e => decide (nowMs (atPhase 0 redundant.chip) ≤ e.ms + rdF redundant.chip Reg.NET_NET_CFG 31 16)) = [⟨7, 1, 0⟩])
    ∧ ((⟨7, 1, 0⟩ : PrpSeen).src = 7 ∧ (⟨7, 1, 0⟩ : PrpSeen).seq = 1 ∧ (⟨7, 1, 0⟩ : PrpSeen).seq ≠ 2)
    ∧ (rdB (onNet id).chip Reg.NET_LINK_STAT 1 = true ∧ rdB State.reset.chip Reg.NET_LINK_STAT 1 = false)
    ∧ ((List.replicate 60 (0xFF : Byte)).length ≤ 1522 ∧ ((List.replicate 60 (0xFF : Byte)).take 6).foldl (fun n b => n * 256 + b.toNat) 0 = 0xFFFFFFFFFFFF
      ∧ (0xFFFFFFFFFFFF).testBit 40 = true ∧ (onNet id).chip.net.hrx.length < 32
      ∧ 32 ≤ (onNet (fun c => { c with net := { c.net with hrx := List.replicate 32 ⟨[], 0, 0⟩ } })).chip.net.hrx.length)
    ∧ (¬ (0 = macValue (onNet id).chip ∨ Nat.testBit 0 40 = true))
    ∧ (let s := subscribed id; let f : SignalFrame := ⟨2, 0, 9, 7, 0, 5000, [true], [0]⟩;
      f.ver = 2 ∧ sgOn s.chip.mem 15 = true ∧ rdF s.chip (sg 15 + 4) 15 0 = f.stream ∧ rdB s.chip (sg 15) 1 = false ∧ rdB s.chip (sg 15) 2 = false
        ∧ f.seq = s.chip.tick ∧ 0 < rimPhase s.chip ∧ f.period = tickN s.chip ∧ f.words.length = rdF s.chip (sg 15 + 16) 24 16
        ∧ rdF s.chip (sg 15 + 20) 15 0 ≤ f.epoch ∧ (s.chip.sub 15).kept = none ∧ rimPhase s.chip ≤ 5000)
    ∧ (let s := subscribed (fun c => { c with net := { c.net with subs := [(15, { miss := 3 })] } });
      3 ≤ (s.chip.sub 15).miss ∧ rdB s.chip Reg.NET_SUB_LOST_MAP 15 = false ∧ (s.chip.sub 0).miss < 3) := by decide

/-! ### Hypotheses that are met: the pair -/

/-- A witness of the owner at epoch 1. -/
def claimed : WitnessMsg := ⟨1, 2, false, true, true, false, true, 5, 9, 1, 0⟩

set_option maxRecDepth 20000 in
theorem test_paths :
    (pairEn (owner id).chip = true ∧ 1 ≤ roleCode (owner id).chip ∧ roleCode (owner id).chip ≤ 4 ∧ pairEn State.reset.chip = false
      ∧ roleCode (inPair 5 2 0 id).chip = 5
      ∧ secondCycles (atPhase 0 (owner id).chip) % 500 = 0 ∧ secondCycles (atPhase 1 (owner id).chip) % 500 ≠ 0)
    ∧ (glintIn (owner id).chip = true ∧ linkUp (owner id).chip = true ∧ (owner id).chip.twin.glintEp = false ∧ (owner id).chip.twin.awaiting = []
      ∧ partnerRole (owner id).chip = 3 ∧ (owner id).chip.dev ≠ .heldRestart)
    ∧ (let s := inPair 2 3 0x10 id; glintIn s.chip = true ∧ linkUp s.chip = false ∧ ownsOutputs s.chip = true ∧ partnerRole s.chip ≠ 6)
    ∧ (let s := inPair 1 2 0x10 id; glintIn s.chip = true ∧ linkUp s.chip = false ∧ roleCode s.chip = 1 ∧ s.chip.twin.firstCopy = false
        ∧ s.chip.twin.searching = false)
    ∧ (roleCode (shadow id).chip = 3 ∧ glintIn (shadow id).chip = true ∧ linkUp (shadow id).chip = true ∧ (shadow id).chip.twin.due = none)
    ∧ (let s := onNet (regs [(Reg.TWIN_TWIN_STAT, pairWord 2 3 0x30), (Reg.TWIN_TWIN_CFG, 0x00050003)]);
      pairEn s.chip = true ∧ rdB s.chip Reg.TWIN_TWIN_CFG 1 = true ∧ roleCode s.chip ≠ 5 ∧ macSet s.chip = true ∧ netUp s.chip = true ∧ portsUp s.chip = [0, 1])
    ∧ (claimed.ver = 1 ∧ claimed.pairId = rdF (owner id).chip Reg.TWIN_TWIN_CFG 31 16 ∧ ownsOutputs (owner id).chip = true ∧ claimed.owner = true
      ∧ epochHigher claimed.epoch (epochOf (owner id).chip) = true ∧ claimed.pairId ≠ rdF State.reset.chip Reg.TWIN_TWIN_CFG 31 16)
    ∧ (let s := owner (fun c => { c with twin := { c.twin with witMiss := 4 } });
      rdB s.chip Reg.TWIN_TWIN_CFG 1 = true ∧ 4 ≤ s.chip.twin.witMiss ∧ s.chip.twin.witEp = false ∧ (owner id).chip.twin.witMiss < 4)
    ∧ (let s := owner (fun c => { c with twin := { c.twin with xchk := [(16383, 64)] } });
      64 ≤ tabGet (fun _ => 0) s.chip.twin.xchk 16383 ∧ tabGet (fun _ => false) s.chip.twin.xchkEp 16383 = false
        ∧ tabGet (fun _ => 0) s.chip.twin.xchk 0 < 64) := by decide

set_option maxRecDepth 20000 in
theorem test_ownership :
    (let s := inPair 3 2 0x400 id;
      s.chip.dev ≠ .heldRestart ∧ roleCode s.chip = 3 ∧ glintIn s.chip = false ∧ linkUp s.chip = false ∧ vetoes s.chip = false)
    ∧ (let s := inPair 3 2 0x400 (fun c => { c with twin := { c.twin with lastWit := some 9, lastEdge := some 0 } });
      vetoes s.chip = true ∧ s.chip.twin.vetoed = false)
    ∧ (let s := inPair 4 2 0 id; roleCode s.chip = 4 ∧ glintIn s.chip = false ∧ linkUp s.chip = false ∧ vetoes s.chip = false)
    ∧ (let s := inPair 1 2 0 (fun c => { c with twin := { c.twin with firstCopy := true } }); roleCode s.chip = 1 ∧ s.chip.twin.firstCopy = true)
    ∧ (∀ back : Bool, let s := inPair 2 3 0x30 (fun c => { c with twin := { c.twin with handDue := some 0, handBack := back } });
      s.chip.twin.handDue = some 0 ∧ 0 ≤ nowAt (atPhase (pOutPhase s.chip) s.chip) ∧ roleCode s.chip = 2 ∧ s.chip.twin.handBack = back)
    ∧ (let s := shadow (fun c => { c with twin := { c.twin with handDue := some 0 } }); s.chip.twin.handDue = some 0 ∧ roleCode s.chip = 3)
    ∧ ((owner id).chip.twin.handDue = none)
    ∧ (let s := inPair 2 3 0x438 (fun c => { c with twin := { c.twin with syncTicks := 2 ^ 33 } });
      rdB s.chip Reg.TWIN_TWIN_CFG 2 = true ∧ strapB s.chip = true ∧ hasShadow s.chip = true ∧ inSync s.chip = true ∧ inMigration s.chip = false
        ∧ rdF s.chip Reg.TWIN_FB_HOLD 11 0 * rdF s.chip Reg.TICK_TICKS_PER_SEC 16 0 ≤ s.chip.twin.syncTicks)
    ∧ (inMigration (inPair 2 3 0xC38 id).chip = true)
    ∧ (let s := owner (fun c => { c with twin := { c.twin with swapReq := true } });
      quietPoint s.chip = true ∧ linkUp s.chip = true ∧ hasShadow s.chip = true ∧ s.chip.twin.swapReq = true)
    ∧ (quietPoint (shadow id).chip = true ∧ inSync (shadow id).chip = true)
    ∧ (quietPoint (owner (fun c => { c with mps := [(0, { vel := 1 })] })).chip = false)
    ∧ (let s := inPair 1 2 0x30 (fun c => { c with twin := { c.twin with firstCopy := true, joinAt := 0 } });
      roleCode s.chip = 1 ∧ s.chip.twin.firstCopy = true ∧ linkUp s.chip = true ∧ s.chip.twin.joinAt + 250000000 ≤ nowAt (atPhase 250000000 s.chip)
        ∧ pairEn s.chip = true ∧ strapB s.chip = false ∧ mayMigrate s.chip ⟨2, 0, 0, [], false, true, true, true, 0, 0, [], [], []⟩ = false)
    -- the search: over without and with a witness, and going on with the link up
    ∧ (∀ w ∈ [none, some 9], let s := inPair 1 2 0 (fun c => { c with twin := { c.twin with searching := true, lastWit := w } });
      roleCode s.chip = 1 ∧ pairEn s.chip = true ∧ s.chip.twin.searching = true ∧ glintIn s.chip = false ∧ linkUp s.chip = false ∧ s.chip.twin.lastWit = w
        ∧ s.chip.twin.joinAt + 2500000 * rdF s.chip Reg.TWIN_TWIN_CFG 15 8 ≤ nowAt (atPhase 0 s.chip))
    ∧ (let s := inPair 1 2 0x30 (fun c => { c with twin := { c.twin with searching := true } });
      roleCode s.chip = 1 ∧ linkUp s.chip = true ∧ strapB s.chip = false ∧ s.chip.twin.searching = true)
    ∧ (roleCode (inPair 2 1 0x30 id).chip = 2 ∧ partnerRole (inPair 2 1 0x30 id).chip = 1)
    ∧ (let s := owner (fun c => { c with twin := { c.twin with watchEnd := some 0 } });
      s.chip.twin.watchEnd = some 0 ∧ 0 ≤ s.chip.opSec ∧ roleCode s.chip = 2 ∧ (owner id).chip.twin.watchEnd = none) := by decide

/-! ### Hypotheses that are met: sealed packages and the life cycle -/

/-- An operation of a kind at a stage, its payload the bytes of the open challenge, and a maker operation's number. -/
def opAt (kind n : Nat) (stage : SecStage) : SecOp :=
  ⟨kind, 1, 0, List.replicate 32 7 ++ [BitVec.ofNat 8 n], false, stage⟩

/-- The part in a life-cycle state, with that operation and an open challenge. -/
def withOp (f : Fuses) (o : SecOp) : State :=
  { chipBy (fun c => { c with sec := { c.sec with op := some o, challenge := some ⟨List.replicate 32 7, 0⟩, session := some ⟨0, 300⟩ } })
    with nv := { State.reset.nv with fuses := f } }

/-- The fuses of a blank part, of a part provisioned, claimed and returned, and of one returned for the fourth time. -/
def fusesAt (k : Nat) : Fuses := k.fold (fun i _ f => if i = 0 then { f with prov := true } else if i % 3 = 1 then claimFuses [] f
  else if i % 3 = 2 then returnFuses f else refurbFuses f) Fuses.blank

theorem test_life_cycles : (List.range 13).map (fun k => lcState (fusesAt k)) = [0, 1, 2, 3, 1, 2, 3, 1, 2, 3, 1, 2, 3]
    ∧ (List.range 13).map (fun k => cycleOf (fusesAt k)) = [0, 0, 1, 1, 1, 2, 2, 2, 3, 3, 3, 4, 4] := by decide

set_option maxRecDepth 20000 in
theorem test_packages :
    ((withOp Fuses.blank (opAt 1 0 .done)).chip.dev ≠ .heldRestart ∧ (withOp Fuses.blank (opAt 1 0 .done)).chip.sec.op.isSome = true
      ∧ (withOp Fuses.blank (opAt 1 0 .done)).chip.sec.op = some (opAt 1 0 .done) ∧ (opAt 1 0 .done).stage = .done)
    ∧ (State.reset.chip.sec.op = none ∧ pkgReason State.reset.nv State.reset.chip [] true = some 1 ∧ State.reset.chip.dev = .safeIdle)
    ∧ ((running0 0 id).chip.sec.op = none ∧ (running0 0 id).chip.dev ≠ .safeIdle)
    ∧ ((commitItems .security .time [] (atPhase 0 State.reset.chip)).1 = 1)
    ∧ (inSession.chip.sec.session = some ⟨0, 300⟩ ∧ inSession.chip.opSec < 300 ∧ (⟨0, 0⟩ : Session).ends ≤ State.reset.chip.opSec)
    ∧ ((chipBy (fun c => { c with sec := { c.sec with body := some [] } })).chip.sec.body = some []) := by decide

set_option maxRecDepth 20000 in
theorem test_anchors_and_grants :
    (let s := withOp (fusesAt 2) (opAt 0x10 0 .verified);
      opOf 0x10 s.chip = some (opAt 0x10 0 .verified) ∧ liveGroup s.nv.fuses = some 0 ∧ emptySlot s.nv.fuses 0 = some 1
        ∧ (pkgVal (opAt 0x10 0 .verified).payload 128 1 % 16).testBit 1 = false)
    ∧ (let f := writeAnchor 0 3 [] (writeAnchor 0 2 [] (writeAnchor 0 1 [] (fusesAt 2))); liveGroup f = some 0 ∧ emptySlot f 0 = none)
    ∧ (let s := withOp (fusesAt 2) (opAt 0x11 0 .verified);
      opOf 0x11 s.chip = some (opAt 0x11 0 .verified) ∧ liveState s.nv.fuses (opAt 0x11 0 .verified).anchor = 1
        ∧ (takeChallenge (bytesAt (opAt 0x11 0 .verified).payload 0 32) (atPhase 0 { s.chip with emitted := [] })).1 = true
        ∧ (takeChallenge (bytesAt (opAt 0x11 0 .verified).payload 0 32) (atPhase 1 { s.chip with emitted := [] })).1 = false) := by decide

/-- Where signatures verify and nothing is listed, a CONFIG package is taken: whether they do is a free value. -/
theorem test_package_taken (l : List Byte) (hv : verifyPkg State.reset.nv.fuses l = none) (hk : pkgKind l = 1) (hl : pkgList l = some []) :
    pkgReason State.reset.nv State.reset.chip l true = none := by
  have h1 : kindState State.reset.nv.fuses State.reset.chip l = true := by unfold kindState; rw [hk]; rfl
  have h2 : partnerBad State.reset.chip l true = false := by unfold partnerBad; rw [hk]; rfl
  unfold pkgReason
  have h0 : tabGet (fun _ => 0) State.reset.nv.versions 1 = 0 := by decide
  simp only [hv, hk, hl, h0, h1, h2, kindListed, kindSupplement, targetsOk]
  simp [listWords]

/-- A maker's operation on a good challenge from each state that it is for, and from one that it is not for. -/
theorem test_maker_operations :
    ∀ e ∈ [(0, 1, true), (1, 2, true), (0, 3, true), (3, 3, true), (2, 3, false), (3, 4, true), (12, 4, false), (12, 5, true), (2, 5, false)],
      let s := withOp (fusesAt e.1) (opAt 0x20 e.2.1 .verified);
      makerOp e.2.1 s.chip = some (opAt 0x20 e.2.1 .verified)
        ∧ (takeChallenge (bytesAt (opAt 0x20 e.2.1 .verified).payload 0 32) (atPhase 0 { s.chip with emitted := [] })).1 = true
        ∧ transitionOpen s.chip = true
        ∧ (e.2.2 = true ↔ (match e.2.1 with
          | 1 => decide (lcState s.nv.fuses = 0)
          | 2 => decide (lcState s.nv.fuses = 1) && decide (cycleOf s.nv.fuses = 0)
          | 3 => decide (lcState s.nv.fuses = 0) || decide (lcState s.nv.fuses = 3)
          | 4 => decide (lcState s.nv.fuses = 3) && decide (cycleOf s.nv.fuses ≠ 4)
          | _ => decide (lcState s.nv.fuses = 3)) = true) := by decide

theorem test_claim_and_return :
    (opOf 0x12 (withOp (fusesAt 1) (opAt 0x12 0 .verified)).chip = some (opAt 0x12 0 .verified) ∧ lcState (fusesAt 1) = 1)
    ∧ (opOf 0x13 (withOp (fusesAt 2) (opAt 0x13 0 .verified)).chip = some (opAt 0x13 0 .verified) ∧ lcState (fusesAt 2) = 2)
    ∧ transitionOpen (running0 0 id).chip = false ∧ State.reset.nv.identity.seed = none ∧ State.reset.chip.sec.body = none := by decide

/-- The fuses of each of those parts are fuses that a part can have. -/
theorem test_invariant_is_met : ∀ k ∈ List.range 13, (fusesAt k).Ok := by
  have h : ∀ k, k < 13 → (fusesAt k).Ok := by
    intro k hk
    refine Fuses.ok_of ?_ ?_ ?_ ?_ ?_ ?_ ?_ <;> revert k <;> decide
  exact fun k hk => h k (List.mem_range.mp hk)

/-! ### Single steps, with results worked out from the specification -/


/-- The part after a command, as it answers. -/
def after (i : Instr) (s : State) : Chip := match exec i s with | .next t => t.chip | _ => s.chip

/-- R66: ties go to the even neighbour, of either sign; and the smallest word is never stored. -/
theorem test_rounding : [store32 1 1, store32 3 1, store32 5 1, store32 (-1) 1, store32 (-3) 1, store32 0x100000000 1, store32 (-0x100000000) 1]
    = [(0, false), (2, false), (2, false), (0, false), (-2, false), (0x7FFFFFFF, true), (-0x7FFFFFFF, true)] := by decide +kernel

theorem test_step_takes_the_front : step { State.reset with pending := [.rdIndex .u 5 0, .autoRun] } = exec (.rdIndex .u 5 0) { State.reset with pending := [.autoRun] }
    ∧ step State.reset = .next State.reset := ⟨rfl, rfl⟩

/-- No row gives bits, so no word spells a command and the queue stays as it is. -/
theorem test_no_word_is_a_command : decodeTableWord 32 0x12345678 = none ∧ State.reset.withFetchWord 32 0x12345678 = State.reset := ⟨rfl, rfl⟩

/-- R459: a hole of the map through BAR2, seen as a bad write at phase 9. -/
theorem test_bad_access : (discarded .bar2 0x03FFFFFC 1 15 (atPhase 9 State.reset.chip)).map (fun c =>
    (rd32 c Reg.SYS_BAD_ADDR, rdB c (pageBase .sys + Reg.HDR_EVT_STAT) 6, c.ring.entries.map (fun e => (e.code, e.seq, e.phase))))
      = some (0x03FFFFFC, true, [(Event.SYS_BAD_ACCESS.code, 0, 9)]) := by decide +kernel

/-- R462: ones clear, zeros keep; R6: a bit that the same cycle sets stays. -/
theorem test_event_status_clears : let a := pageBase .task + Reg.HDR_EVT_STAT;
    rd32 (headerWrite .task Reg.HDR_EVT_STAT false 0x5 (atPhase 1 (wr32 a 0x7 State.reset.chip))) a = 0x2
      ∧ rd32 (headerWrite .task Reg.HDR_EVT_STAT false 0x5 (wr32 a 0x7 (atPhase 1 (wr32 a 0x4 State.reset.chip)))) a = 0x3 := by decide +kernel

/-- R33: the low word is read, and the high word latched. -/
theorem test_tick_count : let x := registerRead .bar0 Reg.TICK_TICK_COUNT_LO { State.reset.chip with tick := 0x123456789ABC };
    x.1 = 0x56789ABC ∧ rd32 x.2 Reg.TICK_TICK_COUNT_HI = 0x1234 := by decide +kernel

/-- R198: START of task 255 is staged with the P-view's right. -/
theorem test_start_is_staged : pendOf (registerWrite .task .bar2 Reg.TASK_CMD 0xFFFFFFFF 0x1FF inSession.chip) .task
    = [⟨Reg.TASK_CMD, 0x1FF, 0x7FF, true, true⟩] := by decide +kernel

/-- R182: clears and sets of flags keep their order. -/
theorem test_flag_order : (registerWrite .task .bar0 (Reg.TASK_FLAG_CLR + 28) 0xFFFFFFFF 0x80000000
    (registerWrite .task .bar0 (Reg.TASK_FLAG_SET + 28) 0xFFFFFFFF 0x80000001 State.reset.chip)).flagWrites
      = [(224, true), (255, true), (255, false)] := by decide +kernel

/-- R167: SET at phase 200 posts its entry at the boundary of CK_SEQ cycle 408 and the task goes on. -/
theorem test_set_step : let c := after (.stepSet 0 (stepWord 5 42 0 0)) (atStep 200 0 { state := .running, pc := 10 });
    c.cqueue = [⟨0, .setpoint 5 42 0, 408⟩] ∧ (c.task 3).pc = 11 ∧ (c.engine 0).task = 3 := by decide +kernel

/-- R166: an operand out of range faults the task. -/
theorem test_set_out_of_range : let c := after (.stepSet 0 (stepWord 0x800 42 0 0)) (atStep 200 0 { state := .running, pc := 10 });
    (c.task 3).state = .faulted ∧ (c.task 3).faultPc = 10 ∧ c.cqueue = [] := by decide +kernel

/-- R176: the ninth CALL in a row has no room, and RETURN takes the last. -/
theorem test_call_and_return : ((after (.stepCall 0 (stepWord 0 20 0 0)) (atStep 200 0 { state := .running, stack := List.replicate 8 1 })).task 3).state = .faulted
    ∧ ((after (.stepReturn 0 (stepWord 0 0 0 0)) (atStep 200 0 { state := .running, stack := [7, 9] })).task 3).pc = 9 := by decide +kernel

/-- R186: the 32nd step in a row sends the task to the back of its ready list. -/
theorem test_time_slice : let c := after (.stepJump 0 (stepWord 0 20 0 0)) (atStep 200 31 { state := .running });
    (c.task 3).state = .ready ∧ (c.task 3).pc = 20 ∧ (c.engine 0).task = 0 := by decide +kernel

/-- R464: a vector that is open sends its message, and one that is masked waits in the PBA. -/
theorem test_message : (after (.msixMessage 5 0) (reporting 0 id)).emitted = [.msix 5] ∧ (after (.msixMessage 5 0) (reporting 1 id)).emitted = []
    ∧ rd32 (after (.msixMessage 5 0) (reporting 1 id)) (pbaWord 5) = 0x20 := by decide +kernel

/-- R465: three items of eight bytes go to the ring after what was written before. -/
theorem test_dma_transfer : let c := after (.dmaTransfer 0 5) (streaming 8); dmaWr c 0 = 32 ∧ (c.cap 0).sent = 24 := by decide +kernel

/-- R484: below 16.0 V the power fails, and at 16.0 V it does not. -/
theorem test_power_failure : (after (.powerFail 15999 false 0) State.reset).pf = true ∧ (after (.powerFail 15999 false 0) State.reset).pfCount = 1
    ∧ (after (.powerFail 16000 false 0) State.reset).pf = false := by decide +kernel

/-- R488: 110 °C is shown in steps of 1 °C from −40 °C, and reported. -/
theorem test_temperature : let c := after (.tempWarn false 110 0) State.reset;
    rdF c Reg.CLKPWR_TEMP 7 0 = 150 ∧ c.hotLogic = true ∧ rdB c (pageBase .clkpwr + Reg.HDR_EVT_STAT) 3 = true := by decide +kernel

/-- R436, R440: CLAIM opens the first cycle, and a part that is in use takes no second CLAIM. -/
theorem test_claim : lcState (claimFuses [] (fusesAt 1)) = 2 ∧ cycleOf (claimFuses [] (fusesAt 1)) = 1
    ∧ kindState (fusesAt 2) State.reset.chip [0, 0, 0, 0, 4, 0x12] = false := by decide +kernel

end Sys2Proof.Machine
end

section
/-!
SUPPORT. The ring's arbiter, and the life of one event: from a raise that finds nothing queued to its entry in the ring (R26-R29).
-/
namespace Sys2Proof.Machine

open Sys2Proof

/-! ### The arbiter's choice (R29) -/

/-- Round robin over rising numbers: the choice is one that asks, and it is the least of those at or after the pointer. -/
theorem roundRobin_rising {ptr q : Nat} {l : List Nat} (hl : l.Pairwise (· < ·)) (h : roundRobin ptr l = some q) :
    q ∈ l ∧ ∀ m ∈ l, ptr ≤ m → ptr ≤ q ∧ q ≤ m := by
  unfold roundRobin at h
  split at h
  · next r hr =>
    obtain rfl := Option.some.inj h
    obtain ⟨hp, before, after, rfl, hbefore⟩ := List.find?_eq_some_iff_append.mp hr
    refine ⟨by simp, fun m hm hle => ⟨by simpa using hp, ?_⟩⟩
    rcases List.mem_append.mp hm with hb | hb
    · have := hbefore m hb
      simp at this; omega
    · rcases List.mem_cons.mp hb with rfl | ha
      · exact Nat.le_refl _
      · exact Nat.le_of_lt ((List.pairwise_cons.mp (List.pairwise_append.mp hl).2.1).1 m ha)
  · next hnone =>
    refine ⟨List.mem_of_head? h, fun m hm hle => ?_⟩
    exact absurd (decide_eq_true hle) (List.find?_eq_none.mp hnone m hm)

theorem roundRobin_eq_none {ptr : Nat} {l : List Nat} (h : roundRobin ptr l = none) : l = [] := by
  unfold roundRobin at h
  split at h
  · cases h
  · exact List.head?_eq_none_iff.mp h

theorem roundRobin_singleton (ptr q : Nat) : roundRobin ptr [q] = some q := by
  unfold roundRobin
  by_cases h : ptr ≤ q <;> simp [h]

theorem roundRobin_nil (ptr : Nat) : roundRobin ptr [] = none := rfl

/-- The requesters of a class that have an entry queued, in ascending order. -/
def ringAsking (r : RingSt) (k : Nat) : List Nat := (classMembers k).filter (fun q => decide (tabGet (fun _ => []) r.queues q ≠ []))

theorem mem_ringAsking {r : RingSt} {k q : Nat} : q ∈ ringAsking r k ↔ q ∈ classMembers k ∧ tabGet (fun _ => []) r.queues q ≠ [] := by
  simp [ringAsking]

theorem classMembers_rising (k : Nat) : (classMembers k).Pairwise (· < ·) := by
  unfold classMembers
  split
  · decide
  · split <;> decide

theorem ringAsking_rising (r : RingSt) (k : Nat) : (ringAsking r k).Pairwise (· < ·) := (classMembers_rising k).filter _

/-- A grant goes to the first class in which some requester asks, and there round robin. -/
theorem ringGrant_eq_some {r : RingSt} {q k : Nat} (h : ringGrant r = some (q, k)) :
    roundRobin (tabGet (fun _ => 0) r.ptr k) (ringAsking r k) = some q ∧ ∀ j, j < k → ringAsking r j = [] := by
  have e : ringGrant r = match roundRobin (tabGet (fun _ => 0) r.ptr 0) (ringAsking r 0) with
      | some q => some (q, 0)
      | none => match roundRobin (tabGet (fun _ => 0) r.ptr 1) (ringAsking r 1) with
        | some q => some (q, 1)
        | none => (roundRobin (tabGet (fun _ => 0) r.ptr 2) (ringAsking r 2)).map (fun q => (q, 2)) := rfl
  rw [e] at h
  split at h
  · next x hx =>
    obtain ⟨rfl, rfl⟩ := Prod.mk.inj (Option.some.inj h)
    exact ⟨hx, fun j hj => absurd hj (Nat.not_lt_zero j)⟩
  · next h0 =>
    split at h
    · next x hx =>
      obtain ⟨rfl, rfl⟩ := Prod.mk.inj (Option.some.inj h)
      refine ⟨hx, fun j hj => ?_⟩
      obtain rfl : j = 0 := by omega
      exact roundRobin_eq_none h0
    · next h1 =>
      obtain ⟨x, hx, hxq⟩ := Option.map_eq_some_iff.mp h
      obtain ⟨rfl, rfl⟩ := Prod.mk.inj hxq
      refine ⟨hx, fun j hj => ?_⟩
      obtain rfl | rfl : j = 0 ∨ j = 1 := by omega
      · exact roundRobin_eq_none h0
      · exact roundRobin_eq_none h1

/-! ### One queued entry reaches the ring -/

theorem classMembers_of_request {req k : Nat} (hr : req < 42) (hk : k < 3) :
    (classMembers k).filter (fun q => decide (q = req)) = if k = reqClass req then [req] else [] := by
  have all : ∀ req, req < 42 → ∀ k, k < 3 →
      (classMembers k).filter (fun q => decide (q = req)) = if k = reqClass req then [req] else [] := by decide
  exact all req hr k hk

theorem reqClass_lt (req : Nat) : reqClass req < 3 := by
  unfold reqClass
  split
  · decide
  · split <;> decide

theorem ringAsking_alone {r : RingSt} {req k : Nat} {e : RingEntry} (hr : req < 42) (hk : k < 3) (hq : r.queues = [(req, [e])]) :
    ringAsking r k = if k = reqClass req then [req] else [] := by
  rw [← classMembers_of_request hr hk]
  unfold ringAsking
  congr 1
  funext q
  by_cases h : q = req
  · subst h; simp [hq, tabGet, tabFind]
  · have : req ≠ q := fun x => h x.symm
    simp [hq, tabGet, tabFind, h, this]

theorem ringGrant_alone {r : RingSt} {req : Nat} {e : RingEntry} (hr : req < 42) (hq : r.queues = [(req, [e])]) :
    ringGrant r = some (req, reqClass req) := by
  have hask {k : Nat} (hk : k < 3) := ringAsking_alone hr hk hq
  have hc := reqClass_lt req
  unfold ringGrant
  simp only [← ringAsking.eq_def, hask (by decide : 0 < 3), hask (by decide : 1 < 3), hask (by decide : 2 < 3)]
  obtain h | h | h : reqClass req = 0 ∨ reqClass req = 1 ∨ reqClass req = 2 := by omega
  all_goals simp [h, roundRobin_singleton, roundRobin_nil]

/-- The arbiter's grant of the one entry that is queued: the queues are empty after it. -/
theorem ringStep_alone {r : RingSt} {req : Nat} {e : RingEntry} (hr : req < 42) (hq : r.queues = [(req, [e])]) :
    ringStep r = ringWrite e { r with queues := [], ptr := tabPut (fun _ => 0) r.ptr (reqClass req) (req + 1) } := by
  have hg : tabGet (fun _ => []) r.queues req = [e] := by simp [hq, tabGet, tabFind]
  have hp : tabPut (fun _ => []) r.queues req [] = [] := by simp [hq, tabPut, tabDel]
  unfold ringStep
  simp only [ringGrant_alone hr hq, hg, hp]

/-! ### The consumers' loss counts (R28) -/

theorem advanceRing_ring (n : Nat) (c : Chip) : (advanceRing n c).ring = ringSteps n c.ring := by
  unfold advanceRing
  dsimp only
  split <;> split <;> rfl

theorem rdN_wr32_min (c : Chip) (a k : Nat) : rdN (wr32 a (Word.ofNat (min 0xFFFFFFFF k)) c) a = min 0xFFFFFFFF k := by
  unfold rdN
  rw [rd32_wr32, Word.ofNat, BitVec.toNat_ofNat]
  omega

theorem rdN_wr32_other (c : Chip) (a x : Nat) (w : Word) (h : x + 4 ≤ a ∨ a + 4 ≤ x) : rdN (wr32 a w c) x = rdN c x :=
  congrArg BitVec.toNat (rd32_wr32_other c a x w h)

/-- A loss count takes what its consumer lost in a run of the arbiter, and saturates. -/
theorem rdN_advanceRing (n : Nat) (c : Chip) :
    rdN (advanceRing n c) Reg.SYS_RING_LOSS_MGMT
        = min 0xFFFFFFFF (rdN c Reg.SYS_RING_LOSS_MGMT + ((ringSteps n c.ring).mgmtSeq - c.ring.mgmtSeq))
      ∧ rdN (advanceRing n c) Reg.SYS_RING_LOSS_DATA
        = min 0xFFFFFFFF (rdN c Reg.SYS_RING_LOSS_DATA + ((ringSteps n c.ring).dataSeq - c.ring.dataSeq)) := by
  have hb (a : Nat) : rdN c a < 2 ^ 32 := (rd32 c a).isLt
  have hm := hb Reg.SYS_RING_LOSS_MGMT
  have hd := hb Reg.SYS_RING_LOSS_DATA
  have hr (a : Nat) : rdN { c with ring := ringSteps n c.ring } a = rdN c a := rfl
  have far : Reg.SYS_RING_LOSS_DATA + 4 ≤ Reg.SYS_RING_LOSS_MGMT := by decide
  unfold advanceRing
  dsimp only
  split <;> split <;> constructor
  all_goals simp only [rdN_wr32_min, rdN_wr32_other _ _ _ _ (.inl far), rdN_wr32_other _ _ _ _ (.inr far), hr]
  all_goals omega

/-! ### Marking an event (R462) -/

theorem pageBase_mul (p : Page) : pageBase p = 0x1000 * pageIndex p := by cases p <;> rfl

/-- The DWORDs of a page's header lie apart from the counts of what the ring's consumers lost. -/
theorem header_apart_lossRegs (p : Page) {o : Nat} (ho : o + 4 ≤ 0x40) :
    ∀ r ∈ lossRegs, pageBase p + o + 4 ≤ r.1 ∨ r.1 + r.2 ≤ pageBase p + o := by
  have hb := pageBase_mul p
  simp only [lossRegs, Reg.SYS_RING_LOSS_DATA, Reg.SYS_RING_LOSS_MGMT, List.mem_cons, List.not_mem_nil, or_false, forall_eq_or_imp, forall_eq]
  omega

theorem Event.bit_lt {p : Page} {d : EvDef} (h : d ∈ Event.ofPage p) : d.bit < 32 := by
  have all : ∀ d ∈ Event.ofPage p, d.bit < 32 := by cases p <;> decide
  exact all d h

theorem Event.fault_lt {p : Page} {d : EvDef} {b : Nat} (h : d ∈ Event.ofPage p) (hb : d.fault = some b) : b < 32 := by
  have all : ∀ d ∈ Event.ofPage p, ∀ b ∈ d.fault, b < 32 := by cases p <;> decide
  exact all d h b hb

theorem markEvent_ring (d : EvDef) (c : Chip) : (markEvent d c).ring = c.ring := by
  unfold markEvent
  dsimp only
  split <;> rfl

theorem rd32_markEvent_other (d : EvDef) (c : Chip) (a : Nat)
    (he : a + 4 ≤ pageBase d.page + Reg.HDR_EVT_STAT ∨ pageBase d.page + Reg.HDR_EVT_STAT + 4 ≤ a)
    (hf : a + 4 ≤ pageBase d.page + Reg.HDR_FAULT_STAT ∨ pageBase d.page + Reg.HDR_FAULT_STAT + 4 ≤ a) :
    rd32 (markEvent d c) a = rd32 c a := by
  have hs (x i : Nat) (c : Chip) (h : a + 4 ≤ x ∨ x + 4 ≤ a) : rd32 (setSticky x i c) a = rd32 c a :=
    mrd32_memPut32_other c.mem x a _ h
  unfold markEvent
  dsimp only
  split
  · rw [hs _ _ _ hf, hs _ _ _ he]
  · exact hs _ _ _ he

theorem rdB_markEvent_fault {d : EvDef} {b : Nat} (hb : d.fault = some b) (h : b < 32) (c : Chip) :
    rdB (markEvent d c) (pageBase d.page + Reg.HDR_FAULT_STAT) b = true := by
  unfold markEvent
  simp only [hb]
  exact rdB_setSticky _ _ _ h

/-! ### Raising an event with nothing queued (R26-R28) -/

theorem postEvent_disabled {d : EvDef} {c : Chip} (h : evEnabled c d = false) (req inst phase : Nat) (ps : List Nat) :
    postEvent d req inst phase ps c = c := by
  simp [postEvent, h]

theorem postEvent_first {d : EvDef} {c : Chip} (h : evEnabled c d = true) (hq : c.ring.queues = []) (req inst phase : Nat) (ps : List Nat) :
    postEvent d req inst phase ps c
      = { markEvent d c with ring := { c.ring with queues := [(req, [mkEntry d req inst c.tick phase ps])] } } := by
  have ht : (markEvent d c).tick = c.tick := by rw [(evOnly_markEvent d c).1]
  unfold postEvent
  simp [h, markEvent_ring, hq, ht, tabGet, tabFind, tabPut, tabIns]

/-- An enabled event, raised with nothing queued, is written to the ring by the arbiter's next grant. -/
theorem raiseVia_first {d : EvDef} {c : Chip} (h : evEnabled c d = true) (hq : c.ring.queues = []) (req inst phase : Nat) (ps : List Nat) :
    raiseVia d req inst phase ps c
      = advanceRing 1 { markEvent d c with ring := { c.ring with queues := [(req, [mkEntry d req inst c.tick phase ps])] } } := by
  unfold raiseVia drainRing
  rw [postEvent_first h hq]
  rfl

theorem raiseVia_first_ring {d : EvDef} {c : Chip} (h : evEnabled c d = true) (hq : c.ring.queues = []) {req : Nat} (hr : req < 42)
    (inst phase : Nat) (ps : List Nat) :
    (raiseVia d req inst phase ps c).ring
      = ringWrite (mkEntry d req inst c.tick phase ps)
          { c.ring with queues := [], ptr := tabPut (fun _ => 0) c.ring.ptr (reqClass req) (req + 1) } := by
  rw [raiseVia_first h hq, advanceRing_ring]
  exact ringStep_alone hr rfl

/-- A loss count grows by what its consumer loses to the entry. -/
theorem rdN_raiseVia_first {d : EvDef} {c : Chip} (h : evEnabled c d = true) (hq : c.ring.queues = []) (req inst phase : Nat) (ps : List Nat) :
    rdN (raiseVia d req inst phase ps c) Reg.SYS_RING_LOSS_MGMT
        = min 0xFFFFFFFF (rdN c Reg.SYS_RING_LOSS_MGMT + ((raiseVia d req inst phase ps c).ring.mgmtSeq - c.ring.mgmtSeq))
      ∧ rdN (raiseVia d req inst phase ps c) Reg.SYS_RING_LOSS_DATA
        = min 0xFFFFFFFF (rdN c Reg.SYS_RING_LOSS_DATA + ((raiseVia d req inst phase ps c).ring.dataSeq - c.ring.dataSeq)) := by
  have hkeep {a : Nat} (ha : (a, 4) ∈ lossRegs) (r : RingSt) : rdN { markEvent d c with ring := r } a = rdN c a := by
    have he := header_apart_lossRegs d.page (o := Reg.HDR_EVT_STAT) (by decide) _ ha
    have hf := header_apart_lossRegs d.page (o := Reg.HDR_FAULT_STAT) (by decide) _ ha
    exact congrArg BitVec.toNat (rd32_markEvent_other d c a he.symm hf.symm)
  rw [raiseVia_first h hq, advanceRing_ring]
  have hrun := rdN_advanceRing 1
    { markEvent d c with ring := { c.ring with queues := [(req, [mkEntry d req inst c.tick phase ps])] } }
  rwa [hkeep (by decide), hkeep (by decide)] at hrun

theorem rdB_raiseVia_fault {p : Page} {d : EvDef} {c : Chip} {b : Nat} (hd : d ∈ Event.ofPage p) (hb : d.fault = some b)
    (h : evEnabled c d = true) (hq : c.ring.queues = []) (req inst phase : Nat) (ps : List Nat) :
    rdB (raiseVia d req inst phase ps c) (pageBase d.page + Reg.HDR_FAULT_STAT) b = true := by
  rw [raiseVia_first h hq, rdB, (evOnly_advanceRing 1 _).2.rd32 _ (header_apart_lossRegs d.page (by decide))]
  exact rdB_markEvent_fault hb (Event.fault_lt hd hb) c

/-- What a consumer's entry in hand and its loss count become with one write to the ring. -/
theorem consumer_after_write {next seq seq' loss loss' : Nat} (hs : seq' = if next - seq = 4096 then seq + 1 else seq)
    (hl : loss' = min 0xFFFFFFFF (loss + (seq' - seq))) (hb : loss < 2 ^ 32) :
    (next - seq = 4096 → seq' = seq + 1 ∧ loss' = satInc 32 loss) ∧ (next - seq ≠ 4096 → seq' = seq ∧ loss' = loss) := by
  subst hs hl
  constructor <;> intro h <;> simp only [h, if_true, if_false, true_and]
  · unfold satInc
    split <;> omega
  · omega

/-- The arbiter's choice: no class before the granted one asks, and its own members are granted in turn from the pointer on. -/
theorem ringGrant_order {r : RingSt} {q k : Nat} (h : ringGrant r = some (q, k)) :
    q ∈ classMembers k ∧ tabGet (fun _ => []) r.queues q ≠ []
      ∧ (∀ j, j < k → ∀ m ∈ classMembers j, tabGet (fun _ => []) r.queues m = [])
      ∧ (∀ m ∈ classMembers k, tabGet (fun _ => 0) r.ptr k ≤ m → tabGet (fun _ => []) r.queues m ≠ [] →
          tabGet (fun _ => 0) r.ptr k ≤ q ∧ q ≤ m) := by
  obtain ⟨hrr, hbefore⟩ := ringGrant_eq_some h
  obtain ⟨hq, hleast⟩ := roundRobin_rising (ringAsking_rising r k) hrr
  obtain ⟨hmem, hne⟩ := mem_ringAsking.mp hq
  refine ⟨hmem, hne, fun j hj m hm => ?_, fun m hm hle hm' => hleast m (mem_ringAsking.mpr ⟨hm, hm'⟩) hle⟩
  refine Decidable.byContradiction fun hask => ?_
  exact List.not_mem_nil (hbefore j hj ▸ mem_ringAsking.mpr ⟨hm, hask⟩)

/-- Settles O52: a raise with nothing queued is one grant of the arbiter, which writes the entry, and the consumers' places and loss counts follow
that one write; the arbiter's round robin runs over rising requesters. -/
theorem raisedEventsEnterTheRing : Obligations.RaisedEventsEnterTheRing := by
  unfold Obligations.RaisedEventsEnterTheRing
  refine ⟨fun c d req inst phase ps h => ?_, fun c p d req inst phase ps hd hr he hq => ?_, fun r q k => ringGrant_order⟩
  · rw [raiseVia, postEvent_disabled h]
  · intro t
    have hring : t.ring = _ := raiseVia_first_ring he hq hr inst phase ps
    obtain ⟨hmgmt, hdata⟩ := rdN_raiseVia_first he hq req inst phase ps
    have hm := consumer_after_write (congrArg RingSt.mgmtSeq hring) hmgmt (rd32 c _).isLt
    have hd' := consumer_after_write (congrArg RingSt.dataSeq hring) hdata (rd32 c _).isLt
    have hframe := evOnly_raiseVia d req inst phase ps c
    refine ⟨?_, ?_, ?_, ?_, reported_raiseVia d req inst phase ps c (Event.bit_lt hd) he,
      fun b hb => rdB_raiseVia_fault hd hb he hq req inst phase ps, hm.1, hm.2, hd'.1, hd'.2, hframe.quiet, hframe.2⟩
    all_goals simp [hring, ringWrite]
end Sys2Proof.Machine
end

section
/-!
SUPPORT. The path of a host write to a page's header, and what a COMMIT leaves: its queue, the page's pending values and COMMIT_STAT (R23, R24).
-/
namespace Sys2Proof.Machine

open Sys2Proof

/-! ### Fields of a word -/

theorem getLsbD_fieldMask (hi lo : Nat) {i : Nat} (h : i < 32) : (fieldMask hi lo).getLsbD i = decide (lo ≤ i ∧ i ≤ hi) := by
  unfold fieldMask Word.ofNat
  rw [BitVec.getLsbD_ofNat, Nat.testBit_shiftLeft, Nat.testBit_two_pow_sub_one, ← Bool.decide_and, ← Bool.decide_and]
  exact decide_eq_decide.mpr (by omega)

theorem getLsbD_setFld (w : Word) (hi lo v : Nat) {i : Nat} (h : i < 32) :
    (setFld w hi lo v).getLsbD i = if lo ≤ i ∧ i ≤ hi then v.testBit (i - lo) else w.getLsbD i := by
  unfold setFld
  rw [BitVec.getLsbD_or, BitVec.getLsbD_and, BitVec.getLsbD_and, BitVec.getLsbD_not, getLsbD_fieldMask hi lo h, Word.ofNat,
    BitVec.getLsbD_ofNat, Nat.testBit_shiftLeft]
  by_cases hf : lo ≤ i ∧ i ≤ hi <;> simp [h, hf]

theorem testBit_fld (w : Word) (hi lo j : Nat) : (fld w hi lo).testBit j = (decide (j < hi + 1 - lo) && w.getLsbD (lo + j)) := by
  unfold fld bitsOf
  rw [Nat.testBit_mod_two_pow, Nat.testBit_shiftRight]
  rfl

theorem fld_setFld_same (w : Word) {hi lo v : Nat} (hh : hi < 32) (hv : v < 2 ^ (hi + 1 - lo)) : fld (setFld w hi lo v) hi lo = v := by
  apply Nat.eq_of_testBit_eq
  intro j
  rw [testBit_fld]
  by_cases hj : j < hi + 1 - lo
  · rw [getLsbD_setFld _ _ _ _ (by omega), if_pos (by omega), Nat.add_sub_cancel_left]
    simp [hj]
  · have : v < 2 ^ j := Nat.lt_of_lt_of_le hv (Nat.pow_le_pow_right (by decide) (by omega))
    simp [hj, Nat.testBit_lt_two_pow this]

theorem fld_setFld_apart (w : Word) {hi lo hi' lo' : Nat} (v : Nat) (hh : hi' < 32) (h : hi < lo' ∨ hi' < lo) :
    fld (setFld w hi lo v) hi' lo' = fld w hi' lo' := by
  apply Nat.eq_of_testBit_eq
  intro j
  rw [testBit_fld, testBit_fld]
  by_cases hj : j < hi' + 1 - lo'
  · rw [getLsbD_setFld _ _ _ _ (by omega), if_neg (by omega)]
  · simp [hj]

theorem rdF_wrF_same (c : Chip) (a : Nat) {hi lo v : Nat} (hh : hi < 32) (hv : v < 2 ^ (hi + 1 - lo)) : rdF (wrF a hi lo v c) a hi lo = v := by
  rw [rdF, wrF, rd32_wr32, fld_setFld_same _ hh hv]

theorem rdF_wrF_apart (c : Chip) (a : Nat) {hi lo hi' lo' : Nat} (v : Nat) (hh : hi' < 32) (h : hi < lo' ∨ hi' < lo) :
    rdF (wrF a hi lo v c) a hi' lo' = rdF c a hi' lo' := by
  rw [rdF, wrF, rd32_wr32, fld_setFld_apart _ _ hh h, rdF]

/-! ### A host write of a header register (R460, R462) -/

theorem pageIndex_lt (p : Page) : pageIndex p < 22 := by cases p <;> decide

theorem pageOfAddr_page (p : Page) {o : Nat} (ho : o < 0x1000) : pageOfAddr (pageBase p + o) = some p := by
  have hb := pageBase_mul p
  have hi := pageIndex_lt p
  have hdiv : (pageBase p + o) / 0x1000 = pageIndex p := by omega
  rw [pageOfAddr, if_pos (by omega), hdiv]
  cases p <;> rfl

theorem windowOfAddr_page {a : Nat} (h : a < 0x100000) : windowOfAddr a = none := by
  refine List.find?_eq_none.mpr fun w _ => ?_
  have hw : 0x100000 ≤ (windowSpan w).1 := by cases w <;> decide
  simp only [decide_eq_true_eq]
  omega

/-- A write of a header register that may act is not discarded. -/
theorem discarded_header {s : State} {v : View} {p : Page} {o : Nat} (ph : Nat) {w : Word} (hm : s.HostMay v p (pageBase p + o)) (ho : o < 0x40)
    (hv : v = .u → p ≠ .sec) (hr : outOfRange (pageBase p + o) w = false) :
    discarded (viewBar v) (pageBase p + o) w 15 (atPhase ph (opened s.chip)) = none := by
  have hb := pageBase_mul p
  have hi := pageIndex_lt p
  have hpage := pageOfAddr_page p (o := o) (by omega)
  have hwin : windowOfAddr (pageBase p + o) = none := windowOfAddr_page (by omega)
  have hown : ownerPage (pageBase p + o) = some p := by simp [ownerPage, hwin, hpage]
  have hmap : mapped (viewBar v) (pageBase p + o) = true := by
    cases v
    · simp [mapped, viewBar, hown, hpage, hv rfl]
    · simp [mapped, viewBar, hown]
  have hlive : (atPhase ph (opened s.chip)).dev ≠ .heldRestart := hm.live
  have huse : rdF (atPhase ph (opened s.chip)) Reg.SEC_LC_STAT 2 0 ≠ 4 := hm.inUse
  have hses : ¬ (viewBar v = .bar2 ∧ (atPhase ph (opened s.chip)).sec.session.isNone = true ∧ (!sessionFree (pageBase p + o)) = true) := by
    rintro ⟨hbar, hnone, hfree⟩
    rcases hm.session (by cases v <;> trivial) with h | h
    · have hnone' : s.chip.sec.session.isNone = true := hnone
      rw [Option.isNone_iff_eq_none] at hnone'
      simp [hnone'] at h
    · simp [h] at hfree
  have hout : ¬ ((!ownsOutputs (atPhase ph (opened s.chip))) = true ∧ (!anyRole p) = true) := by
    rintro ⟨hno, hrole⟩
    rcases hm.owns with h | h
    · have : ownsOutputs (atPhase ph (opened s.chip)) = true := h
      simp [this] at hno
    · simp [h] at hrole
  unfold discarded
  simp only [hlive, hmap, hown, huse, hr, hses, hout, if_false, Option.getD_some, hwin, inWindow, false_and, Bool.not_true, Bool.false_eq_true,
    reduceCtorEq, Option.isSome_none, Bool.not_false, Bool.true_and, Nat.reduceMod, ne_eq, not_true_eq_false, decide_false, Bool.false_and]

/-- What a host write of a header register does. -/
theorem hostWrite_header {s : State} {v : View} {p : Page} {o : Nat} (ph : Nat) {w : Word} (hm : s.HostMay v p (pageBase p + o)) (ho : o < 0x40)
    (h4 : o % 4 = 0) (hv : v = .u → p ≠ .sec) (hr : outOfRange (pageBase p + o) w = false) :
    hostWrite (viewBar v) (pageBase p + o) w 15 (atPhase ph (opened s.chip))
      = sendPending (settleVectors (headerWrite p o (decide (viewBar v = .bar2)) w (atPhase ph (opened s.chip)))) := by
  have hb := pageBase_mul p
  have hi := pageIndex_lt p
  have hpage := pageOfAddr_page p (o := o) (by omega)
  have hwin : windowOfAddr (pageBase p + o) = none := windowOfAddr_page (by omega)
  have hown : ownerPage (pageBase p + o) = some p := by simp [ownerPage, hwin, hpage]
  have halign : pageBase p + o - (pageBase p + o) % 4 = pageBase p + o := by omega
  have hfwd : forwarded (atPhase ph (opened s.chip)) p (pageBase p + o) = false := hm.alone
  have hoff : (pageBase p + o) % 0x1000 = o := by omega
  have hdma : ¬ (0x14100 ≤ pageBase p + o ∧ pageBase p + o < 0x14300) := by omega
  unfold hostWrite
  simp only [halign, discarded_header ph hm ho hv hr, hown, Option.getD_some, hfwd, Bool.false_eq_true, if_false]
  unfold hostAct
  simp only [hpage, hwin, hoff, ho, hdma, if_true, if_false]

/-- A command that writes a header register completes as that register's write says. -/
theorem completes_header {i : Instr} {s : State} {v : View} {p : Page} {o ph : Nat} {w : Word} {P : Chip → Prop}
    (hi : exec i s = hostPut v ph (pageBase p + o) w s) (hm : s.HostMay v p (pageBase p + o)) (ho : o < 0x40) (h4 : o % 4 = 0)
    (hv : v = .u → p ≠ .sec) (hr : outOfRange (pageBase p + o) w = false)
    (hp : ∀ t, t.still = (headerWrite p o (decide (viewBar v = .bar2)) w (atPhase ph (opened s.chip))).still →
      Untouched [secRegs, pbaRegs] (headerWrite p o (decide (viewBar v = .bar2)) w (atPhase ph (opened s.chip))) t → P t) :
    Completes i s P := by
  refine completes_onHost hi ?_
  rw [hostWrite_header ph hm ho h4 hv hr]
  have hirq := irqOnly_settled (headerWrite p o (decide (viewBar v = .bar2)) w (atPhase ph (opened s.chip)))
  have hsec := memOnly_secShow s.nv (sendPending (settleVectors (headerWrite p o (decide (viewBar v = .bar2)) w (atPhase ph (opened s.chip)))))
  refine hp _ (hsec.still.trans hirq.still) ?_
  exact (hirq.2.2.mono (by simp)).trans (hsec.2.mono (by simp))

/-- The header of every page lies apart from what every host write may change. -/
theorem header_apart_hostRegs (p : Page) {o : Nat} (ho : o + 4 ≤ 0x40) :
    ∀ r ∈ [secRegs, pbaRegs], pageBase p + o + 4 ≤ r.1 ∨ r.1 + r.2 ≤ pageBase p + o := by
  have hb := pageBase_mul p
  simp only [secRegs, pbaRegs, List.mem_cons, List.not_mem_nil, or_false, forall_eq_or_imp, forall_eq]
  omega

/-! ### What a COMMIT leaves (R22-R24) -/

/-- From `c` to `d` the queue has become `queue`, the page holds `items` pending and its COMMIT_STAT shows `st`; else only that register changed. -/
structure CommitLeaves (p : Page) (queue : List MgmtCommit) (items : List PendItem) (st : Nat) (c d : Chip) : Prop where
  queued  : d.mqueue = queue
  pending : pendOf d p = items
  shown   : rdF d (pageBase p + Reg.HDR_COMMIT_STAT) 2 0 = st
  others  : ∀ q, q ≠ p → pendOf d q = pendOf c q
  still   : d.still = { c.still with pend := d.pend, mqueue := d.mqueue }
  regs    : Untouched [(pageBase p + Reg.HDR_COMMIT_STAT, 4)] c d

theorem MemOnly.mqueue {l : List (Nat × Nat)} {c d : Chip} (h : MemOnly l c d) : d.mqueue = c.mqueue := by rw [h.1]

theorem MemOnly.pendOf_eq {l : List (Nat × Nat)} {c d : Chip} (h : MemOnly l c d) (p : Page) :
    pendOf d p = pendOf c p := by rw [h.1]; rfl

theorem memOnly_setCommitState (p : Page) (st : Nat) (b : Bool) (c : Chip) :
    MemOnly [(pageBase p + Reg.HDR_COMMIT_STAT, 4)] c (setCommitState p st b c) :=
  (memOnly_wr32 _ _ _ ⟨_, List.mem_singleton.mpr rfl, Nat.le_refl _, Nat.le_refl _⟩).trans
    (memOnly_wr32 _ _ _ ⟨_, List.mem_singleton.mpr rfl, Nat.le_refl _, Nat.le_refl _⟩)

theorem rdF_setCommitState (p : Page) {st : Nat} (h : st < 8) (b : Bool) (c : Chip) :
    rdF (setCommitState p st b c) (pageBase p + Reg.HDR_COMMIT_STAT) 2 0 = st :=
  rdF_wrF_same _ _ (by decide) h

theorem rdF_showCommit (p : Page) (c : Chip) :
    rdF (showCommit p c) (pageBase p + Reg.HDR_COMMIT_STAT) 2 0 = rdF c (pageBase p + Reg.HDR_COMMIT_STAT) 2 0 := by
  unfold showCommit
  rw [rdF_wrF_apart _ _ _ (by decide) (by decide), rdF_wrF_apart _ _ _ (by decide) (by decide)]

/-- A queue and a STATE put in place leave the pending values. -/
theorem commitLeaves_setCommitState (p : Page) {st : Nat} (h : st < 8) (b : Bool) (queue : List MgmtCommit) (c : Chip) :
    CommitLeaves p queue (pendOf c p) st c (setCommitState p st b { c with mqueue := queue }) := by
  have hm := memOnly_setCommitState p st b { c with mqueue := queue }
  exact ⟨hm.mqueue, hm.pendOf_eq p, rdF_setCommitState p h b _, fun q _ => hm.pendOf_eq q, by rw [hm.1]; rfl, hm.2⟩

section

variable {p : Page} {queue : List MgmtCommit} {items : List PendItem} {st : Nat} {c d : Chip} (h : CommitLeaves p queue items st c d)
include h

theorem commitLeaves_showCommit : CommitLeaves p queue items st c (showCommit p d) := by
  have hm := memOnly_showCommit p d
  exact ⟨hm.mqueue.trans h.queued, (hm.pendOf_eq p).trans h.pending, (rdF_showCommit p d).trans h.shown,
    fun q hq => (hm.pendOf_eq q).trans (h.others q hq), by rw [hm.1]; exact h.still, h.regs.trans hm.2⟩

/-- Replacing the pending values leaves the queue and STATE. -/
theorem commitLeaves_setPend (l : List PendItem) : CommitLeaves p queue l st c (setPend p l d) := by
  have hq : (setPend p l d).mqueue = d.mqueue := (memOnly_showCommit p _).mqueue
  refine ⟨hq.trans h.queued, ?_, (rdF_showCommit p _).trans h.shown, fun q hne => ?_, ?_, h.regs.trans (untouched_setPend p l d)⟩
  · rw [pendOf_setPend, if_pos rfl]
  · rw [pendOf_setPend, if_neg hne, h.others q hne]
  · rw [setPend_still, h.still, hq]

/-- What every host write may change besides leaves it so. -/
theorem commitLeaves_hostRegs {t : Chip} (hs : t.still = d.still) (hu : Untouched [secRegs, pbaRegs] d t) :
    t.mqueue = queue ∧ pendOf t p = items ∧ rdF t (pageBase p + Reg.HDR_COMMIT_STAT) 2 0 = st
      ∧ t.toRetained = c.toRetained ∧ (∀ q, q ≠ p → pendOf t q = pendOf c q)
      ∧ Untouched [(pageBase p + Reg.HDR_COMMIT_STAT, 4), secRegs, pbaRegs] c t := by
  have hpend : t.pend = d.pend := (congrArg Chip.pend hs :)
  have hq (q : Page) : pendOf t q = pendOf d q := by rw [pendOf, hpend, pendOf]
  refine ⟨(congrArg Chip.mqueue hs :).trans h.queued, (hq p).trans h.pending, ?_, (congrArg Chip.toRetained (hs.trans h.still) :),
    fun q hne => (hq q).trans (h.others q hne), (h.regs.mono (by simp)).trans (hu.mono (by simp))⟩
  rw [rdF, hu.rd32 _ (header_apart_hostRegs p (by decide))]
  exact h.shown

end

/-- The register memory that the COMMITs in the queue leave (R23). -/
def queuedMem (c : Chip) : Tab Byte := c.mqueue.foldl (fun m k => applyItems k.items m) c.mem

/-- The entries of the COMMITs in the queue. -/
def queuedEntries (c : Chip) : Nat := (c.mqueue.map (·.entries)).sum

/-- Neither the page's own rules nor those of the banks refuse the values. -/
def Unrefused (c : Chip) (p : Page) (items : List PendItem) : Prop :=
  pageJudge c (applyItems items (queuedMem c)) p (valueAddrs items) = none ∧ (pageNamed p = true → structJudge c (queuedMem c) items = none)

/-- Values that no rule refuses go by their size alone. -/
theorem commitItems_unrefused {c : Chip} {p : Page} {items : List PendItem} (h : Unrefused c p items) (src : CommitSrc) :
    commitItems src p items c =
      if 192 < entryCount items then (3, setCommitState p 3 false c)
      else if 2048 < queuedEntries c + entryCount items then (4, setCommitState p 4 false c)
      else (1, showCommit p (setCommitState p 1 false
        { c with mqueue := c.mqueue ++ [{ page := p, items := items, entries := entryCount items, deferred := false, src := src }] })) := by
  obtain ⟨hpage, hbank⟩ := h
  have hbank' : (if pageNamed p then structJudge c (queuedMem c) items else none) = none := by
    split
    · next hn => exact hbank hn
    · rfl
  unfold commitItems
  dsimp only
  split
  · next hrefused => exact absurd (hrefused.symm.trans hpage) nofun
  · split
    · next hrefused => exact absurd (hrefused.symm.trans hbank') nofun
    · rfl

section Sizes

variable {c : Chip} {p : Page} (h : Unrefused c p (pendOf c p))
include h

theorem commitPage_tooLarge (hn : 192 < entryCount (pendOf c p)) : CommitLeaves p c.mqueue [] 3 c (commitPage p c) := by
  simp only [commitPage, commitItems_unrefused h, if_pos hn]
  exact commitLeaves_setPend (commitLeaves_setCommitState p (by decide) false c.mqueue c) []

theorem commitPage_full (hn : entryCount (pendOf c p) ≤ 192) (hq : 2048 < queuedEntries c + entryCount (pendOf c p)) :
    CommitLeaves p c.mqueue (pendOf c p) 4 c (commitPage p c) := by
  simp only [commitPage, commitItems_unrefused h, if_neg (Nat.not_lt.mpr hn), if_pos hq]
  exact commitLeaves_setCommitState p (by decide) false c.mqueue c

theorem commitPage_queued (hn : entryCount (pendOf c p) ≤ 192) (hq : queuedEntries c + entryCount (pendOf c p) ≤ 2048) :
    CommitLeaves p (c.mqueue ++ [⟨p, pendOf c p, entryCount (pendOf c p), false, .host, 0⟩]) [] 1 c (commitPage p c) := by
  simp only [commitPage, commitItems_unrefused h, if_neg (Nat.not_lt.mpr hn), if_neg (Nat.not_lt.mpr hq)]
  exact commitLeaves_setPend (commitLeaves_showCommit (commitLeaves_setCommitState p (by decide) false _ c)) []

end Sizes

/-- A COMMIT of values that no rule refuses: what it leaves, by its size and the queue's. -/
theorem commitPage_unrefused {c : Chip} {p : Page} (h : Unrefused c p (pendOf c p)) :
    ∃ queue items st, CommitLeaves p queue items st c (commitPage p c)
      ∧ (entryCount (pendOf c p) ≤ 192 → queuedEntries c + entryCount (pendOf c p) ≤ 2048 →
          queue = c.mqueue ++ [⟨p, pendOf c p, entryCount (pendOf c p), false, .host, 0⟩] ∧ items = [] ∧ st = 1)
      ∧ (192 < entryCount (pendOf c p) → queue = c.mqueue ∧ items = [] ∧ st = 3)
      ∧ (entryCount (pendOf c p) ≤ 192 → 2048 < queuedEntries c + entryCount (pendOf c p) →
          queue = c.mqueue ∧ items = pendOf c p ∧ st = 4) := by
  by_cases hn : entryCount (pendOf c p) ≤ 192
  · by_cases hq : queuedEntries c + entryCount (pendOf c p) ≤ 2048
    · exact ⟨_, _, _, commitPage_queued h hn hq, fun _ _ => ⟨rfl, rfl, rfl⟩, fun k => absurd hn (by omega), fun _ k => absurd hq (by omega)⟩
    · exact ⟨_, _, _, commitPage_full h hn (by omega), fun _ k => absurd k hq, fun k => absurd hn (by omega), fun _ _ => ⟨rfl, rfl, rfl⟩⟩
  · exact ⟨_, _, _, commitPage_tooLarge h (by omega), fun k => absurd k hn, fun _ => ⟨rfl, rfl, rfl⟩, fun k => absurd k hn⟩

theorem outOfRange_commit (p : Page) : outOfRange (pageBase p + Reg.HDR_COMMIT) 1 = false := by cases p <;> decide

/-- Settles O26: the host's write reaches `commitPage`, which goes by the size of the values and the room of the queue. -/
theorem commitQueuesOrReports : Obligations.CommitQueuesOrReports := by
  unfold Obligations.CommitQueuesOrReports
  intro s p v ph hm hv c₀ items m₀ m total hpage hbank
  refine completes_header rfl hm (by decide) (by decide) hv (outOfRange_commit p) (fun t hs hu => ?_)
  obtain ⟨queue, left, st, hl, hqueued, hlarge, hfull⟩ := commitPage_unrefused (c := c₀) (p := p) ⟨hpage, hbank⟩
  obtain ⟨tqueue, tpend, tshown, tret, tothers, tregs⟩ := commitLeaves_hostRegs hl hs hu
  rw [tqueue, tpend, tshown]
  exact ⟨hqueued, hlarge, hfull, tret, tothers, tregs⟩

end Sys2Proof.Machine
end

section
/-!
SUPPORT. Tasks and the engines that hold them: what every operation of the scheduler makes of a task's context, of its engine and of the rest
of the part (R178, R182, R191).
-/
namespace Sys2Proof.Machine

open Sys2Proof

/-! ### What the updates of other units leave of tasks and engines -/

@[simp] theorem task_setEngine (c : Chip) (e u : Nat) (x : EngineSt) : (c.setEngine e x).task u = c.task u := rfl
@[simp] theorem engine_setTask (c : Chip) (t e : Nat) (x : TaskCtx) : (c.setTask t x).engine e = c.engine e := rfl
@[simp] theorem task_atPhase (c : Chip) (ph u : Nat) : (atPhase ph c).task u = c.task u := rfl
@[simp] theorem engine_atPhase (c : Chip) (ph e : Nat) : (atPhase ph c).engine e = c.engine e := rfl
@[simp] theorem task_regInc (c : Chip) (a u : Nat) : (regInc a c).task u = c.task u := rfl
@[simp] theorem engine_regInc (c : Chip) (a e : Nat) : (regInc a c).engine e = c.engine e := rfl

@[simp] theorem task_raiseVia (d : EvDef) (req inst ph : Nat) (ps : List Nat) (c : Chip) (u : Nat) :
    (raiseVia d req inst ph ps c).task u = c.task u := by rw [raiseVia_eq]; rfl

@[simp] theorem engine_raiseVia (d : EvDef) (req inst ph : Nat) (ps : List Nat) (c : Chip) (e : Nat) :
    (raiseVia d req inst ph ps c).engine e = c.engine e := by rw [raiseVia_eq]; rfl

@[simp] theorem cqueue_raiseVia (d : EvDef) (req inst ph : Nat) (ps : List Nat) (c : Chip) :
    (raiseVia d req inst ph ps c).cqueue = c.cqueue := by rw [raiseVia_eq]

/-! ### The engine that holds a task -/

theorem engineOf_congr {c d : Chip} (h : ∀ e, (d.engine e).task = (c.engine e).task) (t : Nat) : engineOf d t = engineOf c t := by
  simp only [engineOf, h]

theorem engineOf_setTask (c : Chip) (t u : Nat) (x : TaskCtx) : engineOf (c.setTask t x) u = engineOf c u := engineOf_congr (fun _ => rfl) u

/-- A task that an engine holds leaves it idle. -/
theorem engine_dropTask {c : Chip} {e t : Nat} (h : engineOf c t = some e) : ((dropTask t c).engine e).task = 0 := by
  simp only [dropTask, h, engine_setEngine, if_true]

/-- Dropping a task changes the engines alone. -/
theorem dropTask_eq (t : Nat) (c : Chip) : dropTask t c = { c with engines := (dropTask t c).engines } := by
  unfold dropTask
  split <;> rfl

@[simp] theorem task_dropTask (t u : Nat) (c : Chip) : (dropTask t c).task u = c.task u := by rw [dropTask_eq]; rfl

/-! ### Contexts -/

/-- The context of a task that becomes READY with a stamp (R182). -/
def readyCtx (stamp : Nat) (k : TaskCtx) : TaskCtx := { k with state := .ready, stamp := stamp, wait := none, deadline := none }

/-- The context of a task that faults at its step (R191). -/
def faultedCtx (cause : Nat) (k : TaskCtx) : TaskCtx :=
  { k with state := .faulted, cause := cause, faultPc := k.pc, wait := none, deadline := none }

/-- What makes a task ready changes its context, the engine that holds it and the count of stamps, and nothing else. -/
theorem makeReady_eq (cyc t : Nat) (c : Chip) : makeReady cyc t c =
    { c with tasks := tabPut (fun _ => {}) c.tasks t (readyCtx (stampAt c.nextStamp cyc) (c.task t)),
             engines := (dropTask t c).engines, nextStamp := c.nextStamp + 1 } := by
  unfold makeReady
  rw [dropTask_eq]
  rfl

/-- What faults a task changes its context and the engine that holds it, and reports it (R191). -/
theorem faultTask_eq (req t cause : Nat) (c : Chip) : faultTask req t cause c =
    raiseVia Event.TASK_TASK_FAULT req t c.phase [t, cause, (c.task t).pc]
      { c with tasks := tabPut (fun _ => {}) c.tasks t (faultedCtx cause (c.task t)), engines := (dropTask t c).engines } := by
  unfold faultTask
  rw [dropTask_eq]
  rfl

theorem tasks_makeReady (cyc t : Nat) (c : Chip) :
    (makeReady cyc t c).tasks = tabPut (fun _ => {}) c.tasks t (readyCtx (stampAt c.nextStamp cyc) (c.task t)) := by rw [makeReady_eq]

theorem tasks_faultTask (req t cause : Nat) (c : Chip) :
    (faultTask req t cause c).tasks = tabPut (fun _ => {}) c.tasks t (faultedCtx cause (c.task t)) := by rw [faultTask_eq, raiseVia_eq]

theorem task_of_tasks {c d : Chip} {t : Nat} {x : TaskCtx} (h : d.tasks = tabPut (fun _ => {}) c.tasks t x) (u : Nat) :
    d.task u = if u = t then x else c.task u := by
  simp only [Chip.task, h, tabGet_tabPut]

theorem task_makeReady (cyc t u : Nat) (c : Chip) :
    (makeReady cyc t c).task u = if u = t then readyCtx (stampAt c.nextStamp cyc) (c.task t) else c.task u :=
  task_of_tasks (tasks_makeReady cyc t c) u

theorem task_faultTask (req t cause u : Nat) (c : Chip) :
    (faultTask req t cause c).task u = if u = t then faultedCtx cause (c.task t) else c.task u :=
  task_of_tasks (tasks_faultTask req t cause c) u

/-- A task that becomes READY leaves its engine idle. -/
theorem engine_makeReady {c : Chip} {e t : Nat} (h : engineOf c t = some e) (cyc : Nat) : ((makeReady cyc t c).engine e).task = 0 := by
  rw [makeReady_eq]
  exact engine_dropTask h

/-- A task that faults leaves its engine idle. -/
theorem engine_faultTask {c : Chip} {e t : Nat} (h : engineOf c t = some e) (req cause : Nat) : ((faultTask req t cause c).engine e).task = 0 := by
  rw [faultTask_eq, engine_raiseVia]
  exact engine_dropTask h

@[simp] theorem cqueue_makeReady (cyc t : Nat) (c : Chip) : (makeReady cyc t c).cqueue = c.cqueue := by rw [makeReady_eq]

@[simp] theorem cqueue_faultTask (req t cause : Nat) (c : Chip) : (faultTask req t cause c).cqueue = c.cqueue := by
  rw [faultTask_eq, cqueue_raiseVia]

/-- Past the last step there is no step to resume at: the task faults with BAD_TARGET (R176). -/
theorem resumeAt_past {t pc : Nat} {c : Chip} (h : 131071 < pc) : resumeAt t pc c = faultTask (reqSE 0) t 2 c := if_pos h

/-- Whether the task that the wake pass resumes goes on or faults, no other task changes. -/
theorem task_resumeAt_other {t u : Nat} (h : u ≠ t) (pc : Nat) (c : Chip) : (resumeAt t pc c).task u = c.task u := by
  unfold resumeAt
  split
  · simp [task_faultTask, h]
  · simp [task_makeReady, h]

/-! ### The tables behind them -/

theorem filter_tabKeys_tabDel {α : Type} {p : Nat → Bool} {k : Nat} (hp : p k = false) (t : Tab α) :
    (tabKeys (tabDel t k)).filter p = (tabKeys t).filter p := by
  induction t with
  | nil => rfl
  | cons e t ih =>
    obtain ⟨a, v⟩ := e
    by_cases h : a = k
    · subst h
      simpa [tabDel, tabKeys, hp] using ih
    · have ih' : (tabKeys (tabDel t k)).filter p = (tabKeys t).filter p := ih
      simp only [tabDel, tabKeys, ne_eq, h, not_false_eq_true, decide_true, List.filter_cons_of_pos, List.map_cons, List.filter_cons] at ih' ⊢
      rw [ih']

theorem filter_tabKeys_tabIns {α : Type} {p : Nat → Bool} {k : Nat} (hp : p k = false) (v : α) (t : Tab α) :
    (tabKeys (tabIns k v t)).filter p = (tabKeys t).filter p := by
  induction t with
  | nil => simp [tabIns, tabKeys, hp]
  | cons e t ih =>
    obtain ⟨a, x⟩ := e
    have ih' : (tabKeys (tabIns k v t)).filter p = (tabKeys t).filter p := ih
    unfold tabIns
    split
    · simp only [tabKeys, List.map_cons, List.filter_cons] at ih' ⊢
      rw [ih']
    · split
      · next h => simp [tabKeys, h]
      · simp [tabKeys, hp]

/-- Writing one number of a table lists no other, and takes none off the list. -/
theorem filter_tabKeys_tabPut {α : Type} [DecidableEq α] {p : Nat → Bool} {k : Nat} (hp : p k = false) (d : Nat → α) (t : Tab α) (v : α) :
    (tabKeys (tabPut d t k v)).filter p = (tabKeys t).filter p := by
  unfold tabPut
  split
  · exact filter_tabKeys_tabDel hp t
  · exact filter_tabKeys_tabIns hp v t

/-- What differs from the content of an unlisted number is listed. -/
theorem mem_tabKeys_of_tabGet_ne {α : Type} {d : Nat → α} {t : Tab α} {k : Nat} (h : tabGet d t k ≠ d k) : k ∈ tabKeys t := by
  induction t with
  | nil => exact absurd rfl h
  | cons e t ih =>
    obtain ⟨a, v⟩ := e
    by_cases hak : a = k
    · exact List.mem_cons.mpr (.inl hak.symm)
    · refine List.mem_cons_of_mem _ (ih ?_)
      simpa [tabGet, tabFind, hak] using h

theorem mem_taskList {c : Chip} {t : Nat} (h : (c.task t).state ≠ .dormant) (h1 : 1 ≤ t) (h2 : t ≤ 255) : t ∈ taskList c := by
  have hk : t ∈ tabKeys c.tasks := mem_tabKeys_of_tabGet_ne (d := fun _ => ({} : TaskCtx)) (fun he => h (congrArg TaskCtx.state he))
  simp [taskList, hk, h1, h2]

end Sys2Proof.Machine
end

section
/-!
SUPPORT. The wake pass (R171, R173, R183): what happens to the blocked and to the delayed tasks changes nothing that a task waiting for a condition
depends on, so each of those is judged as the part stood before the pass; and the evaluations change one task each.
-/
namespace Sys2Proof.Machine

open Sys2Proof

/-! ### Tasks that wait for a condition -/

/-- Whether a task waits for anything but a delay: a signal, a flag or the end of a move. -/
def awaitsCondition (k : TaskCtx) : Bool :=
  decide (k.state = .waiting) && (match k.wait with | some (.delay _) => false | _ => true)

theorem awaitsCondition_of_not_waiting {k : TaskCtx} (h : k.state ≠ .waiting) : awaitsCondition k = false := by
  simp [awaitsCondition, h]

theorem awaitsCondition_of_delayDue {c : Chip} {t : Nat} (h : delayDue c t = true) : awaitsCondition (c.task t) = false := by
  unfold delayDue at h
  unfold awaitsCondition
  split <;> simp_all

theorem awaitsCondition_of_judged {k : TaskCtx} (hs : k.state = .waiting) (hj : judgedWait k.wait = true) : awaitsCondition k = true := by
  unfold awaitsCondition
  split
  · next hw => simp [hw, judgedWait] at hj
  · simp [hs]

/-- From `c` to `d` the tasks that wait for a condition, and what their conditions read, stay as they are, and none comes to wait. -/
structure KeepsWaits (c d : Chip) : Prop where
  tick    : d.tick = c.tick
  flags   : d.flags = c.flags
  settled : d.settled = c.settled
  tasks   : ∀ t, awaitsCondition (c.task t) = true → d.task t = c.task t
  others  : ∀ t, awaitsCondition (c.task t) = false → awaitsCondition (d.task t) = false
  listed  : (taskList d).filter (fun t => awaitsCondition (d.task t)) = (taskList c).filter (fun t => awaitsCondition (c.task t))

theorem KeepsWaits.awaits {c d : Chip} (h : KeepsWaits c d) (t : Nat) : awaitsCondition (d.task t) = awaitsCondition (c.task t) := by
  cases k : awaitsCondition (c.task t)
  · exact h.others t k
  · rw [h.tasks t k, k]

theorem KeepsWaits.refl (c : Chip) : KeepsWaits c c := ⟨rfl, rfl, rfl, fun _ _ => rfl, fun _ h => h, rfl⟩

theorem KeepsWaits.trans {c d e : Chip} (h : KeepsWaits c d) (k : KeepsWaits d e) : KeepsWaits c e where
  tick := k.tick.trans h.tick
  flags := k.flags.trans h.flags
  settled := k.settled.trans h.settled
  tasks t ht := (k.tasks t ((h.awaits t).trans ht)).trans (h.tasks t ht)
  others t ht := k.others t (h.others t ht)
  listed := k.listed.trans h.listed

theorem keepsWaits_atPhase (ph : Nat) (c : Chip) : KeepsWaits c (atPhase ph c) := ⟨rfl, rfl, rfl, fun _ _ => rfl, fun _ h => h, rfl⟩

/-- A new context for one task, which waits for no condition before or after, keeps what the others wait for. -/
theorem keepsWaits_put {c d : Chip} {t : Nat} {x : TaskCtx} (ht : awaitsCondition (c.task t) = false) (hx : awaitsCondition x = false)
    (hd : d.tasks = tabPut (fun _ => {}) c.tasks t x) (htick : d.tick = c.tick) (hflags : d.flags = c.flags) (hsettled : d.settled = c.settled) :
    KeepsWaits c d := by
  have hu (u : Nat) : u ≠ t → d.task u = c.task u := fun h => by rw [task_of_tasks hd, if_neg h]
  have hnone : awaitsCondition (d.task t) = false := by rw [task_of_tasks hd, if_pos rfl, hx]
  have hsame (u : Nat) : awaitsCondition (d.task u) = awaitsCondition (c.task u) := by
    by_cases h : u = t
    · rw [h, hnone, ht]
    · rw [hu u h]
  refine ⟨htick, hflags, hsettled, fun u h => hu u (fun e => ?_), fun u h => (hsame u).trans h, ?_⟩
  · rw [e, ht] at h
    exact absurd h nofun
  · simp only [hsame, taskList, List.filter_filter, hd]
    exact filter_tabKeys_tabPut (by simp [ht]) _ _ _

theorem KeepsWaits.forAll {c : Chip} (l : List Nat) (f : Nat → Chip → Chip) (hf : ∀ t ∈ l, ∀ d, KeepsWaits c d → KeepsWaits d (f t d)) :
    ∀ d, KeepsWaits c d → KeepsWaits c (forAll l f d) := by
  induction l with
  | nil => exact fun d h => h
  | cons t l ih =>
    exact fun d h => ih (fun u hu => hf u (List.mem_cons_of_mem _ hu)) _ (h.trans (hf t (List.mem_cons_self ..) d h))

theorem keepsWaits_makeReady {c : Chip} {t : Nat} (cyc : Nat) (h : awaitsCondition (c.task t) = false) : KeepsWaits c (makeReady cyc t c) :=
  keepsWaits_put h (awaitsCondition_of_not_waiting (TaskState.noConfusion ·)) (tasks_makeReady cyc t c) (by rw [makeReady_eq]) (by rw [makeReady_eq])
    (by rw [makeReady_eq])

theorem keepsWaits_faultTask {c : Chip} {t : Nat} (req cause : Nat) (h : awaitsCondition (c.task t) = false) :
    KeepsWaits c (faultTask req t cause c) :=
  keepsWaits_put h (awaitsCondition_of_not_waiting (TaskState.noConfusion ·)) (tasks_faultTask req t cause c) (by rw [faultTask_eq, raiseVia_eq])
    (by rw [faultTask_eq, raiseVia_eq]) (by rw [faultTask_eq, raiseVia_eq])

theorem keepsWaits_resumeAt {c : Chip} {t : Nat} (pc : Nat) (h : awaitsCondition (c.task t) = false) : KeepsWaits c (resumeAt t pc c) := by
  have hpc : KeepsWaits c (c.setTask t { c.task t with pc := pc }) := keepsWaits_put (x := { c.task t with pc := pc }) h h rfl rfl rfl rfl
  unfold resumeAt
  split
  · exact keepsWaits_faultTask _ _ h
  · exact hpc.trans (keepsWaits_makeReady 0 (hpc.others t h))

theorem keepsWaits_delayExpiry (t : Nat) (c : Chip) : KeepsWaits c (delayExpiry t c) := by
  unfold delayExpiry
  split
  · next h => exact (keepsWaits_atPhase _ c).trans (keepsWaits_resumeAt _ (awaitsCondition_of_delayDue h))
  · exact KeepsWaits.refl c

/-! ### A condition is judged alike -/

theorem foldl_congr_on {α β : Type} {f g : Option β → α → Option β} (S : Option β → Prop) (R : α → Prop)
    (hs : ∀ o a, S o → R a → S (f o a)) (hfg : ∀ o a, S o → R a → f o a = g o a) :
    ∀ (l : List α) (o : Option β), (∀ a ∈ l, R a) → S o → l.foldl f o = l.foldl g o := by
  intro l
  induction l with
  | nil => exact fun _ _ _ => rfl
  | cons a l ih =>
    intro o hl ho
    have ha := hl a (List.mem_cons_self ..)
    rw [List.foldl_cons, List.foldl_cons, ← hfg o a ho ha]
    exact ih _ (fun b hb => hl b (List.mem_cons_of_mem _ hb)) (hs o a ho ha)

/-- The tasks that wait to take flag `f` (R174). -/
def flagTakers (c : Chip) (f : Nat) : List Nat := (taskList c).filter (fun t =>
  decide ((c.task t).state = .waiting) && decide ((c.task t).wait = some (.event f true)) && decide (waitAge c (c.task t) ≠ 0))

theorem awaitsCondition_of_mem_flagTakers {c : Chip} {f t : Nat} (h : t ∈ flagTakers c f) : awaitsCondition (c.task t) = true := by
  simp only [flagTakers, List.mem_filter, Bool.and_eq_true, decide_eq_true_eq] at h
  obtain ⟨-, ⟨hs, hw⟩, -⟩ := h
  simp [awaitsCondition, hs, hw]

theorem KeepsWaits.waitAge_eq {c d : Chip} (h : KeepsWaits c d) (k : TaskCtx) : waitAge d k = waitAge c k := by
  simp only [waitAge, h.tick]

theorem KeepsWaits.flagTakers_eq {c d : Chip} (h : KeepsWaits c d) (f : Nat) : flagTakers d f = flagTakers c f := by
  have hsub (x : Chip) : flagTakers x f = ((taskList x).filter (fun t => awaitsCondition (x.task t))).filter (fun t =>
      decide ((x.task t).state = .waiting) && decide ((x.task t).wait = some (.event f true)) && decide (waitAge x (x.task t) ≠ 0)) := by
    rw [List.filter_filter]
    refine List.filter_congr (fun t ht => ?_)
    by_cases hs : (x.task t).state = .waiting
    · by_cases hw : (x.task t).wait = some (.event f true)
      · simp [awaitsCondition, hs, hw]
      · simp [hw]
    · simp [hs]
  rw [hsub d, hsub c, h.listed]
  refine List.filter_congr (fun t ht => ?_)
  rw [h.tasks t (List.mem_filter.mp ht).2, h.waitAge_eq]

theorem KeepsWaits.flagWinner_eq {c d : Chip} (h : KeepsWaits c d) (f : Nat) : flagWinner d f = flagWinner c f := by
  have hl := h.flagTakers_eq f
  unfold flagTakers at hl
  unfold flagWinner
  dsimp only
  rw [hl]
  refine (foldl_congr_on (fun o => ∀ b ∈ o, awaitsCondition (c.task b) = true) (fun t => awaitsCondition (c.task t) = true) ?_ ?_ _ none
    (fun t ht => awaitsCondition_of_mem_flagTakers (f := f) ht) (fun _ hb => absurd hb nofun)).symm
  · intro o t ho ht
    cases o with
    | none => simpa using ht
    | some b =>
      dsimp only
      split
      · simpa using ht
      · exact ho
  · intro o t ho ht
    cases o with
    | none => rfl
    | some b => simp only [h.tasks t ht, h.tasks b (ho b rfl), h.waitAge_eq]

theorem KeepsWaits.watch_eq {c d : Chip} (h : KeepsWaits c d) (t : Nat) (k : TaskCtx) : watch d t k = watch c t k := by
  have hsig (i : Nat) : settledRd d i = settledRd c i := by simp only [settledRd, h.settled]
  have hflag (f : Nat) : d.flag f = c.flag f := by simp only [Chip.flag, h.flags]
  unfold watch
  split
  · simp only [hsig]
  · simp only [hflag, h.flagWinner_eq]
  · rfl
  · rfl

/-! ### The pass, up to the evaluations -/

/-- The part where the wake pass has made ready the tasks that are no longer blocked, and those whose delay has run out (R183). -/
def beforeEvaluation (c : Chip) : Chip :=
  let c := atPhase 0 c
  let c := forAll ((taskList c).filter (fun t => decide ((c.task t).state = .blocked) && released c t)) (makeReady 0) c
  forAll (((taskList c).filter (delayDue c)).foldl (fun l t => insertWake c t l) []) delayExpiry c

theorem wakePass_eq {c : Chip} (h : roleCode c ≠ 4) :
    wakePass c = atPhase 0 (forAll (taskList (beforeEvaluation c)) (evaluate (beforeEvaluation c)) (beforeEvaluation c)) := if_neg h

theorem keepsWaits_beforeEvaluation (c : Chip) : KeepsWaits c (beforeEvaluation c) := by
  refine KeepsWaits.forAll _ _ (fun t _ d _ => keepsWaits_delayExpiry t d) _ ?_
  refine KeepsWaits.forAll _ _ (fun t ht d hd => keepsWaits_makeReady 0 (hd.others t ?_)) _ (keepsWaits_atPhase 0 c)
  have hb : (c.task t).state = .blocked := of_decide_eq_true (Bool.and_eq_true_iff.mp (List.mem_filter.mp ht).2).1
  exact awaitsCondition_of_not_waiting (by rw [hb]; nofun)

/-! ### The evaluations -/

theorem tick_resumeAt (t pc : Nat) (c : Chip) : (resumeAt t pc c).tick = c.tick := by
  unfold resumeAt
  split
  · rw [faultTask_eq, raiseVia_eq]
  · rw [makeReady_eq]; rfl

/-- An evaluation changes the context of its own task alone, and not the tick. -/
theorem evaluate_other (c₀ : Chip) {t u : Nat} (h : u ≠ t) (c : Chip) :
    (evaluate c₀ t c).task u = c.task u ∧ (evaluate c₀ t c).tick = c.tick := by
  have resumed (d : Chip) (pc : Nat) (hd : d.task u = c.task u ∧ d.tick = c.tick) :
      (resumeAt t pc d).task u = c.task u ∧ (resumeAt t pc d).tick = c.tick :=
    ⟨(task_resumeAt_other h pc d).trans hd.1, (tick_resumeAt t pc d).trans hd.2⟩
  unfold evaluate
  dsimp only
  split
  · exact ⟨rfl, rfl⟩
  · split
    · exact ⟨rfl, rfl⟩
    · split
      · exact resumed _ _ ⟨rfl, rfl⟩
      · exact ⟨by simp [task_faultTask, h], by rw [faultTask_eq, raiseVia_eq]; rfl⟩
    · exact ⟨rfl, rfl⟩
    · split
      · refine resumed _ _ ?_
        split <;> exact ⟨rfl, rfl⟩
      · split
        · exact resumed _ _ ⟨by simp [raiseEv], by rw [raiseEv_eq]; rfl⟩
        · exact ⟨by simp [h], rfl⟩

theorem evaluate_idle (c₀ : Chip) {t : Nat} {c : Chip} (h : (c.task t).state ≠ .waiting) : evaluate c₀ t c = c := if_pos (.inl h)

/-- A task that does not wait stays as it is through the evaluations. -/
theorem task_forAll_evaluate_idle (c₀ : Chip) {u : Nat} (l : List Nat) (c : Chip) (h : (c.task u).state ≠ .waiting) :
    (forAll l (evaluate c₀) c).task u = c.task u := by
  induction l generalizing c with
  | nil => rfl
  | cons t l ih =>
    have hsame : (evaluate c₀ t c).task u = c.task u := by
      by_cases ht : u = t
      · rw [ht] at h ⊢
        rw [evaluate_idle c₀ h]
      · exact (evaluate_other c₀ ht c).1
    exact (ih (evaluate c₀ t c) (by rw [hsame]; exact h)).trans hsame

/-- A listed task whose evaluation ends its wait has the context that this evaluation gives it. -/
theorem task_forAll_evaluate (c₀ : Chip) {u tick : Nat} {k x : TaskCtx} (hx : x.state ≠ .waiting)
    (he : ∀ d : Chip, d.task u = k → d.tick = tick → (evaluate c₀ u d).task u = x) (l : List Nat) (c : Chip) (hu : u ∈ l)
    (hk : c.task u = k) (htick : c.tick = tick) : (forAll l (evaluate c₀) c).task u = x := by
  induction l generalizing c with
  | nil => exact absurd hu List.not_mem_nil
  | cons t l ih =>
    by_cases ht : u = t
    · have hu' := he c hk htick
      rw [← ht]
      exact (task_forAll_evaluate_idle c₀ l (evaluate c₀ u c) (by rw [hu']; exact hx)).trans hu'
    · obtain ⟨hsame, hsameTick⟩ := evaluate_other c₀ ht c
      exact ih (evaluate c₀ t c) ((List.mem_cons.mp hu).resolve_left ht) (hsame.trans hk) (hsameTick.trans htick)

/-- The wake pass gives a task that waits for a condition the context that its evaluation gives it, where this ends the wait. -/
theorem task_wakePass {c : Chip} {u : Nat} {x : TaskCtx} (hr : roleCode c ≠ 4) (hw : awaitsCondition (c.task u) = true) (h1 : 1 ≤ u) (h2 : u ≤ 255)
    (hx : x.state ≠ .waiting)
    (he : ∀ c₀ d : Chip, KeepsWaits c c₀ → d.task u = c.task u → d.tick = c.tick → (evaluate c₀ u d).task u = x) : (wakePass c).task u = x := by
  have hkeep := keepsWaits_beforeEvaluation c
  have hk := hkeep.tasks u hw
  have hlive : ((beforeEvaluation c).task u).state ≠ .dormant := by
    have hwait : (c.task u).state = .waiting := of_decide_eq_true (Bool.and_eq_true_iff.mp hw).1
    rw [hk, hwait]
    nofun
  rw [wakePass_eq hr, task_atPhase]
  exact task_forAll_evaluate _ hx (fun d => he _ d hkeep) _ _ (mem_taskList hlive h1 h2) hk hkeep.tick

/-! ### Resuming past the last step (R176) -/

theorem task_resumeAt_past {t pc : Nat} {c : Chip} (h : 131071 < pc) : (resumeAt t pc c).task t = faultedCtx 2 (c.task t) := by
  rw [resumeAt_past h, task_faultTask, if_pos rfl]

theorem task_delayExpiry_past {t : Nat} {c : Chip} (hd : delayDue c t = true) (h : (c.task t).pc = 131071) :
    (delayExpiry t c).task t = faultedCtx 2 (c.task t) := by
  rw [delayExpiry, if_pos hd]
  exact task_resumeAt_past (by omega)

/-- The flag that a wait which consumes it clears, where the wait has its success (R174). -/
def flagConsumed (w : Option Wait) (c : Chip) : Chip :=
  match w with
  | some (.event f true) => consumeFlag f c
  | _ => c

@[simp] theorem task_flagConsumed (w : Option Wait) (c : Chip) (u : Nat) : (flagConsumed w c).task u = c.task u := by
  unfold flagConsumed
  split <;> rfl

section Evaluate

variable {c₀ d : Chip} {u : Nat} {k : TaskCtx} (hk : d.task u = k) (hs : k.state = .waiting) (ha : waitAge d k ≠ 0)
include hk hs ha

/-- A move that has ended well lets its task go on at the next step (R169), and past the last there is none. -/
theorem task_evaluate_moved {m : Nat} {q : Option Nat} (hw : k.wait = some (.move m q (some 1))) (h : k.pc = 131071) :
    (evaluate c₀ u d).task u = faultedCtx 2 k := by
  have he : evaluate c₀ u d = resumeAt u (k.pc + 1) (atPhase (watcherPhase u) d) := by simp [evaluate, hk, hs, ha, hw]
  rw [he, task_resumeAt_past (by omega), task_atPhase, hk]

/-- The evaluation of a wait for a signal or a flag: success, timeout, or a wait that goes on (R171). -/
theorem evaluate_judged (hj : judgedWait k.wait = true) : evaluate c₀ u d =
    if (watch c₀ u k).1 then resumeAt u (k.pc + 2) (flagConsumed k.wait (atPhase (watcherPhase u) d))
    else if timedOut d k then resumeAt u (k.pc + 1) (raiseEv Event.TASK_WAIT_TIMEOUT u [u, k.pc] (atPhase (watcherPhase u) d))
    else (atPhase (watcherPhase u) d).setTask u { k with wait := (watch c₀ u k).2 } := by
  unfold evaluate
  dsimp only
  have hgoes : ¬ (k.state ≠ .waiting ∨ waitAge d k = 0) := fun h => h.elim (fun hn => hn hs) ha
  rw [hk, if_neg hgoes]
  split
  · next hw => simp [hw, judgedWait] at hj
  · next hw => simp [hw, judgedWait] at hj
  · next hw => simp [hw, judgedWait] at hj
  · rfl

/-- Where the condition holds there is no step past the last but one to go on at. -/
theorem task_evaluate_holds (hj : judgedWait k.wait = true) (hw : (watch c₀ u k).1 = true) (h : 131070 ≤ k.pc) :
    (evaluate c₀ u d).task u = faultedCtx 2 k := by
  rw [evaluate_judged hk hs ha hj, if_pos hw, task_resumeAt_past (by omega), task_flagConsumed, task_atPhase, hk]

/-- Where it does not and the time has run out, there is none past the last. -/
theorem task_evaluate_timedOut (hj : judgedWait k.wait = true) (hw : (watch c₀ u k).1 = false) (ht : timedOut d k = true) (h : k.pc = 131071) :
    (evaluate c₀ u d).task u = faultedCtx 2 k := by
  rw [evaluate_judged hk hs ha hj, if_neg (Bool.eq_false_iff.mp hw), if_pos ht, task_resumeAt_past (by omega), raiseEv, task_raiseVia,
    task_atPhase, hk]

end Evaluate

end Sys2Proof.Machine
end

section
/-!
SUPPORT. The step engines (R166-R176): a step that an engine may carry out comes down to its action, on the part at the step's boundary with the
step counted; and what each action makes of the task, of its engine and of the queues.
-/
namespace Sys2Proof.Machine

open Sys2Proof

/-! ### Operand fields -/

theorem fld_lt (w : Word) (hi lo : Nat) : fld w hi lo < 2 ^ (hi + 1 - lo) := Nat.mod_lt _ (Nat.two_pow_pos _)

theorem fld_eq_zero {w : Word} {lo : Nat} (hi : Nat) (h : w.toNat < 2 ^ lo) : fld w hi lo = 0 := by
  simp [fld, bitsOf, Nat.shiftRight_eq_div_pow, Nat.div_eq_of_lt h]

theorem fld_low {w : Word} {hi : Nat} (h : w.toNat < 2 ^ (hi + 1)) : fld w hi 0 = w.toNat := by
  simpa [fld, bitsOf] using Nat.mod_eq_of_lt h

theorem wbit_eq_false {w : Word} {i : Nat} (h : w.toNat < 2 ^ i) : wbit w i = false := Nat.testBit_lt_two_pow h

/-! ### The actions, their operands being in order (R167-R176) -/

section Operands

variable {w : StepWord} (h2 : w.w2 = 0) (h3 : w.w3 = 0)
include h3

theorem actRamp_eq (ha : w.a < 0x800) (hr : 0 ≤ w.w2.toInt) : actRamp w = .stage (.setpoint w.a w.w1 w.w2) false := by
  simp [actRamp, h3, Nat.not_le.mpr ha, Int.not_lt.mpr hr]

theorem actValve_eq (ha : w.a < 2) : actValve w = .stage (.valve (decide (w.a = 1)) w.w1 w.w2) false := by
  simp [actValve, h3, Nat.not_le.mpr ha]

include h2

theorem actSet_eq (ha : w.a < 0x800) : actSet w = .stage (.setpoint w.a w.w1 0) false := by
  simp [actSet, h2, h3, Nat.not_le.mpr ha]

theorem actMode_eq (ha : w.a < 0x800) (h1 : w.w1.toNat < 7) : actMode w = .stage (.mode w.a w.w1.toNat) false := by
  have hlow : fld w.w1 2 0 = w.w1.toNat := fld_low (by omega)
  simp [actMode, h2, h3, Nat.not_le.mpr ha, fld_eq_zero 31 (w := w.w1) (lo := 3) (by omega), hlow, Nat.ne_of_lt h1]

theorem actDelay_eq (ha : w.a = 0) : actDelay w = .delay w.w1.toNat := by simp [actDelay, h2, h3, ha]

theorem actDelay_zero (ha : w.a = 0) (h1 : w.w1 = 0) : actDelay w = .delay 0 := by rw [actDelay_eq h2 h3 ha, h1]; rfl

theorem actSignal_eq (ha : w.a < 0x100) (h1 : w.w1.toNat < 2) : actSignal w = .stage (.flag w.a (!wbit w.w1 0)) false := by
  simp [actSignal, h2, h3, Nat.not_le.mpr ha, fld_eq_zero 31 (w := w.w1) (lo := 1) h1]

theorem actFork_eq (t : Nat) (ha : w.a ≠ 0) (ha' : w.a < 0x100) (h1 : fld w.w1 31 23 = 0) :
    actFork t w = .stage (.fork w.a (if wbit w.w1 17 then none else some (fld w.w1 16 0, fld w.w1 22 18)) t) false := by
  simp [actFork, h1, h2, h3, ha, Nat.not_le.mpr ha']

theorem actCapture_eq (ph : Nat) (ha : w.a < 0x10) (h1 : w.w1.toNat < 4) (h0 : w.w1 ≠ 0) :
    actCapture ph w = .stage (.capture w.a w.w1.toNat ph) false := by
  have hlow : fld w.w1 1 0 = w.w1.toNat := fld_low (by omega)
  have hne : w.w1.toNat ≠ 0 := fun h => h0 (BitVec.eq_of_toNat_eq h)
  simp [actCapture, h2, h3, Nat.not_le.mpr ha, fld_eq_zero 31 (w := w.w1) (lo := 2) h1, hlow, hne]

theorem actCall_eq (depth : Nat) (ha : w.a = 0) (h1 : w.w1.toNat < 0x20000) :
    actCall depth w = if 8 ≤ depth then .fault 3 else .call w.w1.toNat := by
  have hlow : fld w.w1 16 0 = w.w1.toNat := fld_low h1
  simp [actCall, h2, h3, ha, fld_eq_zero 31 (w := w.w1) (lo := 17) h1, hlow]

theorem actReturn_eq (depth : Nat) (ha : w.a = 0) (h1 : w.w1 = 0) : actReturn depth w = if depth = 0 then .fault 4 else .ret := by
  simp [actReturn, h1, h2, h3, ha]

theorem actReturn_push {stack below : List Nat} {ret : Nat} (ha : w.a = 0) (h1 : w.w1 = 0) (hs : stack = below ++ [ret]) :
    actReturn stack.length w = .ret := by
  rw [actReturn_eq h2 h3 _ ha h1, if_neg (by simp [hs])]

theorem actJump_eq (ha : w.a = 0) (h1 : w.w1.toNat < 0x20000) : actJump w = .jump w.w1.toNat := by
  have hlow : fld w.w1 16 0 = w.w1.toNat := fld_low h1
  simp [actJump, h2, h3, ha, fld_eq_zero 31 (w := w.w1) (lo := 17) h1, hlow]

theorem actMark_eq (ha : w.a = 0) : actMark w = .mark w.w1 := by simp [actMark, h2, h3, ha]

theorem actEnd_eq (ha : w.a = 0) (h1 : w.w1 = 0) : actEnd w = .done := by simp [actEnd, h1, h2, h3, ha]

end Operands

/-- A MOVE that does not wait for its end. -/
theorem actMove_eq (t : Nat) {w : StepWord} (ha : w.a < 0x80) (h1 : w.w1.toNat < 2) :
    actMove t w = .stage (.move w.a (wbit w.w1 0) (moveTarget w) none) false := by
  have hbit : wbit w.w1 1 = false := wbit_eq_false h1
  simp [actMove, Nat.not_le.mpr ha, fld_eq_zero 31 (w := w.w1) (lo := 2) (by omega), hbit]

theorem actWaitEvent_eq {w : StepWord} (ha : bitsOf w.a 13 8 = 0) (h1 : w.w1.toNat < 2) (h2 : w.w2 = 0) (h3 : fld w.w3 15 0 = 0) :
    actWaitEvent w = .await (.event (bitsOf w.a 7 0) (wbit w.w1 0)) (fld w.w3 31 16 * 16 ^ bitsOf w.a 15 14) := by
  simp [actWaitEvent, ha, h2, h3, fld_eq_zero 31 (w := w.w1) (lo := 1) h1]

theorem actBranch_eq {c : Chip} {w : StepWord} {b : Bool} (pc : Nat) (h1 : fld w.w1 31 21 = 0) (hb : branchCond c w = some b)
    (h5 : ¬ (fld w.w1 19 17 = 5 ∧ w.a = 0)) : actBranch c pc w = .jump (if b != wbit w.w1 20 then fld w.w1 16 0 else pc + 1) := by
  simp [actBranch, h1, hb, h5]

/-- RETURN leads to the last address pushed. -/
theorem actNext_ret (pc : Nat) (below : List Nat) (ret : Nat) : actNext pc (below ++ [ret]) .ret = ret :=
  congrArg (·.getD 0) List.getLast?_concat

/-- The step after the last one is past it. -/
theorem past_last {pc : Nat} (h : pc = 131071) : 131071 < pc + 1 := by omega

/-! ### The step at its boundary -/

/-- The part at the boundary of the step that engine `e` may carry out. -/
def atBoundary (s : State) (e : Nat) : Chip := atPhase (boundary s e / 2) (atPhase (stepStart s.chip e / 2) (opened s.chip))

/-- That part with the step counted in its task, and the engine free from the boundary on. -/
def counted (s : State) (e t : Nat) : Chip :=
  engineTo e (boundary s e) ((atBoundary s e).setTask t { s.chip.task t with steps := satInc 32 (s.chip.task t).steps })

theorem task_counted (s : State) (e t : Nat) : (counted s e t).task t = { s.chip.task t with steps := satInc 32 (s.chip.task t).steps } :=
  (task_setTask (atBoundary s e) t t _).trans (if_pos rfl)

theorem engine_counted (s : State) (e t : Nat) : (counted s e t).engine e = { s.chip.engine e with free := boundary s e } :=
  (engine_setEngine _ e e _).trans (if_pos rfl)

theorem engineOf_counted (s : State) (e t : Nat) : engineOf (counted s e t) t = engineOf s.chip t := by
  refine engineOf_congr (fun k => ?_) t
  by_cases h : k = e
  · rw [h, engine_counted]
  · exact congrArg EngineSt.task ((engine_setEngine _ e k _).trans (if_neg h))

theorem cqueue_counted (s : State) (e t : Nat) : (counted s e t).cqueue = s.chip.cqueue := rfl

/-- Where an engine may carry out a step that stages no entry, what it does is the step's action, on the part at the step's boundary. -/
theorem engineStep_eq {s : State} {e t op : Nat} {w : StepWord} {a : StepAct} (h : s.AtStep e t w) (ha : stepAct (atBoundary s e) t op w = a)
    (hs : actStages a = false) :
    engineStep e op w (opened s.chip) = atPhase (stepStart s.chip e / 2) (doAct e (boundary s e) t w a (atBoundary s e)) := by
  obtain ⟨⟨htask, ht, -⟩, ⟨hopen, hstart⟩, hfree, -⟩ := h
  have hmay : mayStep (opened s.chip) e = true := by
    have hne : (s.chip.engine e).task ≠ 0 := by rw [htask]; exact ht
    simp only [mayStep, Bool.and_eq_true, decide_eq_true_eq]
    exact ⟨⟨hne, hopen⟩, hstart⟩
  have hblock : (if w.tagEn then blockingGuard (atPhase (stepStart (opened s.chip) e / 2) (opened s.chip)) w.tag else none) = none := by
    split
    · next hw => exact hfree hw
    · rfl
  have htask' : ((opened s.chip).engine e).task = t := htask
  unfold engineStep
  simp only [hmay, not_true_eq_false, if_false, hblock, htask']
  have ha' : stepAct (atPhase ((stepStart (opened s.chip) e + 8) / 2) (atPhase (stepStart (opened s.chip) e / 2) (opened s.chip))) t op w = a := ha
  rw [ha', if_neg (by simp [hs])]
  rfl

theorem stepAct_eq {s : State} {e t op : Nat} {w : StepWord} (h : s.AtStep e t w) : stepAct (atBoundary s e) t op w =
    if 131071 < actNext (s.chip.task t).pc (s.chip.task t).stack (actOf (atBoundary s e) t op w) then .fault 2 else actOf (atBoundary s e) t op w := by
  simp only [stepAct, h.bits, Bool.false_eq_true, if_false]
  rfl

/-! ### The actions, on the step counted -/

section OnCounted

variable (s : State) (e t : Nat) (w : StepWord)

theorem doAct_fault (cause : Nat) : doAct e (boundary s e) t w (.fault cause) (atBoundary s e) = faultTask (reqSE e) t cause (counted s e t) := rfl

/-- The part with the task at its next step, this one counted. -/
def advanced : Chip := (counted s e t).setTask t { (counted s e t).task t with pc := (s.chip.task t).pc + 1 }

theorem doAct_delay_zero : doAct e (boundary s e) t w (.delay 0) (atBoundary s e) = makeReady (boundary s e) t (advanced s e t) := rfl

theorem doAct_delay_succ (n : Nat) : doAct e (boundary s e) t w (.delay (n + 1)) (atBoundary s e) =
    waitTask t w (.delay (tickAdd s.chip.tick (n + 1))) none (counted s e t) := rfl

theorem doAct_await (wt : Wait) (ticks : Nat) : doAct e (boundary s e) t w (.await wt ticks) (atBoundary s e) =
    waitTask t w wt (if ticks = 0 then none else some (tickAdd s.chip.tick ticks)) (counted s e t) := rfl

theorem doAct_jump (p : Nat) : doAct e (boundary s e) t w (.jump p) (atBoundary s e) = nextStep e (boundary s e) t p (counted s e t) := rfl

theorem doAct_call (p : Nat) : doAct e (boundary s e) t w (.call p) (atBoundary s e) = nextStep e (boundary s e) t p
    ((counted s e t).setTask t { (counted s e t).task t with stack := ((counted s e t).task t).stack ++ [(s.chip.task t).pc + 1] }) := rfl

theorem doAct_ret : doAct e (boundary s e) t w .ret (atBoundary s e) =
    nextStep e (boundary s e) t (((counted s e t).task t).stack.getLast?.getD 0)
      ((counted s e t).setTask t { (counted s e t).task t with stack := ((counted s e t).task t).stack.dropLast }) := rfl

/-- The part after a MARK, its step counted (R170). -/
def marked (num : Word) : Chip :=
  { counted s e t with marks := s.chip.marks ++ [⟨e, t, num, (s.chip.task t).pc, boundary s e / 2⟩] }

theorem doAct_mark (num : Word) : doAct e (boundary s e) t w (.mark num) (atBoundary s e) =
    nextStep e (boundary s e) t ((s.chip.task t).pc + 1) (marked s e t num) := rfl

/-- The part after an END, its step counted: the task has ended, and its engine is idle (R176). -/
def ended : Chip :=
  (dropTask t (counted s e t)).setTask t { (dropTask t (counted s e t)).task t with state := .done, stack := [] }

theorem doAct_done : doAct e (boundary s e) t w .done (atBoundary s e) =
    raiseVia Event.TASK_TASK_DONE (reqSE e) t (ended s e t).phase [t] (ended s e t) := rfl

end OnCounted

/-! ### What the actions leave -/

@[simp] theorem waits_atPhase {e t : Nat} {w : StepWord} {wt : Wait} {deadline : Option Nat} {s : State} (ph : Nat) (c : Chip) :
    Waits e t w wt deadline s (atPhase ph c) ↔ Waits e t w wt deadline s c := Iff.rfl
@[simp] theorem goesOn_atPhase {e t pc : Nat} {s : State} (ph : Nat) (c : Chip) : GoesOn e t pc s (atPhase ph c) ↔ GoesOn e t pc s c := Iff.rfl
@[simp] theorem faults_atPhase {e t cause : Nat} {s : State} (ph : Nat) (c : Chip) : Faults e t cause s (atPhase ph c) ↔ Faults e t cause s c := Iff.rfl

/-- The step after leaves the queue of control-plane entries and the marks as they are. -/
theorem nextStep_queues (e b t pc : Nat) (c : Chip) : (nextStep e b t pc c).cqueue = c.cqueue ∧ (nextStep e b t pc c).marks = c.marks := by
  unfold nextStep
  dsimp only
  split
  · rw [makeReady_eq]
    exact ⟨rfl, rfl⟩
  · exact ⟨rfl, rfl⟩

theorem task_waitTask (t : Nat) (w : StepWord) (wt : Wait) (deadline : Option Nat) (c : Chip) : (waitTask t w wt deadline c).task t =
    { c.task t with
      state := .waiting, wait := some wt, deadline := deadline, ranTick := c.tick, realignOk := w.realignOk, quiet := w.quiet } := by
  unfold waitTask
  rw [dropTask_eq, task_setTask, if_pos rfl]
  rfl

theorem engine_waitTask {c : Chip} {e t : Nat} (h : engineOf c t = some e) (w : StepWord) (wt : Wait) (deadline : Option Nat) :
    ((waitTask t w wt deadline c).engine e).task = 0 := by
  unfold waitTask
  rw [engine_setTask]
  exact engine_dropTask h

section Actions

variable {s : State} {e t : Nat} {w : StepWord} (h : s.AtStep e t w)
include h

theorem State.AtStep.engineOf_counted : engineOf (counted s e t) t = some e := (Machine.engineOf_counted s e t).trans h.holds.2.2

theorem waits_waitTask (wt : Wait) (deadline : Option Nat) : Waits e t w wt deadline s (waitTask t w wt deadline (counted s e t)) := by
  unfold Waits
  rw [task_waitTask, engine_waitTask h.engineOf_counted, task_counted]
  exact ⟨rfl, rfl, rfl, rfl, rfl, rfl, rfl, rfl⟩

theorem faults_faultTask (req cause : Nat) : Faults e t cause s (faultTask req t cause (counted s e t)) := by
  unfold Faults
  rw [task_faultTask, if_pos rfl, engine_faultTask h.engineOf_counted, cqueue_faultTask, task_counted]
  exact ⟨rfl, rfl, rfl, rfl, rfl⟩

/-- A task made ready at the step after is in its ready list, and its engine is idle (R173). -/
theorem makeReady_advanced (b : Nat) : ((makeReady b t (advanced s e t)).task t).state = .ready
    ∧ ((makeReady b t (advanced s e t)).task t).pc = (s.chip.task t).pc + 1 ∧ ((makeReady b t (advanced s e t)).engine e).task = 0 := by
  have hidle := engine_makeReady (c := advanced s e t) ((engineOf_setTask ..).trans h.engineOf_counted) b
  have hpc : ((advanced s e t).task t).pc = (s.chip.task t).pc + 1 := by simp [advanced]
  rw [task_makeReady, if_pos rfl]
  exact ⟨rfl, hpc, hidle⟩

/-- The engine of a task that has ended is idle, and the store of registers is as before. -/
theorem ended_leaves : ((ended s e t).task t).state = .done ∧ ((ended s e t).task t).stack = [] ∧ ((ended s e t).engine e).task = 0
    ∧ (ended s e t).mem = s.chip.mem := by
  have hmem : (ended s e t).mem = s.chip.mem := by rw [ended, dropTask_eq]; rfl
  have hidle : ((ended s e t).engine e).task = 0 := by
    rw [ended, engine_setTask]
    exact engine_dropTask h.engineOf_counted
  exact ⟨by simp [ended], by simp [ended], hidle, hmem⟩

/-- After a step that does not block, its task goes on at `pc`, in its engine or, after the 32nd, from its ready list (R186). -/
theorem goesOn_nextStep {c : Chip} {stack : List Nat} (hc : engineOf c t = some e)
    (hk : c.task t = { s.chip.task t with steps := satInc 32 (s.chip.task t).steps, stack := stack })
    (he : c.engine e = { s.chip.engine e with free := boundary s e }) (b pc : Nat) :
    GoesOn e t pc s (nextStep e b t pc c) ∧ ((nextStep e b t pc c).task t).stack = stack := by
  obtain ⟨htask, -, -⟩ := h.holds
  have hcount : (c.engine e).count = (s.chip.engine e).count := by rw [he]
  unfold nextStep
  dsimp only
  rw [engine_setTask, hcount]
  split
  · next hn =>
    have h31 : (s.chip.engine e).count = 31 := by omega
    have hidle := engine_makeReady (c := c.setTask t { c.task t with pc := pc }) ((engineOf_setTask ..).trans hc) b
    refine ⟨⟨?_, ?_, fun _ => ⟨?_, hidle⟩, fun hne => absurd h31 hne⟩, ?_⟩ <;> simp [task_makeReady, readyCtx, hk]
  · next hn =>
    have h31 : (s.chip.engine e).count ≠ 31 := by omega
    refine ⟨⟨?_, ?_, fun h => absurd h h31, fun _ => ⟨?_, ?_, ?_⟩⟩, ?_⟩ <;> simp [hk, he, htask]

end Actions

/-! ### From the command to the action -/

section Completion

variable {i : Instr} {s : State} {e t op : Nat} {w : StepWord} (hi : exec i s = onLogic (engineStep e op w) s) (h : s.AtStep e t w)
include hi h

theorem completes_engineStep {a : StepAct} {P : Chip → Prop} {c : Chip} (ha : stepAct (atBoundary s e) t op w = a) (hs : actStages a = false)
    (hd : doAct e (boundary s e) t w a (atBoundary s e) = c) (hp : P (atPhase (stepStart s.chip e / 2) c)) : Completes i s P := by
  have hrun : s.chip.dev = .run := of_decide_eq_true (Bool.and_eq_true_iff.mp (Bool.and_eq_true_iff.mp h.runs.1).1).1
  have hlive : s.Live := by
    unfold State.Live
    rw [hrun]
    nofun
  refine completes_onLogic hi hlive ?_
  rw [engineStep_eq h ha hs, hd]
  exact hp

/-- A step whose operation is in order and stages nothing, and that leads to a step of the recipe memory, completes by its action. -/
theorem completes_act {a : StepAct} {P : Chip → Prop} {c : Chip} (ha : actOf (atBoundary s e) t op w = a) (hs : actStages a = false)
    (hn : actNext (s.chip.task t).pc (s.chip.task t).stack a ≤ 131071)
    (hd : doAct e (boundary s e) t w a (atBoundary s e) = c) (hp : P (atPhase (stepStart s.chip e / 2) c)) : Completes i s P := by
  refine completes_engineStep hi h ?_ hs hd hp
  rw [stepAct_eq h, ha, if_neg (Nat.not_lt.mpr hn)]

/-- A step whose operation faults faults its task. -/
theorem completes_fault {cause : Nat} (ha : actOf (atBoundary s e) t op w = .fault cause) : Completes i s (Faults e t cause s) :=
  completes_act hi h ha rfl (Nat.zero_le _) (doAct_fault ..) ((faults_atPhase ..).mpr (faults_faultTask h _ _))

/-- A step that leads past the last step of the recipe memory faults its task with BAD_TARGET (R176). -/
theorem completes_past {a : StepAct} (ha : actOf (atBoundary s e) t op w = a) (hn : 131071 < actNext (s.chip.task t).pc (s.chip.task t).stack a) :
    Completes i s (Faults e t 2 s) := by
  refine completes_engineStep (a := .fault 2) hi h ?_ rfl (doAct_fault ..) ((faults_atPhase ..).mpr (faults_faultTask h _ _))
  rw [stepAct_eq h, ha, if_pos hn]

end Completion

end Sys2Proof.Machine
end
section
/-!
O38: the steps that wait or move the step pointer (R171, R173-R176), and a step pointer past the last step of the recipe memory.
-/
namespace Sys2Proof.Machine

open Sys2Proof

/-- What stands after a step that moves the step pointer to `pc`: the task goes on there with that call stack, and no entry is asked for. -/
def Moves (e t pc : Nat) (stack : List Nat) (s : State) (c : Chip) : Prop :=
  GoesOn e t pc s c ∧ (c.task t).stack = stack ∧ c.cqueue = s.chip.cqueue

theorem moves_atPhase {e t pc : Nat} {stack : List Nat} {s : State} (ph : Nat) (c : Chip) :
    Moves e t pc stack s (atPhase ph c) ↔ Moves e t pc stack s c := Iff.rfl

theorem Reported.of_mem {d : EvDef} {c c' x : Chip} (hm : c'.mem = c.mem) (h : Reported d c' x) : Reported d c x := by
  intro he
  refine h ?_
  simpa only [evEnabled, rdB, rd32, hm] using he

theorem Reported.atPhase {d : EvDef} {c x : Chip} (ph : Nat) (h : Reported d c x) : Reported d c (atPhase ph x) := h

section Steps

variable {s : State} {e : Fin 16} {t : Nat} {w : StepWord} (h : s.AtStep e t w)
include h

/-! ### Steps that wait -/

theorem stepDelay_waits (ha : w.a = 0) (h1 : w.w1 ≠ 0) (h2 : w.w2 = 0) (h3 : w.w3 = 0) :
    Completes (.stepDelay e w) s (Waits e t w (.delay (tickAdd s.chip.tick w.w1.toNat)) none s) := by
  obtain ⟨n, hn⟩ : ∃ n, w.w1.toNat = n + 1 := Nat.exists_eq_succ_of_ne_zero (fun h0 => h1 (BitVec.eq_of_toNat_eq h0))
  rw [hn]
  exact completes_act (i := .stepDelay e w) rfl h ((actDelay_eq h2 h3 ha).trans (congrArg _ hn)) rfl (Nat.zero_le _) (doAct_delay_succ ..)
    ((waits_atPhase ..).mpr (waits_waitTask h _ _))

theorem stepDelay_zero (ha : w.a = 0) (h1 : w.w1 = 0) (h2 : w.w2 = 0) (h3 : w.w3 = 0) (hpc : (s.chip.task t).pc < 131071) :
    Completes (.stepDelay e w) s (fun c => (c.task t).state = .ready ∧ (c.task t).pc = (s.chip.task t).pc + 1 ∧ (c.engine e).task = 0) := by
  refine completes_act (i := .stepDelay e w) rfl h (actDelay_zero h2 h3 ha h1) rfl hpc (doAct_delay_zero ..) ?_
  simp only [task_atPhase, engine_atPhase]
  exact makeReady_advanced h _

/-- A wait for a signal or a flag, with a timeout of so many units of 16^`unit` ticks; none where it is zero (R171). -/
theorem completes_await {i : Instr} {op n unit : Nat} {wt : Wait} (hi : exec i s = onLogic (engineStep e op w) s)
    (ha : actOf (atBoundary s e) t op w = .await wt (n * 16 ^ unit)) :
    Completes i s (Waits e t w wt (if n = 0 then none else some (tickAdd s.chip.tick (n * 16 ^ unit))) s) := by
  have hunit : 16 ^ unit ≠ 0 := Nat.ne_of_gt (Nat.pow_pos (by decide))
  have hz : n * 16 ^ unit = 0 ↔ n = 0 := ⟨fun h => (Nat.mul_eq_zero.mp h).resolve_right hunit, fun h => by rw [h, Nat.zero_mul]⟩
  refine completes_act hi h ha rfl (Nat.zero_le _) (doAct_await ..) ?_
  rw [waits_atPhase]
  simp only [hz]
  exact waits_waitTask h _ _

/-! ### Steps that move the step pointer -/

/-- A step that goes on in its engine moves the step pointer. -/
theorem moves_nextStep {c : Chip} {stack : List Nat} (hc : engineOf c t = some e.val)
    (hk : c.task t = { s.chip.task t with steps := satInc 32 (s.chip.task t).steps, stack := stack })
    (he : c.engine e = { s.chip.engine e with free := boundary s e }) (hq : c.cqueue = s.chip.cqueue) (b pc : Nat) :
    Moves e t pc stack s (nextStep e b t pc c) := by
  obtain ⟨hgoes, hstack⟩ := goesOn_nextStep h hc hk he b pc
  exact ⟨hgoes, hstack, (nextStep_queues e b t pc c).1.trans hq⟩

theorem completes_jump {i : Instr} {op p : Nat} (hi : exec i s = onLogic (engineStep e op w) s)
    (ha : actOf (atBoundary s e) t op w = .jump p) (hp : p ≤ 131071) : Completes i s (Moves e t p (s.chip.task t).stack s) :=
  completes_act hi h ha rfl hp (doAct_jump ..) ((moves_atPhase ..).mpr
    (moves_nextStep h h.engineOf_counted (task_counted s e t) (engine_counted s e t) (cqueue_counted s e t) _ _))

theorem stepJump_moves (ha : w.a = 0) (h1 : w.w1.toNat < 0x20000) (h2 : w.w2 = 0) (h3 : w.w3 = 0) :
    Completes (.stepJump e w) s (Moves e t w.w1.toNat (s.chip.task t).stack s) :=
  completes_jump h rfl (actJump_eq h2 h3 ha h1) (by omega)

theorem stepBranch_moves {b : Bool} (h1 : fld w.w1 31 21 = 0) (hb : branchCond s.chip w = some b) (h5 : ¬ (fld w.w1 19 17 = 5 ∧ w.a = 0))
    (hpc : (b != wbit w.w1 20) = true ∨ (s.chip.task t).pc < 131071) : Completes (.stepBranch e w) s
      (Moves e t (if b != wbit w.w1 20 then fld w.w1 16 0 else (s.chip.task t).pc + 1) (s.chip.task t).stack s) := by
  refine completes_jump h rfl (actBranch_eq (c := atBoundary s e) _ h1 hb h5) ?_
  have hlt := fld_lt w.w1 16 0
  split
  · omega
  · next hn => exact hpc.resolve_left hn

theorem stepBranch_past {b : Bool} (h1 : fld w.w1 31 21 = 0) (hb : branchCond s.chip w = some b) (h5 : ¬ (fld w.w1 19 17 = 5 ∧ w.a = 0))
    (hn : (b != wbit w.w1 20) = false) (hpc : (s.chip.task t).pc = 131071) : Completes (.stepBranch e w) s (Faults e t 2 s) := by
  refine completes_past (i := .stepBranch e w) rfl h (actBranch_eq (c := atBoundary s e) _ h1 hb h5) ?_
  rw [hn]
  exact past_last hpc

theorem stepCall_moves (ha : w.a = 0) (h1 : w.w1.toNat < 0x20000) (h2 : w.w2 = 0) (h3 : w.w3 = 0) (hd : (s.chip.task t).stack.length < 8) :
    Completes (.stepCall e w) s (Moves e t w.w1.toNat ((s.chip.task t).stack ++ [(s.chip.task t).pc + 1]) s) := by
  refine completes_act (i := .stepCall e w) rfl h ((actCall_eq h2 h3 _ ha h1).trans (if_neg (Nat.not_le.mpr hd))) rfl (Nat.le_of_lt_succ h1)
    (doAct_call ..) ((moves_atPhase ..).mpr ?_)
  exact moves_nextStep (c := (counted s e t).setTask t _) h ((engineOf_setTask ..).trans h.engineOf_counted) (by simp [task_counted])
    (engine_counted s e t) (cqueue_counted s e t) _ _

theorem stepCall_ninth (ha : w.a = 0) (h1 : w.w1.toNat < 0x20000) (h2 : w.w2 = 0) (h3 : w.w3 = 0) (hd : 8 ≤ (s.chip.task t).stack.length) :
    Completes (.stepCall e w) s (Faults e t 3 s) :=
  completes_fault (i := .stepCall e w) rfl h ((actCall_eq h2 h3 _ ha h1).trans (if_pos hd))

section Return

variable (ha : w.a = 0) (h1 : w.w1 = 0) (h2 : w.w2 = 0) (h3 : w.w3 = 0)
include ha h1 h2 h3

theorem stepReturn_moves {below : List Nat} {ret : Nat} (hs : (s.chip.task t).stack = below ++ [ret]) (hret : ret ≤ 131071) :
    Completes (.stepReturn e w) s (Moves e t ret below s) := by
  have hnext : actNext (s.chip.task t).pc (s.chip.task t).stack .ret = ret := by rw [hs, actNext_ret]
  have hlast : ((counted s e t).task t).stack.getLast?.getD 0 = ret := by simp [task_counted, hs]
  refine completes_act (i := .stepReturn e w) rfl h (actReturn_push h2 h3 ha h1 hs) rfl (Nat.le_trans (Nat.le_of_eq hnext) hret) (doAct_ret ..)
    ((moves_atPhase ..).mpr ?_)
  rw [hlast]
  exact moves_nextStep (c := (counted s e t).setTask t _) h ((engineOf_setTask ..).trans h.engineOf_counted) (by simp [task_counted, hs])
    (engine_counted s e t) (cqueue_counted s e t) _ _

theorem stepReturn_past {below : List Nat} {ret : Nat} (hs : (s.chip.task t).stack = below ++ [ret]) (hret : 131071 < ret) :
    Completes (.stepReturn e w) s (Faults e t 2 s) :=
  completes_past (i := .stepReturn e w) rfl h (actReturn_push h2 h3 ha h1 hs) (by rwa [hs, actNext_ret])

theorem stepReturn_empty (hs : (s.chip.task t).stack = []) : Completes (.stepReturn e w) s (Faults e t 4 s) :=
  completes_fault (i := .stepReturn e w) rfl h ((actReturn_eq h2 h3 _ ha h1).trans (if_pos (congrArg List.length hs)))

end Return

/-! ### MARK and END -/

theorem stepMark_past (ha : w.a = 0) (h2 : w.w2 = 0) (h3 : w.w3 = 0) (hpc : (s.chip.task t).pc = 131071) :
    Completes (.stepMark e w) s (Faults e t 2 s) :=
  completes_past (i := .stepMark e w) rfl h (actMark_eq h2 h3 ha) (past_last hpc)

theorem stepDelay_past (ha : w.a = 0) (h1 : w.w1 = 0) (h2 : w.w2 = 0) (h3 : w.w3 = 0) (hpc : (s.chip.task t).pc = 131071) :
    Completes (.stepDelay e w) s (Faults e t 2 s) :=
  completes_past (i := .stepDelay e w) rfl h (actDelay_zero h2 h3 ha h1) (past_last hpc)

theorem stepMark_goesOn (ha : w.a = 0) (h2 : w.w2 = 0) (h3 : w.w3 = 0) (hpc : (s.chip.task t).pc < 131071) :
    Completes (.stepMark e w) s (fun c => GoesOn e t ((s.chip.task t).pc + 1) s c
      ∧ c.marks = s.chip.marks ++ [⟨e, t, w.w1, (s.chip.task t).pc, boundary s e / 2⟩] ∧ c.cqueue = s.chip.cqueue) := by
  obtain ⟨hgoes, -⟩ := goesOn_nextStep (c := marked s e t w.w1) h h.engineOf_counted (task_counted s e t) (engine_counted s e t) (boundary s e)
    ((s.chip.task t).pc + 1)
  obtain ⟨hqueue, hmarks⟩ := nextStep_queues e (boundary s e) t ((s.chip.task t).pc + 1) (marked s e t w.w1)
  refine completes_act (i := .stepMark e w) rfl h (actMark_eq h2 h3 ha) rfl hpc (doAct_mark ..) ?_
  simp only [goesOn_atPhase, atPhase_frame]
  exact ⟨hgoes, hmarks, hqueue⟩

theorem stepEnd_done (ha : w.a = 0) (h1 : w.w1 = 0) (h2 : w.w2 = 0) (h3 : w.w3 = 0) :
    Completes (.stepEnd e w) s (fun c => (c.task t).state = .done ∧ (c.task t).stack = [] ∧ (c.engine e).task = 0
      ∧ Reported Event.TASK_TASK_DONE s.chip c) := by
  obtain ⟨hstate, hstack, hidle, hmem⟩ := ended_leaves h
  refine completes_act (i := .stepEnd e w) rfl h (actEnd_eq h2 h3 ha h1) rfl (Nat.zero_le _) (doAct_done ..) ?_
  simp only [task_atPhase, engine_atPhase, task_raiseVia, engine_raiseVia]
  exact ⟨hstate, hstack, hidle, Reported.atPhase _ (Reported.of_mem hmem (reported_raiseVia _ _ _ _ _ _ (by decide)))⟩

/-! ### Steps at the last step of the recipe memory -/

/-- At the last step of the recipe memory, a step that stages an entry and does not wait faults its task. -/
theorem completes_stage_past {i : Instr} {op : Nat} {x : CtlOp} (hpc : (s.chip.task t).pc = 131071) (hi : exec i s = onLogic (engineStep e op w) s)
    (ha : actOf (atBoundary s e) t op w = .stage x false) : Completes i s (Faults e t 2 s) :=
  completes_past hi h ha (past_last hpc)

end Steps

/-! ### Waits that end at the last step of the recipe memory -/

theorem Completes.faults {i : Instr} {s : State} {u cause : Nat} (h : Completes i s (fun c => c.task u = faultedCtx cause (s.chip.task u))) :
    Completes i s (fun c => (c.task u).state = .faulted ∧ (c.task u).cause = cause ∧ (c.task u).faultPc = (s.chip.task u).pc) := by
  obtain ⟨t, hnext, hnv, hpending, hu⟩ := h
  exact ⟨t, hnext, hnv, hpending, congrArg _ hu, congrArg _ hu, congrArg _ hu⟩

theorem delayExpiry_past {s : State} {u : Fin 256} (hl : s.Live) (hd : delayDue s.chip u = true) (hpc : (s.chip.task u).pc = 131071) :
    Completes (.delayExpiry u) s (fun c => c.task u = faultedCtx 2 (s.chip.task u)) :=
  completes_onLogic rfl hl (task_delayExpiry_past (c := opened s.chip) hd hpc)

theorem keepsWaits_opened (c : Chip) : KeepsWaits c (opened c) := ⟨rfl, rfl, rfl, fun _ _ => rfl, fun _ h => h, rfl⟩

section Wake

variable {s : State} {u : Fin 256} (hl : s.Live) (hu : u.val ≠ 0) (hr : roleCode s.chip ≠ 4) (hs : (s.chip.task u).state = .waiting)
  (ha : waitAge s.chip (s.chip.task u) ≠ 0)
include hl hu hr

/-- The wake pass faults a waiting task whose evaluation, on the part as the task waits in it, faults it. -/
theorem wakePass_faults (hw : awaitsCondition (s.chip.task u) = true)
    (he : ∀ c₀ d : Chip, KeepsWaits s.chip c₀ → d.task u = s.chip.task u → d.tick = s.chip.tick →
      (evaluate c₀ u d).task u = faultedCtx 2 (s.chip.task u)) : Completes .wakePass s (fun c => c.task u = faultedCtx 2 (s.chip.task u)) :=
  completes_onLogic rfl hl (task_wakePass (c := opened s.chip) hr hw (by omega) (by omega) nofun
    (fun c₀ d hk => he c₀ d ((keepsWaits_opened s.chip).trans hk)))

include hs ha

theorem wakePass_moved_past {m : Nat} {q : Option Nat} (hw : (s.chip.task u).wait = some (.move m q (some 1))) (hpc : (s.chip.task u).pc = 131071) :
    Completes .wakePass s (fun c => c.task u = faultedCtx 2 (s.chip.task u)) := by
  refine wakePass_faults hl hu hr (by simp [awaitsCondition, hs, hw]) (fun c₀ d _ hd ht => task_evaluate_moved hd hs ?_ hw hpc)
  simpa only [waitAge, ht] using ha

variable (hj : judgedWait (s.chip.task u).wait = true)
include hj

theorem wakePass_holds_past (hw : (watch s.chip u (s.chip.task u)).1 = true) (hpc : 131070 ≤ (s.chip.task u).pc) :
    Completes .wakePass s (fun c => c.task u = faultedCtx 2 (s.chip.task u)) := by
  refine wakePass_faults hl hu hr (awaitsCondition_of_judged hs hj) (fun c₀ d hk hd ht => task_evaluate_holds hd hs ?_ hj ?_ hpc)
  · simpa only [waitAge, ht] using ha
  · rwa [hk.watch_eq]

theorem wakePass_timedOut_past (hw : (watch s.chip u (s.chip.task u)).1 = false) (hto : timedOut s.chip (s.chip.task u) = true)
    (hpc : (s.chip.task u).pc = 131071) : Completes .wakePass s (fun c => c.task u = faultedCtx 2 (s.chip.task u)) := by
  refine wakePass_faults hl hu hr (awaitsCondition_of_judged hs hj) (fun c₀ d hk hd ht => task_evaluate_timedOut hd hs ?_ hj ?_ ?_ hpc)
  · simpa only [waitAge, ht] using ha
  · rwa [hk.watch_eq]
  · simpa only [timedOut, ht] using hto

end Wake

/-- Settles O38: each clause is the step's action on the part at the step's boundary, and a step pointer past the last step turns the action into a
fault; in the wake pass, what comes before a task's evaluation leaves its condition to be judged as it stood. -/
theorem stepsMoveThePointer : Obligations.StepsMoveThePointer := by
  unfold Obligations.StepsMoveThePointer
  refine ⟨fun s e t w h => ?_, fun s u hl hu => ?_⟩
  · intro pc stk span
    refine ⟨stepDelay_waits h, stepDelay_zero h, completes_await h rfl rfl, fun ha h1 h2 h3 => completes_await h rfl (actWaitEvent_eq ha h1 h2 h3),
      fun ha h1 h2 h3 => ⟨stepCall_moves h ha h1 h2 h3, stepCall_ninth h ha h1 h2 h3⟩,
      fun ha h1 h2 h3 => ⟨fun _ _ => stepReturn_moves h ha h1 h2 h3, fun _ _ => stepReturn_past h ha h1 h2 h3, stepReturn_empty h ha h1 h2 h3⟩,
      stepJump_moves h, fun b h1 hb h5 => ⟨stepBranch_moves h h1 hb h5, stepBranch_past h h1 hb h5⟩, stepMark_goesOn h,
      fun ha h2 h3 hpc => ⟨stepMark_past h ha h2 h3 hpc, fun h1 => stepDelay_past h ha h1 h2 h3 hpc⟩, fun hpc => ?_, stepEnd_done h⟩
    have hpast {i : Instr} {op : Nat} {x : CtlOp} := completes_stage_past (i := i) (op := op) (x := x) h hpc
    exact ⟨fun ha h2 h3 => hpast rfl (actSet_eq h2 h3 ha), fun ha hr h3 => hpast rfl (actRamp_eq h3 ha hr),
      fun ha h3 => hpast rfl (actValve_eq h3 ha), fun ha h1 h2 h3 => hpast rfl (actMode_eq h2 h3 ha h1),
      fun ha h1 h2 h3 => hpast rfl (actSignal_eq h2 h3 ha h1), fun ha ha' h1 h2 h3 => hpast rfl (actFork_eq h2 h3 t ha ha' h1),
      fun ha h1 h0 h2 h3 => hpast rfl (actCapture_eq h2 h3 _ ha h1 h0), fun ha h1 => hpast rfl (actMove_eq t ha h1)⟩
  · intro k past
    exact ⟨fun hd hpc => (delayExpiry_past hl hd hpc).faults, fun hr hs ha =>
      ⟨fun m q hw hpc => (wakePass_moved_past hl hu hr hs ha hw hpc).faults, fun hj =>
        ⟨fun hw hpc => (wakePass_holds_past hl hu hr hs ha hj hw hpc).faults,
          fun hw hto hpc => (wakePass_timedOut_past hl hu hr hs ha hj hw hto hpc).faults⟩⟩⟩

end Sys2Proof.Machine
end
